-- ==== Sys2Proof/Word.lean ====
section
/-! DEFINITION. The word types of the ED-840 and the fixed-size tables that hold one value per slot, source, display or entry. -/

namespace Sys2Proof

/-- One byte of a report, a record or the profile image (13, R189). -/
abbrev Byte := BitVec 8

/-- A 16-bit field, little-endian on the wire (13, preamble). -/
abbrev Half := BitVec 16

/-- A fixed-size table: one value for each of `n` numbered things. -/
abbrev Table (α : Type) (n : Nat) := Vector α n

/-- The value a table holds for `i`. -/
def Table.get {α : Type} {n : Nat} (t : Table α n) (i : Fin n) : α := t[i.val]

/-- The table with `x` in place `i`. -/
def Table.put {α : Type} {n : Nat} (t : Table α n) (i : Fin n) (x : α) : Table α n := t.set i.val x

/-- The table whose place `i` holds `f i`. -/
def Table.tab {α : Type} {n : Nat} (f : Fin n → α) : Table α n := Vector.ofFn f

/-- The table with `f` applied in every place. -/
def Table.each {α β : Type} {n : Nat} (f : α → β) (t : Table α n) : Table β n := Table.tab fun i => f (t.get i)

/-- The table with `x` in every place. -/
def Table.all {α : Type} (n : Nat) (x : α) : Table α n := Vector.replicate n x

end Sys2Proof
end

