-- ==== Sys2Proof/Config.lean ====
section
/-! DEFINITION. What the manual fixes in the part as numbers, and the values it leaves open. -/

namespace Sys2Proof.Config

/-- The desk plane's lowest coordinate on each axis (03, R43). -/
def planeMin : Int := -4096

/-- The desk plane's highest coordinate on each axis (03, R43). -/
def planeMax : Int := 4095

/-- Entries a report queue holds (05, R84). -/
def reportCapacity : Nat := 16

/-- Responses a management response queue holds (05, R93). -/
def responseCapacity : Nat := 4

/-- Bytes of one management report, either way (05, section 5.6). -/
def managementReportSize : Nat := 64

/-- The 10 ms of resume signalling a slot port drives (05, R78). -/
def signallingMs : Nat := 10

/-- The 200 ms loss timer of a video channel (08, R130). -/
def lossMs : Nat := 200

/-- The longest line and the tallest frame a channel takes as usable (08, R126). -/
def frameLimit : Nat := 4096

/-- The still count stays at this value once it is reached (08, R132). -/
def stillCountMax : Nat := 4095

/-- Smallest width and height of a tile that COMMIT leaves enabled (09, R145). -/
def tileMin : Nat := 16

/-- Line times of a vertical blanking (09, R139). -/
def blankingLines : Nat := 45

/-- Bytes of the image area: four sectors of 4 KiB (12, R181). -/
def imageArea : Nat := 16384

/-- Bytes of one sector of the image area (12, R181). -/
def sectorSize : Nat := 4096

/-- Bytes of the profile image's header (13, R193). -/
def headerLength : Nat := 40

/-- Length a save stores in the header (13, R193). -/
def savedImageLength : Nat := 2861

/-- What a byte of erased flash reads as. DESIGN CHOICE (L7): the manual says erased flash holds no signature, not its byte. -/
def erasedByte : Byte := 0xFF

/-- FREE VALUE (L10). Does the pixel that passes a limit of R126 (the 4097th of a line: `true`, or the first of the 4097th
line: `false`) still enter the frame's signature? The manual says that no further pixel does once the channel stops
counting (08, R131) and does not say on which side of the stop this one pixel falls. -/
opaque limitPixelSigned (ofLine : Bool) : Bool

/-- FREE VALUE (L31). What the width or height field of a tile holds after COMMIT clips a tile that starts `past` pixels
past its display's edge: R145 gives the negative number W - x, which the 16-bit field of R191 does not code. -/
opaque sizePastEdge (past : Nat) : Half

/-- How far a flash step has come that is cut short: the sectors whose erase has ended, the cells changed in the sector or in the
signature word under way, and the bytes of the image programmed (12, R187; L8). -/
structure FlashCut where
  sectors : List Nat
  cells : List (Nat × Byte)
  bytes : Nat
  deriving DecidableEq, Repr, Inhabited

/-- FREE VALUE (L8). How far the flash step came that RESET or a busy flash cut short as the `n`th. The manual says that the
flash is left as the step left it (12, R187) and not how far the step gets. -/
opaque cutShortFlash (n : Nat) : FlashCut

/-- FREE VALUE (L35). Does an arrival with all deltas zero and no button change pay out a relative accumulator of 16 or more?
R47 says that such an arrival makes no entry; R54, R69 and R70 process the accumulators at every arrival a RELATIVE tile delivers
and pay a full one out even where P does not move at all. -/
opaque stillArrivalPays : Bool

end Sys2Proof.Config
end

