-- ==== Sys2Proof/Syntax.lean ====
section
/-! DEFINITION. The commands the ED-840 takes: one constructor of `Instr` for each row of spec/opcode_table.json,
with the operands the row's rules need (L19). -/

namespace Sys2Proof

/-- Slot 0 to slot 7 (00, Conventions). -/
abbrev Slot := Fin 8

/-- Source 0 to source 15, received by channels VI0 to VI15 (00, Conventions). -/
abbrev SourceIx := Fin 16

/-- Display 0 to display 3, shown by heads D0 to D3 (00, Conventions). -/
abbrev DisplayIx := Fin 4

/-- Tile 0 to tile 15 (00, Conventions). -/
abbrev TileIx := Fin 16

/-- Display timing profile 0 to 7 (00, Conventions). -/
abbrev ProfileIx := Fin 8

/-- The two console ports of the CIU (01, R1). -/
inductive ConsolePort where
  | keyboard
  | pointer
  deriving DecidableEq, Repr

/-- What kind of report interface an interface of a console device is (01, R1). -/
inductive InterfaceKind where
  | keyboard
  | pointer
  | other
  deriving DecidableEq, Repr

/-- The layout an interface's reports take: one of the two console layouts, or another (01, R1; 13, section 13.1). -/
inductive ReportLayout where
  | consoleKeyboard
  | consolePointer
  | other
  deriving DecidableEq, Repr

/-- An interface a console device offers (01, R1). -/
structure ReportInterface where
  kind : InterfaceKind
  layout : ReportLayout
  deriving DecidableEq, Repr

/-- What a console device makes of one request of a configuration step (01, R1). -/
inductive StepAnswer where
  | accepted
  | refused
  | silent
  deriving DecidableEq, Repr

/-- A console device as its configuration finds it: the interfaces it offers, and its answer to each request of the
configuration steps (01, R1; L20). -/
structure ConsoleDevice where
  interfaces : List ReportInterface
  answers : List StepAnswer
  deriving DecidableEq, Repr

/-- The five heads: D0 to D3 and the share head DS (00, Conventions). -/
inductive HeadIx where
  | display (d : DisplayIx)
  | share
  deriving DecidableEq, Repr

/-- A 24-bit colour: a pixel of a frame or an entry of the colour table (00, Conventions; 08, section 8.2). -/
structure Rgb where
  red : Byte
  green : Byte
  blue : Byte
  deriving DecidableEq, Repr

/-- The lines of a frame, top first, each the pixels it carried (08, R126). -/
abbrev Frame := List (List Rgb)

/-- The commands. Slot commands name their slot, source commands their source, head commands their head.
A management request carries the bytes of its output report that follow the kind code (13, R191). -/
inductive Instr where
  -- the console ports
  | consoleDeviceConnected (port : ConsolePort)
  | consoleConfigurationEnd (port : ConsolePort) (device : ConsoleDevice)
  | consoleDeviceDisconnected (port : ConsolePort)
  | keyboardReport (bytes : List Byte)
  | pointerReport (bytes : List Byte)
  | ledTransferComplete
  | ledTransferFailed
  -- the single timers
  | leadWindowExpiry
  | commandIdleExpiry
  | blinkExpiry
  -- the slot links
  | busPowerSensed (s : Slot)
  | busPowerLost (s : Slot)
  | busReset (s : Slot)
  | configuration1Selected (s : Slot)
  | configuration0Selected (s : Slot)
  | busIdle (s : Slot)
  | resumeSignalling (s : Slot)
  | resumeSignallingEnd (s : Slot)
  | setRemoteWakeupFeature (s : Slot)
  | clearRemoteWakeupFeature (s : Slot)
  | slotLedReport (s : Slot) (leds : Byte)
  | inPoll (s : Slot)
  | reportAcknowledged (s : Slot)
  | managementInPoll (s : Slot)
  | responseAcknowledged (s : Slot)
  -- management requests
  | read (s : Slot) (report : List Byte)
  | write (s : Slot) (report : List Byte)
  | commit (s : Slot) (report : List Byte)
  | focus (s : Slot) (report : List Byte)
  | wake (s : Slot) (report : List Byte)
  | share (s : Slot) (report : List Byte)
  | raise (s : Slot) (report : List Byte)
  | withdraw (s : Slot) (report : List Byte)
  | status (s : Slot) (report : List Byte)
  | save (s : Slot) (report : List Byte)
  | restart (s : Slot) (report : List Byte)
  -- the wake timers
  | wakeResponseExpiry (s : Slot)
  | wakePulseExpiry (s : Slot)
  | powerUpWaitExpiry (s : Slot)
  | queueHoldExpiry (s : Slot)
  -- the video channels and the heads
  | frameStart (n : SourceIx) (period : Fin 200000) (lines : Frame)
  | lossTimerExpiry (n : SourceIx)
  | verticalBlanking (h : HeadIx)
  -- RESET, the load and the save
  | resetAsserted
  | resetReleased
  | loadEnd (changed : List Host.Cell)
  | saveEraseEnd
  | saveProgramEnd
  | saveVerifyEnd (changed : List Host.Cell)
  | saveSignEnd (changed : List Host.Cell)
  | flashBusyTimeout
  | unknownKind (s : Slot) (kind : Byte) (report : List Byte)
  deriving DecidableEq, Repr

end Sys2Proof
end

