-- ==== Sys2Proof/Decode.lean ====
section
/-! DEFINITION. Commands spelt by the opcode table's bits. No row of spec/opcode_table.json gives bits ("fields": []
in every row, and no "fixed"), so no word spells a command; the byte layouts of requests and reports (13) are the
commands' operands and are decoded in Machine/Operands.lean and Machine/Requests.lean. -/

namespace Sys2Proof

/-- The command a word of the table's bits spells: none, for every word, since the table gives no row bits. -/
def decodeTableWord (_nbits _w : Nat) : Option Instr := none

end Sys2Proof
end

