-- ==== Sys2Proof/Machine/Records.lean ====
section
/-! DEFINITION. The records of the eight sections (11, section 11.3) as plain data, and the sets and codes they are made of. -/

namespace Sys2Proof.Machine

/-- A set of the eight modifiers: bit 0 LCTRL, 1 LSHIFT, 2 LALT, 3 LGUI, 4 RCTRL, 5 RSHIFT, 6 RALT, 7 RGUI (13, R190). -/
abbrev Modifiers := Byte

/-- A set of pointer buttons: button n in bit n - 1 (13, R190). -/
abbrev Buttons := BitVec 5

/-- The five indicators: bit 0 NUM_LOCK, 1 CAPS_LOCK, 2 SCROLL_LOCK, 3 COMPOSE, 4 KANA (13, R190). -/
abbrev Leds := BitVec 5

/-- How pointer input is delivered through a tile (09, section 9.3). -/
inductive PointerMode where
  | absolute
  | relative
  | none
  deriving DecidableEq, Repr

/-- Whether the part draws the overlay cursor over an ACTIVE computer (09, section 9.3). -/
inductive CursorMode where
  | own
  | overlay
  deriving DecidableEq, Repr

/-- The queue hold policy of a slot record (06, section 6.1). -/
inductive HoldPolicy where
  | keep
  | discard
  deriving DecidableEq, Repr

/-- Follow mode (01, section 1.3). -/
inductive FollowMode where
  | follow
  | separate
  deriving DecidableEq, Repr

/-- The two kinds of hotkey entry (02, section 2.1). -/
inductive HotkeyKind where
  | chord
  | command
  deriving DecidableEq, Repr

/-- The twelve actions, in the order of their codes (02, R37; 13, section 13.2). -/
inductive Action where
  | select
  | next
  | previous
  | attend
  | dismiss
  | wake
  | wakeAll
  | preset
  | glideLock
  | follow
  | share
  | passNext
  deriving DecidableEq, Repr

/-- The argument of an action: a slot, preset or display number, FOCUS, OFF, or none (02, section 2.1). -/
inductive Argument where
  | none
  | number (n : Fin 8)
  | focus
  | off
  deriving DecidableEq, Repr

/-- A modifier set together with one key code (00, Terms). -/
structure Chord where
  mods : Modifiers
  key : Byte
  deriving DecidableEq, Repr

/-- An access entry (11, section 11.2). Rights are sets of sections: bit n is section code n (13, section 13.2). -/
structure AccessEntry where
  readRights : Byte
  writeRights : Byte
  manageActions : Bool
  inputAllowed : Bool
  shareAllowed : Bool
  attentionAllowed : Bool
  events : Bool
  deriving DecidableEq, Repr

/-- A slot record (06, section 6.1; 04, R68; 07, section 7.1; 01, R17). `retriesCode` codes 1, 2, 4 or 8 retries. -/
structure SlotRecord where
  level : Fin 4
  retriesCode : BitVec 2
  wakeOnFocus : Bool
  wakeOnInput : Bool
  wakeLineWired : Bool
  policy : HoldPolicy
  gain : Nat
  blocked : List Chord
  deriving DecidableEq, Repr

/-- A source record (08, section 8.5). -/
structure SourceRecord where
  bound : Option Slot
  ax0 : Nat
  ax1 : Nat
  ay0 : Nat
  ay1 : Nat
  stillThreshold : Nat
  deriving DecidableEq, Repr

/-- A width in pixels, a height in lines and a refresh in frames per second: a display timing profile, and the values
a head or an enabled display has copied from one (09, R138, R139). -/
structure FrameValues where
  width : Nat
  height : Nat
  refresh : Nat
  deriving DecidableEq, Repr

/-- The values of a display that is NONE (11, R172: the ACTIVE view carries them as 0). -/
def FrameValues.zero : FrameValues := ⟨0, 0, 0⟩

/-- A display record (09, section 9.3); profile `none` is NONE, the display disabled. -/
structure DisplayRecord where
  profile : Option ProfileIx
  ox : Int
  oy : Int
  deriving DecidableEq, Repr

/-- A tile record (09, section 9.3). -/
structure TileRecord where
  enabled : Bool
  display : DisplayIx
  x : Nat
  y : Nat
  w : Nat
  h : Nat
  source : SourceIx
  pointerMode : PointerMode
  cursorMode : CursorMode
  border : Nat
  deriving DecidableEq, Repr

/-- A layout: four display records and sixteen tile records (09, section 9.3). -/
structure Layout where
  displays : Table DisplayRecord 4
  tiles : Table TileRecord 16
  deriving DecidableEq, Repr

/-- A hotkey entry (02, section 2.1). -/
structure Hotkey where
  enabled : Bool
  kind : HotkeyKind
  mods : Modifiers
  sideFree : Bool
  key : Byte
  action : Action
  argument : Argument
  stay : Bool
  deriving DecidableEq, Repr

/-- A key window (01, R11, R17). -/
structure KeyWindow where
  base : Byte
  limit : Byte
  slot : Slot
  deriving DecidableEq, Repr

/-- The general input record (11, R171); its follow mode is kept in the focus record (11, R172, R173). -/
structure GeneralInput where
  leadKey : Byte
  follow : FollowMode
  deskSpeed : Nat
  startSlot : Slot
  deriving DecidableEq, Repr

/-- A sprite's hot spot (09, R156). -/
structure HotSpot where
  hx : Nat
  hy : Nat
  deriving DecidableEq, Repr

/-- A timing entry: prescale code and constant, as written (10, R161). -/
structure TimingEntry where
  prescale : BitVec 2
  constant : Byte
  deriving DecidableEq, Repr

/-- Four rows of one sprite: 32 bytes of four 2-bit pixels (13, section 13.2). -/
abbrev SpriteRows := Table Byte 32

/-- The four sprites, by number (13, section 13.2). -/
inductive Sprite where
  | normal
  | waiting
  | blocked
  | gap
  deriving DecidableEq, Repr

/-- The LAYOUT section: display and tile records, profiles, share head record (13, R193). -/
structure LayoutSection where
  layout : Layout
  profiles : Table FrameValues 8
  shareRecord : Option ProfileIx
  deriving DecidableEq, Repr

/-- The INPUT section (13, R193). -/
structure InputSection where
  hotkeys : Table Hotkey 32
  windows : Table KeyWindow 4
  general : GeneralInput
  deriving DecidableEq, Repr

/-- The APPEARANCE section (13, R193). -/
structure AppearanceSection where
  colors : Table Rgb 11
  sprites : Table SpriteRows 32
  hotSpots : Table HotSpot 4
  shareCursor : Bool
  deriving DecidableEq, Repr

/-- The eight sections as a load installs them (12, R184, R185). -/
structure Sections where
  access : Table AccessEntry 8
  slots : Table SlotRecord 8
  sources : Table SourceRecord 16
  layout : LayoutSection
  presets : Table Layout 4
  input : InputSection
  appearance : AppearanceSection
  timing : Table TimingEntry 7
  deriving DecidableEq, Repr

/-- The tables in use (11, section 11.3): the working values of the sections. The active and pending layouts are the
Compositor's and the follow mode the Focus Controller's, so they are not repeated here. -/
structure Tables where
  access : Table AccessEntry 8
  slots : Table SlotRecord 8
  sources : Table SourceRecord 16
  profiles : Table FrameValues 8
  shareRecord : Option ProfileIx
  presets : Table Layout 4
  hotkeys : Table Hotkey 32
  windows : Table KeyWindow 4
  leadKey : Byte
  deskSpeed : Nat
  startSlot : Slot
  colors : Table Rgb 11
  sprites : Table SpriteRows 32
  hotSpots : Table HotSpot 4
  shareCursor : Bool
  timing : Table TimingEntry 7
  deriving DecidableEq, Repr

end Sys2Proof.Machine
end

