-- ==== Sys2Proof/Machine/Defaults.lean ====
section
/-! DEFINITION. The built-in values of a defaulted section (12, R185), section by section. -/

namespace Sys2Proof.Machine

/-- Slot 0 holds every right and flag; slots 1 to 7 the four flags (11, R169). -/
def defaultAccess : Table AccessEntry 8 := Table.tab fun n =>
  if n = 0 then ⟨0xFF, 0xFF, true, true, true, true, true⟩ else ⟨0, 0, false, true, true, true, true⟩

/-- Every slot: level 0, retries 2, wake on focus and input, no wake line, KEEP, gain 16, no blocked chord (12, R185). -/
def defaultSlotRecord : SlotRecord := ⟨0, 1, true, true, false, .keep, 16, []⟩

/-- Sources 0-7 bound to the slot of the same number, 8-15 unbound, full span, threshold 0 (08, R137). -/
def defaultSources : Table SourceRecord 16 := Table.tab fun n =>
  ⟨if h : n.val < 8 then some ⟨n.val, h⟩ else none, 0, 32767, 0, 32767, 0⟩

/-- 1920 x 1080 at 60 (09, R138). -/
def defaultProfile : FrameValues := ⟨1920, 1080, 60⟩

/-- D0-D3 side by side on profile 0 (12, R185). -/
def defaultDisplays : Table DisplayRecord 4 := Table.tab fun d => ⟨some 0, -3840 + 1920 * (d.val : Int), 0⟩

/-- Tile n (n = 0-3) full screen on display n; tiles 4-15 disabled (12, R185). -/
def defaultTiles : Table TileRecord 16 := Table.tab fun i =>
  if h : i.val < 4 then ⟨true, ⟨i.val, h⟩, 0, 0, 1920, 1080, i, .absolute, .own, 2⟩
  else ⟨false, 0, 0, 0, 16, 16, i, .absolute, .own, 2⟩

/-- The default display and tile records (12, R185). -/
def defaultLayout : Layout := ⟨defaultDisplays, defaultTiles⟩

/-- The LAYOUT section's defaults (12, R185). -/
def defaultLayoutSection : LayoutSection := ⟨defaultLayout, Table.all 8 defaultProfile, some 0⟩

/-- An entry of the built-in table: an enabled COMMAND entry, no modifiers, no stay (02, R42). -/
def commandEntry (key : Byte) (action : Action) (argument : Argument) : Hotkey :=
  ⟨true, .command, 0, false, key, action, argument, false⟩

/-- The disabled CHORD entry of entries 12 to 31 (02, R42). -/
def unusedEntry : Hotkey := ⟨false, .chord, 0, false, 4, .next, .none, false⟩

/-- The built-in hotkey table (02, R42). -/
def defaultHotkeys : Table Hotkey 32 := Table.tab fun n =>
  if h : n.val < 8 then commandEntry (30 + BitVec.ofNat 8 n.val) .select (.number ⟨n.val, h⟩)
  else if n.val = 8 then commandEntry 4 .attend .none
  else if n.val = 9 then commandEntry 7 .dismiss .none
  else if n.val = 10 then commandEntry 26 .wake .focus
  else if n.val = 11 then commandEntry 15 .glideLock .none
  else unusedEntry

/-- The INPUT section's defaults (12, R185). -/
def defaultInput : InputSection :=
  ⟨defaultHotkeys, Table.all 4 ⟨223, 4, 0⟩, ⟨71, .follow, 16, 0⟩⟩

/-- The colour table's defaults, in its order: BACKGROUND, NORMAL_BORDER, FOCUS, ALERT, ATTENDED, STILL, NO_SIGNAL,
PRIVACY, CURSOR_1, CURSOR_2, CURSOR_3 (09, R153). -/
def defaultColors : Table Rgb 11 :=
  #v[⟨0, 0, 0⟩, ⟨64, 64, 64⟩, ⟨0, 160, 255⟩, ⟨255, 64, 0⟩, ⟨255, 200, 0⟩, ⟨160, 0, 255⟩, ⟨32, 32, 96⟩,
     ⟨48, 48, 48⟩, ⟨255, 255, 255⟩, ⟨0, 0, 0⟩, ⟨128, 128, 128⟩]

/-- Distance of `a` from 15. -/
def from15 (a : Nat) : Nat := if 15 ≤ a then a - 15 else 15 - a

/-- Pixel value of a default sprite at column `c`, row `r` (09, R156). -/
def defaultSpritePixel (sprite : Nat) (c r : Nat) : Nat :=
  match sprite with
  | 0 => if r ≤ 15 ∧ c ≤ r then (if c = 0 ∨ c = r ∨ r = 15 then 2 else 1) else 0
  | 1 => let d := from15 r
         if 8 ≤ r ∧ r ≤ 22 ∧ 15 - d ≤ c ∧ c ≤ 15 + d then
           (if c = 15 - d ∨ c = 15 + d ∨ d = 7 then 2 else 1) else 0
  | 2 => let q := from15 c * from15 c + from15 r * from15 r
         if 100 ≤ q ∧ q ≤ 144 then 2 else if q < 100 ∧ c ≤ r + 1 ∧ r ≤ c + 1 then 2 else 0
  | _ => if (c = 15 ∧ 11 ≤ r ∧ r ≤ 19) ∨ (r = 15 ∧ 11 ≤ c ∧ c ≤ 19) then 1 else 0

/-- Byte `j` of row group `g` (sprite times 8 plus group): four pixels, leftmost in bits 0-1 (13, section 13.2). -/
def defaultSpriteByte (g j : Nat) : Byte :=
  let px := fun k => defaultSpritePixel (g / 8) (4 * (j % 8) + k) (4 * (g % 8) + j / 8)
  BitVec.ofNat 8 (px 0 + 4 * px 1 + 16 * px 2 + 64 * px 3)

/-- The four default sprites as 32 row groups (09, R156). -/
def defaultSprites : Table SpriteRows 32 := Table.tab fun g => Table.tab fun j => defaultSpriteByte g.val j.val

/-- The default hot spots: (0, 0) for NORMAL, (15, 15) for the others (09, R156). -/
def defaultHotSpots : Table HotSpot 4 := Table.tab fun n => if n = 0 then ⟨0, 0⟩ else ⟨15, 15⟩

/-- The APPEARANCE section's defaults (12, R185). -/
def defaultAppearance : AppearanceSection := ⟨defaultColors, defaultSprites, defaultHotSpots, false⟩

/-- The default timing entries T0 to T6 (10, section 10.1). -/
def defaultTiming : Table TimingEntry 7 :=
  #v[⟨1, 32⟩, ⟨2, 20⟩, ⟨1, 25⟩, ⟨1, 63⟩, ⟨1, 32⟩, ⟨2, 235⟩, ⟨2, 40⟩]

/-- All eight sections defaulted (12, R185). -/
def defaultSections : Sections where
  access := defaultAccess
  slots := Table.all 8 defaultSlotRecord
  sources := defaultSources
  layout := defaultLayoutSection
  presets := Table.all 4 defaultLayout
  input := defaultInput
  appearance := defaultAppearance
  timing := defaultTiming

/-- The tables in use that a load of `x` installs (12, R184). -/
def tablesOf (x : Sections) : Tables where
  access := x.access
  slots := x.slots
  sources := x.sources
  profiles := x.layout.profiles
  shareRecord := x.layout.shareRecord
  presets := x.presets
  hotkeys := x.input.hotkeys
  windows := x.input.windows
  leadKey := x.input.general.leadKey
  deskSpeed := x.input.general.deskSpeed
  startSlot := x.input.general.startSlot
  colors := x.appearance.colors
  sprites := x.appearance.sprites
  hotSpots := x.appearance.hotSpots
  shareCursor := x.appearance.shareCursor
  timing := x.timing

end Sys2Proof.Machine
end

