-- ==== Sys2Proof/Machine/State.lean ====
section
/-! DEFINITION. The state of the ED-840: every register, queue, counter, timer, mode and pin the manual gives its
twelve blocks, the queue of waiting commands, and the state after reset. Plain data throughout. -/

namespace Sys2Proof.Machine

/-- Reasons a step stops with a fault. There are none: the manual gives the part no condition that stops it (errors
are status codes, events or commands that change nothing), and the model adds none. -/
inductive Fault where
  deriving DecidableEq, Repr

/-- Reasons a command has no meaning in the model. -/
inductive Refusal where
  /-- Raised by `exec` for a command whose meaning is not written; no arm does so. Safe. -/
  | notModelled (mnemonic : String)
  deriving DecidableEq, Repr

/-- A running instance's duration and the time elapsed since its start, in milliseconds, or a stopped instance (10, R162). -/
inductive Wait where
  | stopped
  | running (duration elapsed : Nat)
  deriving DecidableEq, Repr

/-! ### Console Input Unit -/

/-- The attach state of a console port (01, R1). -/
inductive Attach where
  | detached
  | configuring
  | ready
  | refused
  deriving DecidableEq, Repr

/-- The Console Input Unit (01, R1 to R7). -/
structure Ciu where
  keyboardPort : Attach
  pointerPort : Attach
  /-- Modifiers of the physical key image (R2). -/
  mods : Modifiers
  /-- Key codes of the physical key image, ascending (R2). -/
  keys : List Byte
  /-- The physical button set (R4). -/
  buttons : Buttons
  /-- The composed LED state as last derived (R6). -/
  composed : Leds
  /-- The LED state sent, or none sent (R7). -/
  ledSent : Option Leds
  /-- The value the outstanding LED output transfer carries, if one is outstanding (R7). -/
  transfer : Option Leds
  retryHold : Bool
  resend : Bool
  deriving DecidableEq, Repr

/-! ### Focus Controller -/

/-- Where a held key's press went (01, section 1.3). -/
inductive Destination where
  | slot (s : Slot)
  | consumed
  | suppressed
  deriving DecidableEq, Repr

/-- A modifier set with a set of key codes, ascending: a sent image or a KEYBOARD report (01, R9; 05, section 5.4). -/
structure KeyImage where
  mods : Modifiers
  keys : List Byte
  deriving DecidableEq, Repr

/-- The image in which nothing is held. -/
def KeyImage.empty : KeyImage := ⟨0, []⟩

/-- The keyboard fields of the focus record and the per-slot sent images (01, section 1.3). -/
structure Fc where
  focus : Option Slot
  follow : FollowMode
  /-- The held-key map, key codes ascending. -/
  held : List (Byte × Destination)
  suppressed : Modifiers
  passNext : Bool
  sent : Table KeyImage 8
  deriving DecidableEq, Repr

/-! ### Hotkey Matcher -/

/-- The HKM's command state (02, section 2.4). -/
inductive CommandState where
  | normal
  | leadOne
  | command
  deriving DecidableEq, Repr

/-! ### Glide Unit -/

/-- The pointer fields of the focus record and the per-slot pointer state (03; 04). -/
structure Gu where
  px : Int
  py : Int
  rx : Int
  ry : Int
  /-- The current tile (R45). -/
  tile : Option TileIx
  /-- The current display (R45). -/
  display : Option DisplayIx
  pointerSlot : Option Slot
  glideLock : Bool
  suppressed : Buttons
  delivered : Table Buttons 8
  accX : Table Int 8
  accY : Table Int 8
  deriving DecidableEq, Repr

/-! ### Slot ports -/

/-- The link state of a slot (05, R75). -/
inductive Link where
  | off
  | attached
  | active
  | suspended
  | resuming
  deriving DecidableEq, Repr

/-- An entry of a report queue (05, section 5.4). -/
inductive Entry where
  | keyboard (image : KeyImage)
  | abs (buttons : Buttons) (x y : Int) (wheel : Int)
  | rel (buttons : Buttons) (dx dy : Int) (wheel : Int)
  deriving DecidableEq, Repr

/-- Status codes of a response, in the order of their codes (11, R168; 13, R191). -/
inductive Status where
  | done
  | armed
  | started
  | denied
  | badRequest
  | badSection
  | badIndex
  | badValue
  | conflict
  | busy
  | held
  deriving DecidableEq, Repr

/-- A management response: status, the echoed kind, section and index, and the payload (11, R167; 13, R191). -/
structure Response where
  status : Status
  kind : Byte
  section_ : Byte
  index : Half
  payload : List Byte
  deriving DecidableEq, Repr

/-- One slot port (05, section 5.1). -/
structure Port where
  link : Link
  /-- The report queue, oldest first. -/
  queue : List Entry
  /-- The report in hand. -/
  hand : Option Entry
  lastKeyboard : KeyImage
  lastButtons : Buttons
  leds : Leds
  remoteWake : Bool
  /-- The management response queue, oldest first. -/
  responses : List Response
  responseHand : Option Response
  /-- Running while the port drives its 10 ms of resume signalling (R78). -/
  signalling : Wait
  deriving DecidableEq, Repr

/-! ### Wake Controller -/

/-- The phase of a wake sequence (06, section 6.3). -/
inductive Phase where
  | idle
  | signal
  | await
  | linePulse
  | lineAwait
  | failed
  deriving DecidableEq, Repr

/-- The cause of a wake sequence (06, R98). -/
inductive Cause where
  | none
  | focus
  | input
  | wake
  | wakeAll
  | attend
  deriving DecidableEq, Repr

/-- One wake record (06, section 6.1); `line` is the level of output WAKEn. -/
structure WakeRecord where
  phase : Phase
  attempts : Nat
  cause : Cause
  line : Bool
  deriving DecidableEq, Repr

/-! ### Attention Unit -/

/-- An entry of the pending-alert set (07, R113). -/
structure Alert where
  slot : Slot
  level : Fin 4
  deriving DecidableEq, Repr

/-- An entry of the attended stack (07, R114). -/
structure Attended where
  slot : Slot
  level : Fin 4
  savedFocus : Option Slot
  savedX : Int
  savedY : Int
  deriving DecidableEq, Repr

/-- The Attention Unit: the pending-alert set in pending order, the attended stack with its top first (07). -/
structure Atu where
  alerts : List Alert
  stack : List Attended
  deriving DecidableEq, Repr

/-- The attention mark of a slot (07, R117). -/
inductive Mark where
  | none
  | showing
  | attended
  deriving DecidableEq, Repr

/-! ### Video input channels -/

/-- The lock state of a channel (08, section 8.3). -/
inductive Lock where
  | noSignal
  | measuring
  | locked
  deriving DecidableEq, Repr

/-- One video input channel (08, section 8.1); `frame` is the latest complete usable frame, empty lines left out. -/
structure Channel where
  lock : Lock
  width : Nat
  height : Nat
  period : Nat
  signature : BitVec 32
  stillCount : Nat
  still : Bool
  lossTimer : Wait
  frame : Frame
  deriving DecidableEq, Repr

/-! ### Compositor -/

/-- A display of the active or an armed layout: its record and the values copied from its profile, 0 for NONE (09, section 9.3). -/
structure ActiveDisplay where
  record : DisplayRecord
  values : FrameValues
  deriving DecidableEq, Repr

/-- The active layout (09, R143). -/
structure ActiveLayout where
  displays : Table ActiveDisplay 4
  tiles : Table TileRecord 16
  deriving DecidableEq, Repr

/-- An armed layout: its display and the tile records it claims (09, R142). -/
structure ArmedLayout where
  display : ActiveDisplay
  claims : Table (Option TileRecord) 16
  deriving DecidableEq, Repr

/-- What a head samples of a source (09, R139). -/
structure SourceSample where
  bound : Option Slot
  locked : Bool
  width : Nat
  height : Nat
  still : Bool
  frame : Frame
  deriving DecidableEq, Repr

/-- What a head samples of a slot (09, R139). -/
structure SlotSample where
  link : Link
  mark : Mark
  inputAllowed : Bool
  shareAllowed : Bool
  deriving DecidableEq, Repr

/-- Everything a head samples at a blanking (09, R139), with the overlay cursor sprite chosen (R155) and, for DS, the
share selection taken (R158). All sources are held, shown or not (L29). -/
structure Sample where
  layout : ActiveLayout
  sources : Table SourceSample 16
  slots : Table SlotSample 8
  focus : Option Slot
  blink : Bool
  colors : Table Rgb 11
  sprites : Table SpriteRows 32
  hotSpots : Table HotSpot 4
  shareCursor : Bool
  px : Int
  py : Int
  cursor : Option Sprite
  selection : Option DisplayIx
  deriving DecidableEq, Repr

/-- One head (09, R139, R140): the values it runs at, the values its latest blanking lasts for, its latest samples. -/
structure Head where
  running : Bool
  values : FrameValues
  blankingValues : FrameValues
  sample : Option Sample
  deriving DecidableEq, Repr

/-- The Compositor (09, R160); profiles, presets and the APPEARANCE values are in the tables. -/
structure Cmp where
  active : ActiveLayout
  /-- The pending layout (R141). -/
  layout : Layout
  armed : Table (Option ArmedLayout) 4
  heads : Table Head 4
  ds : Head
  /-- A share head record write that running DS has yet to take (R157). -/
  shareWritten : Bool
  /-- The share selection; `none` is OFF (R158). -/
  selection : Option DisplayIx
  /-- The requested selection (R158). -/
  requested : Option DisplayIx
  blink : Bool
  deriving DecidableEq, Repr

/-! ### Timing Bank -/

/-- The 35 instances (10, section 10.2). -/
structure Bank where
  t0 : Wait
  t1 : Wait
  t2 : Wait
  t3 : Table Wait 8
  t4 : Table Wait 8
  t5 : Table Wait 8
  t6 : Table Wait 8
  deriving DecidableEq, Repr

/-! ### Management Interface -/

/-- An event set: bit n is event n of the event table (13, section 13.3). -/
abbrev EventSet := BitVec 13

/-- What a status snapshot holds of a slot (11, R180, page 1). -/
structure SlotStatus where
  link : Link
  mark : Mark
  queueLength : Nat
  leds : Leds
  remoteWake : Bool
  line : Bool
  phase : Phase
  cause : Cause
  attempts : Nat
  deriving DecidableEq, Repr

/-- What a status snapshot holds of a channel (11, R180, page 3). -/
structure ChannelStatus where
  lock : Lock
  still : Bool
  width : Nat
  height : Nat
  period : Nat
  signature : BitVec 32
  stillCount : Nat
  deriving DecidableEq, Repr

/-- A status snapshot (11, R180); the stack is bottom first. -/
structure Snapshot where
  events : EventSet
  startCount : Half
  sender : Slot
  focus : Option Slot
  follow : FollowMode
  passNext : Bool
  glideLock : Bool
  saving : Bool
  command : CommandState
  px : Int
  py : Int
  pointerSlot : Option Slot
  delivered : Buttons
  selection : Option DisplayIx
  armed : Table Bool 4
  defaulted : Byte
  slots : Table SlotStatus 8
  alerts : List Alert
  stack : List (Slot × Fin 4 × Option Slot)
  channels : Table ChannelStatus 16
  deriving DecidableEq, Repr

/-- The MGI's own state (11); the access table is among the tables. -/
structure Mgi where
  startCount : Half
  events : Table EventSet 8
  snapshots : Table (Option Snapshot) 8
  deriving DecidableEq, Repr

/-! ### Profile Loader -/

/-- The step a running save has reached (12, R187). -/
inductive SaveStep where
  | erase
  | program
  | verify
  | sign
  deriving DecidableEq, Repr

/-- The loader state (12, preamble). -/
inductive Loader where
  | loading
  | idle
  | saving (step : SaveStep)
  deriving DecidableEq, Repr

/-- The Profile Loader (12). -/
structure Pl where
  loader : Loader
  /-- The flash stayed busy for more than 2 s during the load in progress (R182). -/
  flashBusy : Bool
  /-- The load copy; `none` is invalid (R182). -/
  loadCopy : Option (List Byte)
  saveBuffer : List Byte
  /-- The sections defaulted at the last load: bit n is section code n (R184). -/
  defaulted : Byte
  deriving DecidableEq, Repr

/-! ### The whole part -/

/-- The image area of the flash (12, R181): addresses strictly rising, no cell equal to an erased byte. -/
abbrev Memory := List Host.Cell

/-- The state of the part, block by block. -/
structure State where
  /-- The commands that wait, first in, first out (the model's own field). -/
  pending : List Instr
  /-- Input RESET is asserted (12, R183). -/
  resetLine : Bool
  tables : Tables
  ciu : Ciu
  fc : Fc
  hkm : CommandState
  gu : Gu
  ports : Table Port 8
  wakes : Table WakeRecord 8
  atu : Atu
  channels : Table Channel 16
  cmp : Cmp
  bank : Bank
  mgi : Mgi
  pl : Pl
  flash : Memory
  /-- How many flash steps have been cut short: the model's own counter, which a free value is applied to (L8). -/
  cuts : Nat
  deriving DecidableEq, Repr

/-! ### The state after reset -/

/-- Power-on values of the CIU (01, R1, R2, R4, R7). -/
def Ciu.reset : Ciu := ⟨.detached, .detached, 0, [], 0, 0, none, none, false, false⟩

/-- Power-on values of the FC with `start` and `follow` from the INPUT section (01, R8, R9). -/
def Fc.reset (start : Slot) (mode : FollowMode) : Fc :=
  ⟨some start, mode, [], 0, false, Table.all 8 KeyImage.empty⟩

/-- Power-on values of the GU (03, R61) over the default layout: P the centre of D0 (L1). -/
def Gu.reset : Gu :=
  ⟨-2880, 540, 0, 0, some 0, some 0, some 0, false, 0, Table.all 8 0, Table.all 8 0, Table.all 8 0⟩

/-- Power-on values of a slot port (05, R74). -/
def Port.reset : Port := ⟨.off, [], none, KeyImage.empty, 0, 0, false, [], none, .stopped⟩

/-- Power-on values of a wake record (06, R96). -/
def WakeRecord.reset : WakeRecord := ⟨.idle, 0, .none, false⟩

/-- Power-on values of a channel (08, R125). -/
def Channel.reset : Channel := ⟨.noSignal, 0, 0, 0, 0, 0, false, .stopped, []⟩

/-- A head that is not running and has sampled nothing. -/
def Head.stopped : Head := ⟨false, FrameValues.zero, FrameValues.zero, none⟩

/-- The active layout of the default LAYOUT section (09, R160). -/
def ActiveLayout.reset : ActiveLayout :=
  ⟨Table.tab fun d => ⟨defaultDisplays.get d, defaultProfile⟩, defaultTiles⟩

/-- The Compositor while RESET is asserted (09, R160; 12, R183: no head runs). -/
def Cmp.reset : Cmp :=
  ⟨ActiveLayout.reset, defaultLayout, Table.all 4 none, Table.all 4 Head.stopped, Head.stopped, false, none, none, false⟩

/-- Every instance stopped (10, R166: while RESET is asserted). -/
def Bank.reset : Bank :=
  ⟨.stopped, .stopped, .stopped, Table.all 8 .stopped, Table.all 8 .stopped, Table.all 8 .stopped, Table.all 8 .stopped⟩

/-- Power-on values of the MGI (11, section 11.7). -/
def Mgi.reset : Mgi := ⟨0, Table.all 8 0, Table.all 8 none⟩

/-- The Profile Loader while RESET is asserted (L22). -/
def Pl.reset : Pl := ⟨.idle, false, none, [], 0⟩

/-- The part with RESET asserted, a given queue, given flash contents and a given count of steps cut short: every block at its power-on values (12, R183). -/
def State.heldInReset (pending : List Instr) (flash : Memory) (cuts : Nat) : State where
  pending := pending
  resetLine := true
  tables := tablesOf defaultSections
  ciu := Ciu.reset
  fc := Fc.reset 0 .follow
  hkm := .normal
  gu := Gu.reset
  ports := Table.all 8 Port.reset
  wakes := Table.all 8 WakeRecord.reset
  atu := ⟨[], []⟩
  channels := Table.all 16 Channel.reset
  cmp := Cmp.reset
  bank := Bank.reset
  mgi := Mgi.reset
  pl := Pl.reset
  flash := flash
  cuts := cuts

/-- The state after reset: RESET asserted, an empty queue, an erased flash (L1). -/
def State.reset : State := State.heldInReset [] [] 0

end Sys2Proof.Machine
end

