-- ==== Sys2Proof/Machine/Ops.lean ====
section
/-! DEFINITION. The named operations every block uses: the flash's image area, reading and replacing one block of the
state, the Timing Bank's instances, and whether the part is taking events at all. -/

namespace Sys2Proof.Machine

/-! ### The image area of the flash -/

/-- A byte of the image area: the cell listed for `a`, or an erased byte (L7). -/
def Memory.read : Memory → Nat → Byte
  | [], _ => Config.erasedByte
  | (k, b) :: m, a => if a = k then b else Memory.read m a

/-- Remove the cell at `a`. -/
def Memory.erase (m : Memory) (a : Nat) : Memory := m.filter fun c => decide (c.1 ≠ a)

/-- Put a cell in its place by address; the address is not listed. -/
def Memory.insert (m : Memory) (a : Nat) (b : Byte) : Memory :=
  match m with
  | [] => [(a, b)]
  | (k, x) :: m' => if a < k then (a, b) :: (k, x) :: m' else (k, x) :: Memory.insert m' a b

/-- Write one byte; writing the erased byte removes the cell, so that equal contents are equal data. -/
def Memory.write (m : Memory) (a : Nat) (b : Byte) : Memory :=
  if b = Config.erasedByte then m.erase a else (m.erase a).insert a b

/-- Lay changes from outside over the contents; a change outside the image area touches nothing the part reads (12, R181; L7). -/
def Memory.change (m : Memory) (changed : List Host.Cell) : Memory :=
  changed.foldl (fun m c => if c.1 < Config.imageArea then m.write c.1 c.2 else m) m

/-- The `n` bytes from address `a` on, of contents whose cells below `a` have been dropped. -/
def Memory.readFrom : Nat → Nat → Memory → List Byte
  | 0, _, _ => []
  | n + 1, a, [] => Config.erasedByte :: Memory.readFrom n (a + 1) []
  | n + 1, a, (k, b) :: m =>
    if k = a then b :: Memory.readFrom n (a + 1) m
    else Config.erasedByte :: Memory.readFrom n (a + 1) ((k, b) :: m)

/-- `n` bytes from address `a` on. -/
def Memory.bytes (m : Memory) (a n : Nat) : List Byte := Memory.readFrom n a (m.dropWhile fun c => decide (c.1 < a))

/-- Contents that hold `bytes` from address `a` on and are erased elsewhere. -/
def Memory.ofBytes : Nat → List Byte → Memory
  | _, [] => []
  | a, b :: bs => if b = Config.erasedByte then Memory.ofBytes (a + 1) bs else (a, b) :: Memory.ofBytes (a + 1) bs

/-- The canonical form from address `a` on: addresses strictly rising, none below `a`, no erased byte listed. -/
def Memory.wfFrom : Nat → Memory → Bool
  | _, [] => true
  | a, (k, b) :: m => decide (a ≤ k) && decide (b ≠ Config.erasedByte) && Memory.wfFrom (k + 1) m

/-- The canonical form, with every listed address in the image area. -/
def Memory.wf (m : Memory) : Bool := m.wfFrom 0 && m.all fun c => decide (c.1 < Config.imageArea)

/-! ### Blocks of the state -/

def State.setTables (s : State) (x : Tables) : State := { s with tables := x }
def State.setCiu (s : State) (x : Ciu) : State := { s with ciu := x }
def State.setFc (s : State) (x : Fc) : State := { s with fc := x }
def State.setHkm (s : State) (x : CommandState) : State := { s with hkm := x }
def State.setGu (s : State) (x : Gu) : State := { s with gu := x }
def State.setPorts (s : State) (x : Table Port 8) : State := { s with ports := x }
def State.setWakes (s : State) (x : Table WakeRecord 8) : State := { s with wakes := x }
def State.setAtu (s : State) (x : Atu) : State := { s with atu := x }
def State.setChannels (s : State) (x : Table Channel 16) : State := { s with channels := x }
def State.setCmp (s : State) (x : Cmp) : State := { s with cmp := x }
def State.setBank (s : State) (x : Bank) : State := { s with bank := x }
def State.setMgi (s : State) (x : Mgi) : State := { s with mgi := x }
def State.setPl (s : State) (x : Pl) : State := { s with pl := x }
def State.setFlash (s : State) (x : Memory) : State := { s with flash := x }
def State.setCuts (s : State) (x : Nat) : State := { s with cuts := x }
def State.setReset (s : State) (x : Bool) : State := { s with resetLine := x }
def State.setPending (s : State) (x : List Instr) : State := { s with pending := x }

/-- The port of a slot. -/
def State.port (s : State) (n : Slot) : Port := s.ports.get n
/-- Replace the port of a slot. -/
def State.setPort (s : State) (n : Slot) (p : Port) : State := s.setPorts (s.ports.put n p)
/-- The link state of a slot. -/
def State.link (s : State) (n : Slot) : Link := (s.port n).link
/-- The wake record of a slot. -/
def State.wake (s : State) (n : Slot) : WakeRecord := s.wakes.get n
/-- Replace the wake record of a slot. -/
def State.setWake (s : State) (n : Slot) (w : WakeRecord) : State := s.setWakes (s.wakes.put n w)
/-- The channel of a source. -/
def State.channel (s : State) (n : SourceIx) : Channel := s.channels.get n
/-- Replace the channel of a source. -/
def State.setChannel (s : State) (n : SourceIx) (c : Channel) : State := s.setChannels (s.channels.put n c)
/-- The access entry of a slot. -/
def State.access (s : State) (n : Slot) : AccessEntry := s.tables.access.get n
/-- The slot record of a slot. -/
def State.slotRecord (s : State) (n : Slot) : SlotRecord := s.tables.slots.get n
/-- The source record of a source. -/
def State.source (s : State) (n : SourceIx) : SourceRecord := s.tables.sources.get n
/-- The sent image of a slot (01, R9). -/
def State.sent (s : State) (n : Slot) : KeyImage := s.fc.sent.get n
/-- Replace the sent image of a slot. -/
def State.setSent (s : State) (n : Slot) (k : KeyImage) : State := s.setFc { s.fc with sent := s.fc.sent.put n k }
/-- The delivered button set of a slot (03, R56). -/
def State.delivered (s : State) (n : Slot) : Buttons := s.gu.delivered.get n
/-- Replace the delivered button set of a slot. -/
def State.setDelivered (s : State) (n : Slot) (b : Buttons) : State :=
  s.setGu { s.gu with delivered := s.gu.delivered.put n b }

/-- Slots 0 to 7, in order. -/
def allSlots : List Slot := [0, 1, 2, 3, 4, 5, 6, 7]
/-- Displays 0 to 3, in order. -/
def allDisplays : List DisplayIx := [0, 1, 2, 3]
/-- Tiles or sources 0 to 15, in order. -/
def allSixteen : List (Fin 16) := [0, 1, 2, 3, 4, 5, 6, 7, 8, 9, 10, 11, 12, 13, 14, 15]

/-- The part takes events: RESET is not asserted and no load is running (12, R183). -/
def State.taking (s : State) : Bool := !s.resetLine && decide (s.pl.loader ≠ .loading)

/-- A command that only changes state, taken while the part takes events and otherwise changing nothing (12, R183). -/
def State.whenTaking (s : State) (f : State → State) : Host.Outcome State Fault Refusal :=
  .next (if s.taking then f s else s)

/-! ### Timing Bank instances (10) -/

/-- The instances, by entry and slot (10, section 10.2). -/
inductive TimerId where
  | t0
  | t1
  | t2
  | t3 (n : Slot)
  | t4 (n : Slot)
  | t5 (n : Slot)
  | t6 (n : Slot)
  deriving DecidableEq, Repr

/-- The entry an instance is a copy of (10, section 10.1). -/
def TimerId.entry : TimerId → Fin 7
  | .t0 => 0
  | .t1 => 1
  | .t2 => 2
  | .t3 _ => 3
  | .t4 _ => 4
  | .t5 _ => 5
  | .t6 _ => 6

/-- An entry's duration in milliseconds: its unit times its count, a constant of 0 counting 256 (10, R161). -/
def TimingEntry.duration (e : TimingEntry) : Nat :=
  (if e.prescale = 0 then 1 else if e.prescale = 1 then 16 else 256) *
  (if e.constant = 0 then 256 else e.constant.toNat)

/-- An instance of the bank. -/
def Bank.timer (b : Bank) : TimerId → Wait
  | .t0 => b.t0
  | .t1 => b.t1
  | .t2 => b.t2
  | .t3 n => b.t3.get n
  | .t4 n => b.t4.get n
  | .t5 n => b.t5.get n
  | .t6 n => b.t6.get n

/-- Replace an instance of the bank. -/
def Bank.setTimer (b : Bank) (i : TimerId) (w : Wait) : Bank :=
  match i with
  | .t0 => { b with t0 := w }
  | .t1 => { b with t1 := w }
  | .t2 => { b with t2 := w }
  | .t3 n => { b with t3 := b.t3.put n w }
  | .t4 n => { b with t4 := b.t4.put n w }
  | .t5 n => { b with t5 := b.t5.put n w }
  | .t6 n => { b with t6 := b.t6.put n w }

/-- An instance of the bank in the state. -/
def State.timer (s : State) (i : TimerId) : Wait := s.bank.timer i

/-- Start or restart an instance: it reads its entry's duration and its elapsed time begins at zero (10, R162). -/
def State.startTimer (s : State) (i : TimerId) : State :=
  s.setBank (s.bank.setTimer i (.running (s.tables.timing.get i.entry).duration 0))

/-- Stop an instance; a stopped one stays stopped (10, R162). -/
def State.stopTimer (s : State) (i : TimerId) : State := s.setBank (s.bank.setTimer i .stopped)

/-- Whether a wait is running. -/
def Wait.isRunning : Wait → Bool
  | .stopped => false
  | .running _ _ => true

/-- Whether a running wait's elapsed time has reached its duration (10, R162). -/
def Wait.due : Wait → Bool
  | .stopped => false
  | .running d e => decide (d ≤ e)

/-- A millisecond passes for a wait. -/
def Wait.advance : Wait → Wait
  | .stopped => .stopped
  | .running d e => .running d (e + 1)

/-- Stop T3, T4 and T5 of a slot, as leaving their phases does (06, section 6.3). -/
def State.stopWakeTimers (s : State) (n : Slot) : State :=
  ((s.stopTimer (.t3 n)).stopTimer (.t4 n)).stopTimer (.t5 n)

end Sys2Proof.Machine
end

