-- ==== Sys2Proof/Machine/Flags.lean ====
section
/-! DEFINITION. Every flag the part derives or sets: the event flags (11), the attention marks (07), the composed LED
state and the transfers it starts (01). -/

namespace Sys2Proof.Machine

/-! ### Event flags -/

/-- The thirteen events, in the order of the event table (11, section 11.5). -/
inductive EventKind where
  | layoutApplied
  | focusChanged
  | wakeDone
  | wakeFailed
  | sourceLost
  | sourceStill
  | alertRaised
  | alertAttended
  | queueOverflow
  | keyBlocked
  | saveDone
  | saveFailed
  | profileDefaulted
  deriving DecidableEq, Repr

/-- The event's bit (13, section 13.3). -/
def EventKind.bit : EventKind → EventSet
  | .layoutApplied => 1
  | .focusChanged => 2
  | .wakeDone => 4
  | .wakeFailed => 8
  | .sourceLost => 16
  | .sourceStill => 32
  | .alertRaised => 64
  | .alertAttended => 128
  | .queueOverflow => 256
  | .keyBlocked => 512
  | .saveDone => 1024
  | .saveFailed => 2048
  | .profileDefaulted => 4096

/-- Raise an event: its flag is set in the event set of every slot whose access entry holds EVENTS (11, R179). -/
def State.raiseEvent (s : State) (e : EventKind) : State :=
  s.setMgi { s.mgi with events := Table.tab fun n =>
    if (s.access n).events then s.mgi.events.get n ||| e.bit else s.mgi.events.get n }

/-! ### Attention marks -/

/-- A pending entry of level `l` is showing: the stack is empty or `l` exceeds its top's level (07, R117). -/
def Atu.showing (a : Atu) (l : Fin 4) : Bool :=
  match a.stack with
  | [] => true
  | top :: _ => decide (top.level < l)

/-- The attention mark of a slot (07, R117). -/
def Atu.mark (a : Atu) (n : Slot) : Mark :=
  if a.stack.head?.map (·.slot) = some n then .attended
  else if a.alerts.any fun e => decide (e.slot = n) && a.showing e.level then .showing
  else .none

/-! ### Console LEDs -/

/-- SCROLL_LOCK's bit (13, R190). -/
def scrollLock : Leds := 4

/-- The LED state of the focus slot, or all off when the focus is NONE (01, R6). -/
def State.focusLeds (s : State) : Leds :=
  match s.fc.focus with
  | none => 0
  | some n => (s.port n).leds

/-- The composed LED state: the focus slot's, but in COMMAND state SCROLL_LOCK follows the blink phase (01, R6; 02, R36). -/
def State.composedLeds (s : State) : Leds :=
  if s.hkm = .command then
    (if s.cmp.blink then s.focusLeds ||| scrollLock else s.focusLeds &&& ~~~scrollLock)
  else s.focusLeds

/-- Start an LED output transfer that carries the composed state; the retry hold and any re-send mark are clear (01, R7). -/
def Ciu.startTransfer (c : Ciu) : Ciu := { c with transfer := some c.composed, retryHold := false, resend := false }

/-- R7's third case: READY, no transfer outstanding, no retry hold, and the composed state differs from the one sent. -/
def Ciu.sendIfDue (c : Ciu) : Ciu :=
  if c.keyboardPort = .ready ∧ c.transfer = none ∧ c.retryHold = false ∧ c.ledSent ≠ some c.composed
  then c.startTransfer else c

/-- The composed state becomes `x`; a change of it clears the retry hold, and a transfer starts where one is due (01, R6, R7).
DESIGN CHOICE (L34): a change back to the LED state sent clears the hold and starts no transfer. -/
def Ciu.compose (c : Ciu) (x : Leds) : Ciu :=
  (if x = c.composed then c else { c with composed := x, retryHold := false }).sendIfDue

/-- The CIU recomputes the composed LED state (01, R6). -/
def State.updateLeds (s : State) : State := s.setCiu (s.ciu.compose s.composedLeds)

/-- The command state changes; the CIU recomputes the LEDs as COMMAND is entered or left (01, R6; 02, R36). -/
def State.setCommand (s : State) (c : CommandState) : State := (s.setHkm c).updateLeds

/-- The command state returns to NORMAL, stopping T0 and T1 (02, R31). -/
def State.commandToNormal (s : State) : State := ((s.stopTimer .t0).stopTimer .t1).setCommand .normal

end Sys2Proof.Machine
end

