-- ==== Sys2Proof/Machine/Ports.lean ====
section
/-! DEFINITION. Report queues (05, sections 5.4 and 5.5): hand-over of an entry with merging, eviction and overflow,
the release flush with the FC's and GU's parts, and the queue hold timer that follows each queue (06, R110). -/

namespace Sys2Proof.Machine

/-! ### Entries -/

/-- The button set of a POINTER entry; none for a KEYBOARD entry. -/
def Entry.buttons? : Entry → Option Buttons
  | .keyboard _ => none
  | .abs b _ _ _ => some b
  | .rel b _ _ _ => some b

/-- The release entry: a REL entry with no motion, no wheel and no buttons (03, R57). -/
def Entry.release : Entry := .rel 0 0 0 0

/-- A value within -127..127 (05, R86, R87). -/
def inCount (v : Int) : Bool := decide (-127 ≤ v) && decide (v ≤ 127)

/-- The newest entry merged with a new one, where R86 or R87 lets them merge. -/
def Entry.merge? : Entry → Entry → Option Entry
  | .abs b _ _ w, .abs b' x' y' w' => if b = b' ∧ inCount (w + w') then some (.abs b x' y' (w + w')) else none
  | .rel b dx dy w, .rel b' dx' dy' w' =>
    if b = b' ∧ inCount (dx + dx') ∧ inCount (dy + dy') ∧ inCount (w + w')
    then some (.rel b (dx + dx') (dy + dy') (w + w')) else none
  | _, _ => none

/-- The button set a new POINTER entry is compared with: the newest POINTER entry's in the queue, or the last
delivered button set when there is none (05, R85). -/
def newestButtons (last : Buttons) (q : List Entry) : Buttons :=
  q.foldl (fun b e => e.buttons?.getD b) last

/-- A new POINTER entry is pure motion when its button set is that one; a KEYBOARD entry never is (05, R85). -/
def pureMotion (last : Buttons) (q : List Entry) (e : Entry) : Bool :=
  match e.buttons? with
  | none => false
  | some b => decide (b = newestButtons last q)

/-- The queue without its oldest pure-motion entry, if it holds one (05, R85, R88). -/
def evictOldest (last : Buttons) : List Entry → Option (List Entry)
  | [] => none
  | e :: q =>
    match e.buttons? with
    | none => (evictOldest last q).map (e :: ·)
    | some b => if b = last then some q else (evictOldest b q).map (e :: ·)

/-- The queue with its newest entry merged with `e`, where R86 or R87 lets them merge. -/
def mergeNewest (q : List Entry) (e : Entry) : Option (List Entry) :=
  match q.getLast? with
  | none => none
  | some newest => (newest.merge? e).map fun m => q.dropLast ++ [m]

/-- What the queue becomes when `e` is handed over: merged, appended, dropped, or appended after an eviction; `none`
when no room can be made (05, R86 to R88). -/
def takeEntry (last : Buttons) (q : List Entry) (e : Entry) : Option (List Entry) :=
  match mergeNewest q e with
  | some q' => some q'
  | none =>
    if q.length < Config.reportCapacity then some (q ++ [e])
    else if pureMotion last q e then some q
    else (evictOldest last q).map (· ++ [e])

/-! ### The queue hold timer -/

/-- The condition under which T6 runs: not ACTIVE with a non-empty queue (06, R110). -/
def Port.waits (p : Port) : Bool := decide (p.link ≠ .active) && !p.queue.isEmpty

/-- Replace a port; T6 starts when R110's condition begins, stops when it ends, and is otherwise left alone. -/
def State.settlePort (s : State) (n : Slot) (p : Port) : State :=
  let s' := s.setPort n p
  if p.waits then (if (s.port n).waits then s' else s'.startTimer (.t6 n)) else s'.stopTimer (.t6 n)

/-- Replace a port after a release flush: T6 stops, and starts from its full duration if entries wait (06, R110). -/
def State.settleFlushedPort (s : State) (n : Slot) (p : Port) : State :=
  let s' := (s.setPort n p).stopTimer (.t6 n)
  if p.waits then s'.startTimer (.t6 n) else s'

/-! ### The FC's and GU's parts of a slot's losses -/

/-- The destination a slot's loss leaves: what named the slot becomes SUPPRESSED. -/
def Destination.without (n : Slot) : Destination → Destination
  | .slot m => if m = n then .suppressed else .slot m
  | d => d

/-- Every held-key entry that names slot `n` becomes SUPPRESSED and its sent image becomes empty (01, R18, R21, R22). -/
def State.suppressHeld (s : State) (n : Slot) : State :=
  s.setFc { s.fc with
    held := s.fc.held.map fun e => (e.1, e.2.without n)
    sent := s.fc.sent.put n KeyImage.empty }

/-- Every held physical modifier joins the suppressed set if `n` is the keyboard focus (01, R21, R22). -/
def State.suppressFocusModifiers (s : State) (n : Slot) : State :=
  if s.fc.focus = some n then s.setFc { s.fc with suppressed := s.fc.suppressed ||| s.ciu.mods } else s

/-- The FC's part of a release flush, and of a link reset (01, R21, R22). -/
def State.fcLoss (s : State) (n : Slot) : State := (s.suppressHeld n).suppressFocusModifiers n

/-- The GU's part of a release flush: the delivered buttons join the suppressed set and the set becomes empty (03, R60). -/
def State.guLoss (s : State) (n : Slot) : State :=
  s.setGu { s.gu with
    suppressed := s.gu.suppressed ||| s.gu.delivered.get n
    delivered := s.gu.delivered.put n 0 }

/-! ### Release flush and hand-over -/

/-- The entries a release flush queues: an empty KEYBOARD image if the last delivered one was not empty, then a
release entry if the last delivered button set was not empty (05, R89). -/
def Port.flushEntries (p : Port) : List Entry :=
  (if p.lastKeyboard = KeyImage.empty then [] else [.keyboard KeyImage.empty]) ++
  (if p.lastButtons = 0 then [] else [Entry.release])

/-- The port's part of a release flush (05, R89). -/
def Port.flushed (p : Port) : Port := { p with queue := p.flushEntries }

/-- A release flush of slot `n` (05, R89), with T6 handled after it (06, R110). -/
def State.releaseFlush (s : State) (n : Slot) : State :=
  let s' := (s.fcLoss n).guLoss n
  s'.settleFlushedPort n (s'.port n).flushed

/-- Hand an entry to a slot's port (05, R84 to R88). A slot that is OFF is handed nothing (01, R9; 03, R56); an entry
for which no room can be made is discarded after a release flush, and QUEUE_OVERFLOW is raised. -/
def State.handOver (s : State) (n : Slot) (e : Entry) : State :=
  if s.link n = .off then s
  else match takeEntry (s.port n).lastButtons (s.port n).queue e with
    | some q => s.settlePort n { s.port n with queue := q }
    | none => (s.releaseFlush n).raiseEvent .queueOverflow

/-- Queue the slot's sent image as it stands (01, R9). -/
def State.queueImage (s : State) (n : Slot) : State := s.handOver n (.keyboard (s.sent n))

/-! ### Link resets -/

/-- The port after a link reset to `l`: every item of R74's last two columns cleared (05, R79, R80). -/
def Port.linkReset (l : Link) : Port := { Port.reset with link := l }

end Sys2Proof.Machine
end

