-- ==== Sys2Proof/Machine/Wake.lean ====
section
/-! DEFINITION. The Wake Controller (06): triggers, the phases of a wake sequence, and what it does with link changes. -/

namespace Sys2Proof.Machine

/-- The outcome of a trigger (06, R99), in the order of its codes (13, R191). -/
inductive WakeOutcome where
  | started
  | running
  | active
  | failed
  deriving DecidableEq, Repr

/-- Attempts a slot record allows: 1, 2, 4 or 8 (06, section 6.1; 13, section 13.2). -/
def SlotRecord.retries (r : SlotRecord) : Nat := 2 ^ r.retriesCode.toNat

/-- A phase in which a sequence runs (06, R99). -/
def Phase.inSequence : Phase → Bool
  | .signal | .await | .linePulse | .lineAwait => true
  | .idle | .failed => false

/-- Enter a phase with its wake line level: asserted in LINE_PULSE alone (06, R109). -/
def State.setPhase (s : State) (n : Slot) (p : Phase) : State :=
  s.setWake n { s.wake n with phase := p, line := decide (p = .linePulse) }

/-- Apply the queue hold policy once: DISCARD flushes the slot, KEEP does nothing (06, R105, R111). -/
def State.applyHoldPolicy (s : State) (n : Slot) : State :=
  match (s.slotRecord n).policy with
  | .keep => s
  | .discard => s.releaseFlush n

/-- Enter FAILED (06, R105). -/
def State.enterFailed (s : State) (n : Slot) : State :=
  (((s.stopWakeTimers n).setPhase n .failed).raiseEvent .wakeFailed).applyHoldPolicy n

/-- Enter LINE_PULSE: WAKEn is asserted and T4 starts (06, R103). -/
def State.enterLinePulse (s : State) (n : Slot) : State :=
  ((s.stopWakeTimers n).setPhase n .linePulse).startTimer (.t4 n)

/-- Enter LINE_AWAIT: T5 starts (06, R103, R104). -/
def State.enterLineAwait (s : State) (n : Slot) : State :=
  ((s.stopWakeTimers n).setPhase n .lineAwait).startTimer (.t5 n)

/-- The remote wakeup attempts are exhausted: LINE_PULSE where the wake line is wired, otherwise FAILED (06, R101, R102, R108). -/
def State.wakeExhausted (s : State) (n : Slot) : State :=
  if (s.slotRecord n).wakeLineWired then s.enterLinePulse n else s.enterFailed n

/-- The link has become ACTIVE: a sequence, or FAILED, ends in IDLE with WAKE_DONE (06, R106). -/
def State.wakeOnActive (s : State) (n : Slot) : State :=
  if (s.wake n).phase = .idle then s
  else ((s.stopWakeTimers n).setPhase n .idle).raiseEvent .wakeDone

/-- The port takes a remote wakeup when it is SUSPENDED with remote-wake-permitted on (05, R78). -/
def Port.canSignal (p : Port) : Bool := decide (p.link = .suspended) && p.remoteWake

/-- The port after it takes a remote wakeup: RESUMING, driving its 10 ms (05, R78). -/
def Port.startSignal (p : Port) : Port := { p with link := .resuming, signalling := .running Config.signallingMs 0 }

/-- Enter SIGNAL: ask the port to start a remote wakeup; a refusal is taken as R101 says. -/
def State.enterSignal (s : State) (n : Slot) : State :=
  let s' := (s.stopWakeTimers n).setPhase n .signal
  if (s.port n).canSignal then s'.settlePort n (s'.port n).startSignal
  else if s.link n = .active then s'.wakeOnActive n
  else s'.wakeExhausted n

/-- Ask the port to end a remote wakeup: a RESUMING link returns to SUSPENDED, any other refuses (05, R78). -/
def State.endRemoteWakeup (s : State) (n : Slot) : State :=
  if s.link n = .resuming then s.settlePort n { s.port n with link := .suspended, signalling := .stopped } else s

/-- The start phase of a new sequence, by the link state (06, R99), with the trigger's outcome. A RESUMING link in IDLE
or FAILED does not arise (06, R99); the trigger is then taken as running (L23). -/
def State.startSequence (s : State) (n : Slot) : State × WakeOutcome :=
  match s.link n with
  | .active => (s, .active)
  | .resuming => (s, .running)
  | .attached => (s.enterLineAwait n, .started)
  | .suspended =>
    if (s.port n).remoteWake then (s.enterSignal n, .started)
    else if (s.slotRecord n).wakeLineWired then (s.enterLinePulse n, .started)
    else (s.enterFailed n, .failed)
  | .off =>
    if (s.slotRecord n).wakeLineWired then (s.enterLinePulse n, .started)
    else (s.enterFailed n, .failed)

/-- Take a trigger for slot `n` (06, R99): ignored when the slot is ACTIVE or its sequence is running. -/
def State.trigger (s : State) (n : Slot) (c : Cause) : State × WakeOutcome :=
  if s.link n = .active then (s, .active)
  else if (s.wake n).phase.inSequence ∨ s.link n = .resuming then (s, .running)
  else (s.setWake n { s.wake n with attempts := 0, cause := c }).startSequence n

/-- WAKE_ALL: one trigger with cause WAKE_ALL to each slot in turn, and the eight outcomes in slot order (06, R100). -/
def State.wakeAll (s : State) : State × List WakeOutcome :=
  allSlots.foldl (fun (acc : State × List WakeOutcome) n =>
    let r := acc.1.trigger n .wakeAll
    (r.1, acc.2 ++ [r.2])) (s, [])

/-- A wake-on-focus trigger, where the slot is not ACTIVE and its record asks for one (01, R18, R19). -/
def State.wakeOnFocus (s : State) (n : Slot) : State :=
  if s.link n ≠ .active ∧ (s.slotRecord n).wakeOnFocus then (s.trigger n .focus).1 else s

/-- A wake-on-input trigger, where the slot is not ACTIVE and its record asks for one (01, R12, R14; 03, R55). -/
def State.wakeOnInput (s : State) (n : Slot) : State :=
  if s.link n ≠ .active ∧ (s.slotRecord n).wakeOnInput then (s.trigger n .input).1 else s

/-- The WKC's part of a bus reset (06, R107). -/
def State.wakeOnBusReset (s : State) (n : Slot) : State :=
  match (s.wake n).phase with
  | .signal | .await | .linePulse => s.enterLineAwait n
  | .lineAwait | .idle | .failed => s

/-- The WKC's part of a loss of bus power (06, R108). -/
def State.wakeOnPowerLost (s : State) (n : Slot) : State :=
  match (s.wake n).phase with
  | .signal | .await => s.wakeExhausted n
  | .linePulse | .lineAwait | .idle | .failed => s

/-! ### Expiries and the end of signalling -/

/-- The port's 10 ms of signalling end, taken where they have elapsed (L3): the port stops driving, and in SIGNAL the
phase becomes AWAIT and T3 starts (05, R78; 06, R101). -/
def State.signallingEnds (s : State) (n : Slot) : State :=
  if (s.port n).signalling.due then
    let s' := s.setPort n { s.port n with signalling := .stopped }
    if (s'.wake n).phase = .signal then (s'.setPhase n .await).startTimer (.t3 n) else s'
  else s

/-- A T3 expiry, taken where T3's duration has elapsed (06, R102; 10, R163; L3). -/
def State.t3Expires (s : State) (n : Slot) : State :=
  if (s.timer (.t3 n)).due then
    let s1 := s.stopTimer (.t3 n)
    if (s1.wake n).phase = .await then
      let s2 := s1.endRemoteWakeup n
      let s3 := s2.setWake n { s2.wake n with attempts := (s2.wake n).attempts + 1 }
      if (s3.wake n).attempts < (s3.slotRecord n).retries then s3.enterSignal n else s3.wakeExhausted n
    else s1
  else s

/-- A T4 expiry, taken likewise (06, R103; L3). -/
def State.t4Expires (s : State) (n : Slot) : State :=
  if (s.timer (.t4 n)).due then
    let s1 := s.stopTimer (.t4 n)
    if (s1.wake n).phase = .linePulse then s1.enterLineAwait n else s1
  else s

/-- A T5 expiry, taken likewise (06, R104; L3). -/
def State.t5Expires (s : State) (n : Slot) : State :=
  if (s.timer (.t5 n)).due then
    let s1 := s.stopTimer (.t5 n)
    if (s1.wake n).phase = .lineAwait then s1.enterFailed n else s1
  else s

/-- A T6 expiry, taken likewise: the policy is applied, and T6 starts again if entries still wait (06, R111; L3). -/
def State.t6Expires (s : State) (n : Slot) : State :=
  if (s.timer (.t6 n)).due then
    let s1 := (s.stopTimer (.t6 n)).applyHoldPolicy n
    if (s1.port n).waits then s1.startTimer (.t6 n) else s1
  else s

end Sys2Proof.Machine
end

