-- ==== Sys2Proof/Machine/Focus.lean ====
section
/-! DEFINITION. The Focus Controller's own operations (01): the held-key map, modifier changes, key routing, delivery and
release, and the focus change. -/

namespace Sys2Proof.Machine

/-! ### Key sets and the held-key map -/

/-- Add a key code to an ascending list of codes. -/
def insertKey (k : Byte) : List Byte → List Byte
  | [] => [k]
  | a :: as => if k.toNat < a.toNat then k :: a :: as else if k = a then a :: as else a :: insertKey k as

/-- The ascending list of the codes of a list. -/
def sortKeys (ks : List Byte) : List Byte := ks.foldl (fun acc k => insertKey k acc) []

/-- Record a destination for a key code, replacing any earlier one; the map stays ascending. -/
def holdKey (k : Byte) (d : Destination) : List (Byte × Destination) → List (Byte × Destination)
  | [] => [(k, d)]
  | (a, x) :: m => if k.toNat < a.toNat then (k, d) :: (a, x) :: m else if k = a then (k, d) :: m else (a, x) :: holdKey k d m

/-- The destination recorded for a key code, if there is an entry. -/
def heldKey (k : Byte) (m : List (Byte × Destination)) : Option Destination :=
  (m.find? fun e => decide (e.1 = k)).map (·.2)

/-- Drop a key code's entry. -/
def dropKey (k : Byte) (m : List (Byte × Destination)) : List (Byte × Destination) :=
  m.filter fun e => decide (e.1 ≠ k)

/-- Record a held-key entry in the focus record. -/
def State.hold (s : State) (k : Byte) (d : Destination) : State := s.setFc { s.fc with held := holdKey k d s.fc.held }

/-! ### Receipt -/

/-- Slot `n` can receive keyboard input: not OFF, and its access entry holds INPUT_ALLOWED (01, section 1.3). -/
def State.canReceive (s : State) (n : Slot) : Bool := decide (s.link n ≠ .off) && (s.access n).inputAllowed

/-- The focus is deliverable: it is a slot that can receive (01, section 1.3). -/
def State.deliverable (s : State) : Bool :=
  match s.fc.focus with
  | none => false
  | some n => s.canReceive n

/-! ### Modifier changes (01, R16) -/

/-- The focus slot's sent modifier set as R16 gives it. -/
def State.focusModifiers (s : State) : Modifiers := if s.deliverable then s.ciu.mods &&& ~~~s.fc.suppressed else 0

/-- A modifier change: released modifiers leave the suppressed set, pressed ones join it if the focus is not
deliverable, and one image is queued to the focus slot if its sent modifier set changes (01, R16). -/
def State.modifierChange (s : State) (released pressed : Modifiers) : State :=
  let s1 := s.setFc { s.fc with suppressed :=
    (s.fc.suppressed &&& ~~~released) ||| (if s.deliverable then 0 else pressed) }
  match s1.fc.focus with
  | none => s1
  | some f =>
    if s1.focusModifiers = (s1.sent f).mods then s1
    else (s1.setSent f { s1.sent f with mods := s1.focusModifiers }).queueImage f

/-! ### Routing a press (01, R11 to R14) -/

/-- Key code `k` falls in an enabled window: base ≤ k ≤ limit, which holds of no code when the base exceeds the limit (01, R11). -/
def KeyWindow.covers (w : KeyWindow) (k : Byte) : Bool := decide (w.base.toNat ≤ k.toNat) && decide (k.toNat ≤ w.limit.toNat)

/-- The candidate destination of a press: the first window that covers it, otherwise the focus (01, R11). -/
def State.candidate (s : State) (k : Byte) : Option Slot :=
  match s.tables.windows.toList.find? (·.covers k) with
  | some w => some w.slot
  | none => s.fc.focus

/-- The chord of a press is in the slot's blocked list: equal key code and exactly the slot's sent modifiers (01, R13). -/
def State.isBlocked (s : State) (n : Slot) (k : Byte) : Bool :=
  (s.slotRecord n).blocked.any fun c => decide (c.key = k ∧ c.mods = (s.sent n).mods)

/-- Delivery of a press of `k` to slot `n` (01, R14). The wake-on-input trigger is given whatever became of the image (L11). -/
def State.deliverPress (s : State) (n : Slot) (k : Byte) : State :=
  let s1 := s.hold k (.slot n)
  ((s1.setSent n { s1.sent n with keys := insertKey k (s1.sent n).keys }).queueImage n).wakeOnInput n

/-- Route a press that the HKM has not consumed (01, R11 to R14). -/
def State.routePress (s : State) (k : Byte) : State :=
  match s.candidate k with
  | none => s.hold k .suppressed
  | some n =>
    if !(s.access n).inputAllowed then s.hold k .suppressed
    else if s.link n = .off then (s.hold k .suppressed).wakeOnInput n
    else if s.isBlocked n k then (s.hold k .suppressed).raiseEvent .keyBlocked
    else s.deliverPress n k

/-- A release of `k`: the destination recorded at press time loses it, and the entry is dropped (01, R15). -/
def State.releaseKey (s : State) (k : Byte) : State :=
  let s1 := match heldKey k s.fc.held with
    | some (.slot n) => (s.setSent n { s.sent n with keys := (s.sent n).keys.filter fun a => decide (a ≠ k) }).queueImage n
    | _ => s
  s1.setFc { s1.fc with held := dropKey k s1.fc.held }

/-! ### The focus change (01, R18) -/

/-- Steps 1 and 2 of R18 for the slot the focus leaves: its entries become SUPPRESSED, its sent image becomes empty,
and one image of that is queued unless it is OFF. -/
def State.leaveFocus (s : State) (f : Option Slot) : State :=
  match f with
  | none => s
  | some n => (s.suppressHeld n).queueImage n

/-- Steps 3 to 7 of R18. -/
def State.enterFocus (s : State) (t : Option Slot) : State :=
  ((s.setFc { s.fc with
      suppressed := s.fc.suppressed ||| s.ciu.mods
      passNext := false
      focus := t }).raiseEvent .focusChanged).updateLeds

/-- A focus change to target `t` (01, R18); no change when `t` is the focus. -/
def State.focusChange (s : State) (t : Option Slot) : State :=
  if t = s.fc.focus then s
  else
    let s1 := (s.leaveFocus s.fc.focus).enterFocus t
    match t with
    | none => s1
    | some n => s1.wakeOnFocus n

/-- The FC's part of a loss of bus power: that of a reset, and then a focus change to NONE if `n` is still the focus (01, R21). -/
def State.fcPowerLost (s : State) (n : Slot) : State :=
  let s1 := s.fcLoss n
  if s1.fc.focus = some n then s1.focusChange none else s1

/-- The FC's part of a write that removes INPUT_ALLOWED: as a flush, and one empty image if the slot was told of
anything held (01, R23). -/
def State.fcInputRemoved (s : State) (n : Slot) : State :=
  if s.sent n = KeyImage.empty then s.fcLoss n else (s.fcLoss n).queueImage n

/-! ### NEXT and PREVIOUS (01, R20) -/

/-- The slots in the order NEXT examines them: upward from the focus with wrap, the focus left out; all eight from 0 when it is NONE. -/
def nextOrder : Option Slot → List Slot
  | none => allSlots
  | some f => [f + 1, f + 2, f + 3, f + 4, f + 5, f + 6, f + 7]

/-- The slots in the order PREVIOUS examines them. -/
def previousOrder : Option Slot → List Slot
  | none => allSlots.reverse
  | some f => [f - 1, f - 2, f - 3, f - 4, f - 5, f - 6, f - 7]

end Sys2Proof.Machine
end

