-- ==== Sys2Proof/Machine/Glide.lean ====
section
/-! DEFINITION. The Glide Unit (03) and its arithmetic (04): places on the desk plane, desk motion, crossings, delivery,
relocation and re-evaluation, and SELECT, which joins the FC's part and the GU's. -/

namespace Sys2Proof.Machine

/-! ### Places on the desk plane (03, R43) -/

/-- A rectangle of the desk plane by its top-left point and size. -/
structure Rect where
  x : Int
  y : Int
  w : Int
  h : Int
  deriving DecidableEq, Repr

/-- A point lies in a rectangle. -/
def Rect.holds (r : Rect) (x y : Int) : Bool :=
  decide (r.x ≤ x) && decide (x < r.x + r.w) && decide (r.y ≤ y) && decide (y < r.y + r.h)

/-- Two rectangles share a point. -/
def Rect.meets (a b : Rect) : Bool :=
  decide (a.x < b.x + b.w) && decide (b.x < a.x + a.w) && decide (a.y < b.y + b.h) && decide (b.y < a.y + a.h) &&
  decide (0 < a.w) && decide (0 < a.h) && decide (0 < b.w) && decide (0 < b.h)

/-- A value replaced by the nearest end of a range it lies outside of (00, Conventions). -/
def clampInto (lo hi v : Int) : Int := if v < lo then lo else if hi < v then hi else v

/-- A point clamped into a rectangle, each axis separately (03, R48). -/
def Rect.clampX (r : Rect) (x : Int) : Int := clampInto r.x (r.x + r.w - 1) x
/-- The y axis of the same. -/
def Rect.clampY (r : Rect) (y : Int) : Int := clampInto r.y (r.y + r.h - 1) y

/-- The centre of a rectangle (03, R43). -/
def Rect.centreX (r : Rect) : Int := r.x + r.w / 2
/-- The y axis of the same. -/
def Rect.centreY (r : Rect) : Int := r.y + r.h / 2

/-- The rectangle an enabled display occupies; none for a display that is NONE (03, R43). -/
def ActiveDisplay.rect (d : ActiveDisplay) : Option Rect :=
  if d.record.profile.isSome then some ⟨d.record.ox, d.record.oy, d.values.width, d.values.height⟩ else none

/-- A tile's placed rectangle, if the tile is on the desk (03, R43). -/
def ActiveLayout.placed (l : ActiveLayout) (i : TileIx) : Option Rect :=
  let t := l.tiles.get i
  if t.enabled then
    (l.displays.get t.display).rect.map fun r => ⟨r.x + t.x, r.y + t.y, t.w, t.h⟩
  else none

/-- The tile on the desk whose placed rectangle contains a point (03, R45). -/
def ActiveLayout.tileAt (l : ActiveLayout) (x y : Int) : Option TileIx :=
  allSixteen.find? fun i => (l.placed i).any (·.holds x y)

/-- The enabled display whose rectangle contains a point (03, R45). -/
def ActiveLayout.displayAt (l : ActiveLayout) (x y : Int) : Option DisplayIx :=
  allDisplays.find? fun d => (l.displays.get d).rect.any (·.holds x y)

/-- The lowest-numbered enabled display's rectangle, if any display is enabled. -/
def ActiveLayout.firstRect (l : ActiveLayout) : Option Rect :=
  allDisplays.findSome? fun d => (l.displays.get d).rect

/-- The bound slot of a tile's source in the active layout (03, R45). -/
def State.tileSlot (s : State) (i : TileIx) : Option Slot := (s.source (s.cmp.active.tiles.get i).source).bound

/-- The pointer mode of a tile in the active layout. -/
def State.tileMode (s : State) (i : TileIx) : PointerMode := (s.cmp.active.tiles.get i).pointerMode

/-- The pointer slot a tile gives: its bound slot, or NONE without a tile (03, R45). -/
def State.slotOfTile (s : State) (i : Option TileIx) : Option Slot := i.bind s.tileSlot

/-- Recompute the current tile, the current display and the pointer slot from P (03, R45). -/
def State.locate (s : State) : State :=
  let i := s.cmp.active.tileAt s.gu.px s.gu.py
  s.setGu { s.gu with
    tile := i
    display := s.cmp.active.displayAt s.gu.px s.gu.py
    pointerSlot := s.slotOfTile i }

/-- P becomes (x, y), and what depends on it is recomputed. -/
def State.moveTo (s : State) (x y : Int) : State := (s.setGu { s.gu with px := x, py := y }).locate

/-- The tile and slot the current tile delivers to: a delivering mode, a slot with INPUT_ALLOWED whose link is not OFF (03, R45). -/
def State.delivers (s : State) : Option (TileIx × Slot) :=
  match s.gu.tile, s.gu.pointerSlot with
  | some i, some n =>
    if s.tileMode i ≠ .none ∧ (s.access n).inputAllowed ∧ s.link n ≠ .off then some (i, n) else none
  | _, _ => none

/-! ### Arithmetic (04) -/

/-- The computed move of a console delta: (delta × speed + residue) ÷ 16, truncated toward zero (04, R63). -/
def computedMove (d speed r : Int) : Int := (d * speed + r).tdiv 16

/-- The residue the computation leaves (04, R63). -/
def newResidue (d speed r : Int) : Int := d * speed + r - 16 * computedMove d speed r

/-- One axis of the absolute translation: offset `u` in a tile `w` long onto the span a0..a1 (04, R65). -/
def translateAxis (u w a0 a1 : Int) : Int := a0 + (2 * u * (a1 - a0) + (w - 1)) / (2 * (w - 1))

/-- The relative output of one axis (04, R69, steps 1 and 2). -/
def relativeOutput (acc m g : Int) : Int := clampInto (-127) 127 ((acc + m * g).tdiv 16)

/-- The accumulator after an output (04, R69, steps 3 and 4). -/
def newAccumulator (acc m g : Int) : Int := clampInto (-2047) 2047 (acc + m * g - 16 * relativeOutput acc m g)

/-- The translated position of a point in a tile on the desk (04, R65). -/
def State.translate (s : State) (i : TileIx) (x y : Int) : Int × Int :=
  let c := s.source (s.cmp.active.tiles.get i).source
  match s.cmp.active.placed i with
  | none => (c.ax0, c.ay0)
  | some r => (translateAxis (x - r.x) r.w c.ax0 c.ax1, translateAxis (y - r.y) r.h c.ay0 c.ay1)

/-- The deliverable buttons: the physical set minus the suppressed set (03, R46). -/
def State.deliverableButtons (s : State) : Buttons := s.ciu.buttons &&& ~~~s.gu.suppressed

/-! ### Relocation and re-evaluation (03, R57, R59) -/

/-- Hand the slot its release entry if its delivered button set is not empty, which becomes empty (03, R52, R57). -/
def State.releaseButtons (s : State) (n : Option Slot) : State :=
  match n with
  | none => s
  | some n => if s.delivered n = 0 then s else (s.setDelivered n 0).handOver n Entry.release

/-- Both relative accumulators of a slot become 0. -/
def State.clearAccumulators (s : State) (n : Slot) : State :=
  s.setGu { s.gu with accX := s.gu.accX.put n 0, accY := s.gu.accY.put n 0 }

/-- The relocation of P to (x, y) (03, R57). -/
def State.relocate (s : State) (x y : Int) : State :=
  let before := s.gu.pointerSlot
  let s1 := s.releaseButtons before
  let s2 := s1.setGu { s1.gu with suppressed := s1.gu.suppressed ||| s1.ciu.buttons, rx := 0, ry := 0 }
  let s3 := s2.moveTo x y
  let s4 := match s3.gu.pointerSlot with
    | some n => if before = some n then s3 else s3.clearAccumulators n
    | none => s3
  match s4.delivers with
  | some (i, n) =>
    if s4.tileMode i = .absolute then
      s4.handOver n (.abs 0 (s4.translate i x y).1 (s4.translate i x y).2 0)
    else s4
  | none => s4

/-- The home tile of a slot: the lowest-numbered tile on the desk bound to it (03, R58). -/
def State.homeTile (s : State) (n : Slot) : Option Rect :=
  allSixteen.findSome? fun i => if s.tileSlot i = some n then s.cmp.active.placed i else none

/-- In FOLLOW mode, relocate P to the centre of a slot's home tile, if it has one (03, R58). -/
def State.relocateHome (s : State) (n : Slot) : State :=
  if s.fc.follow = .follow then
    match s.homeTile n with
    | some r => s.relocate r.centreX r.centreY
    | none => s
  else s

/-- In FOLLOW mode, if the pointer slot is a slot other than `before`, the focus follows it (03, R59). -/
def State.followPointer (s : State) (before : Option Slot) : State :=
  if s.fc.follow = .follow ∧ s.gu.pointerSlot ≠ before ∧ s.gu.pointerSlot ≠ none
  then s.focusChange s.gu.pointerSlot else s

/-- A re-evaluation of P with a given target, then the focus in FOLLOW mode (03, R59). -/
def State.reevaluateTo (s : State) (x y : Int) : State := (s.relocate x y).followPointer s.gu.pointerSlot

/-- The re-evaluation that follows an activation: the centre of the lowest-numbered enabled display if a display is
enabled and P lies in none, otherwise P itself (03, R59). -/
def State.reevaluate (s : State) : State :=
  match s.cmp.active.displayAt s.gu.px s.gu.py, s.cmp.active.firstRect with
  | none, some r => s.reevaluateTo r.centreX r.centreY
  | _, _ => s.reevaluateTo s.gu.px s.gu.py

/-- SELECT of slot `n`: a focus change, or a wake-on-focus trigger if `n` is the focus already; in FOLLOW mode P goes to
its home tile (01, R19; 03, R58). -/
def State.select (s : State) (n : Slot) : State :=
  (if s.fc.focus = some n then s.wakeOnFocus n else s.focusChange (some n)).relocateHome n

/-- NEXT or PREVIOUS over the slots in `order`: SELECT of the first that can receive, if any (01, R20). -/
def State.selectFirst (s : State) (order : List Slot) : State :=
  match order.find? s.canReceive with
  | some n => s.select n
  | none => s

/-! ### One pointer arrival (03, R47) -/

/-- A pointer arrival: the buttons it pressed and released and its deltas (01, R4). -/
structure Arrival where
  pressed : Buttons
  released : Buttons
  dx : Int
  dy : Int
  wheel : Int
  deriving DecidableEq, Repr

/-- An arrival with all deltas zero and no button change (03, R47). -/
def Arrival.still (a : Arrival) : Bool :=
  decide (a.dx = 0 ∧ a.dy = 0 ∧ a.wheel = 0 ∧ a.pressed = 0 ∧ a.released = 0)

/-- The drag rule holds the pointer at a candidate (03, R49). -/
def State.dragHolds (s : State) (released : Buttons) (x y : Int) : Bool :=
  match s.gu.pointerSlot with
  | none => false
  | some n =>
    if s.delivered n &&& ~~~released = 0 then false
    else match s.cmp.active.tileAt x y with
      | none => true
      | some i =>
        if s.gu.tile = some i then false
        else decide (s.tileSlot i ≠ some n) || decide (s.tileMode i = .none)

/-- The rectangle glide lock keeps P in: the current tile's, or without one the current display's (03, R48, R50). -/
def State.lockRect (s : State) : Option Rect :=
  match s.gu.tile.bind s.cmp.active.placed with
  | some r => some r
  | none => s.gu.display.bind fun d => (s.cmp.active.displays.get d).rect

/-- A point clamped into a rectangle; P itself where there is none, which R44 rules out while a display is enabled (L23). -/
def State.clampTo (s : State) (r : Option Rect) (x y : Int) : Int × Int :=
  match r with
  | some r => (r.clampX x, r.clampY y)
  | none => (s.gu.px, s.gu.py)

/-- Where a candidate already clamped into the plane ends: the first test of R48 that applies. -/
def State.judge (s : State) (released : Buttons) (x y : Int) : Int × Int :=
  if s.gu.glideLock then s.clampTo s.lockRect x y
  else if s.dragHolds released x y then s.clampTo (s.gu.tile.bind s.cmp.active.placed) x y
  else if (s.cmp.active.displayAt x y).isSome then (x, y)
  else s.clampTo (s.gu.display.bind fun d => (s.cmp.active.displays.get d).rect) x y

/-- The crossing change from pointer slot `a` to pointer slot `b` (03, R52). -/
def State.crossing (s : State) (a b : Option Slot) (pressed : Buttons) : State :=
  let s1 := s.releaseButtons a
  let s2 := s1.setGu { s1.gu with suppressed := s1.gu.suppressed ||| (s1.ciu.buttons &&& ~~~pressed) }
  match b with
  | none => s2
  | some n =>
    let s3 := s2.clearAccumulators n
    if s3.fc.follow = .follow then s3.focusChange (some n) else s3

/-- The slot's relative output for an applied move, with its accumulators settled (04, R69). -/
def State.feedRelative (s : State) (n : Slot) (mx my : Int) : State × Int × Int :=
  let g : Int := (s.slotRecord n).gain
  let ax := s.gu.accX.get n
  let ay := s.gu.accY.get n
  (s.setGu { s.gu with accX := s.gu.accX.put n (newAccumulator ax mx g), accY := s.gu.accY.put n (newAccumulator ay my g) },
   relativeOutput ax mx g, relativeOutput ay my g)

/-- Hand a made entry to the pointer slot with the deliverable buttons counted as delivered, then the wake-on-input
trigger where the entry adds a button towards a slot that is not ACTIVE (03, R53 to R56). -/
def State.handPointer (s : State) (n : Slot) (e : Entry) : State :=
  let added := s.deliverableButtons &&& ~~~s.delivered n
  let s1 := (s.setDelivered n s.deliverableButtons).handOver n e
  if added = 0 then s1 else s1.wakeOnInput n

/-- Delivery of an arrival through a delivering tile (03, R53, R54). -/
def State.deliverArrival (s : State) (i : TileIx) (n : Slot) (mx my wheel : Int) (entered : Bool) : State :=
  let buttons := s.deliverableButtons
  match s.tileMode i with
  | .absolute =>
    if mx ≠ 0 ∨ my ≠ 0 ∨ buttons ≠ s.delivered n ∨ wheel ≠ 0 ∨ entered then
      s.handPointer n (.abs buttons (s.translate i s.gu.px s.gu.py).1 (s.translate i s.gu.px s.gu.py).2 wheel)
    else s
  | .relative =>
    let r := s.feedRelative n mx my
    if r.2.1 ≠ 0 ∨ r.2.2 ≠ 0 ∨ buttons ≠ s.delivered n ∨ wheel ≠ 0 then
      r.1.handPointer n (.rel buttons r.2.1 r.2.2 wheel)
    else r.1
  | .none => s

/-- An arrival whose current tile does not deliver: its pressed buttons join the suppressed set, and a press towards an
OFF slot that holds INPUT_ALLOWED may give a wake-on-input trigger (03, R55). -/
def State.consumeArrival (s : State) (pressed : Buttons) : State :=
  let s1 := s.setGu { s.gu with suppressed := s.gu.suppressed ||| pressed }
  match s1.gu.tile, s1.gu.pointerSlot with
  | some i, some n =>
    if pressed ≠ 0 ∧ s1.tileMode i ≠ .none ∧ (s1.access n).inputAllowed ∧ s1.link n = .off then s1.wakeOnInput n else s1
  | _, _ => s1

/-- A relative accumulator of the slot stores an output: 16 sixteenths or more (04, R69). -/
def State.storesOutput (s : State) (n : Slot) : Bool :=
  decide (16 ≤ (s.gu.accX.get n).natAbs) || decide (16 ≤ (s.gu.accY.get n).natAbs)

/-- The arrival makes no entry in a delivering tile, having no delta and no button change (03, R47). Where a RELATIVE tile's
accumulators store an output that R70 pays out, the rules disagree, and which of them holds is a free value (L35). -/
def State.passesOver (s : State) (a : Arrival) (i : TileIx) (n : Slot) : Bool :=
  a.still && !(decide (s.tileMode i = .relative) && s.storesOutput n && Config.stillArrivalPays)

/-- Step 5 of R47: delivery or consumption. -/
def State.finishArrival (s : State) (a : Arrival) (mx my : Int) (crossed : Bool) : State :=
  match s.delivers with
  | some (i, n) => if s.passesOver a i n then s else s.deliverArrival i n mx my a.wheel crossed
  | none => s.consumeArrival a.pressed

/-- Steps 2 to 5 of R47 while a display is enabled. -/
def State.moveArrival (s : State) (a : Arrival) : State :=
  let speed : Int := s.tables.deskSpeed
  let cx := computedMove a.dx speed s.gu.rx
  let cy := computedMove a.dy speed s.gu.ry
  let p := s.judge a.released (clampInto Config.planeMin Config.planeMax (s.gu.px + cx))
    (clampInto Config.planeMin Config.planeMax (s.gu.py + cy))
  let mx := p.1 - s.gu.px
  let my := p.2 - s.gu.py
  let s1 := s.setGu { s.gu with
    rx := if mx = cx then newResidue a.dx speed s.gu.rx else 0
    ry := if my = cy then newResidue a.dy speed s.gu.ry else 0 }
  let b := s1.slotOfTile (s1.cmp.active.tileAt p.1 p.2)
  let crossed := decide (b ≠ s1.gu.pointerSlot)
  let s2 := if crossed then s1.crossing s1.gu.pointerSlot b a.pressed else s1
  (s2.moveTo p.1 p.2).finishArrival a mx my crossed

/-- The GU takes a pointer arrival whole (03, R47). With no display enabled P does not move, both residues become 0, the
pointer slot is NONE and the arrival is consumed (R51). -/
def State.pointerArrival (s : State) (a : Arrival) : State :=
  let s1 := s.setGu { s.gu with suppressed := s.gu.suppressed &&& ~~~a.released }
  match s1.cmp.active.firstRect with
  | some _ => s1.moveArrival a
  | none =>
    (s1.setGu { s1.gu with rx := 0, ry := 0, tile := none, display := none, pointerSlot := none }).consumeArrival a.pressed

/-! ### Losses (03, R60) -/

/-- The GU's part of a link reset: as of a flush, and the slot's accumulators become 0 (03, R60). -/
def State.guLinkReset (s : State) (n : Slot) : State := (s.guLoss n).clearAccumulators n

/-- The GU's part of a loss of INPUT_ALLOWED: the release entry, and the buttons join the suppressed set (03, R60). -/
def State.guInputRemoved (s : State) (n : Slot) : State :=
  if s.delivered n = 0 then s else (s.guLoss n).handOver n Entry.release

end Sys2Proof.Machine
end

