-- ==== Sys2Proof/Machine/Attention.lean ====
section
/-! DEFINITION. The Attention Unit (07): the pending-alert set, ATTEND, DISMISS, the restore, and removal at a link reset. -/

namespace Sys2Proof.Machine

/-- Pending order: higher level first, and among equal levels the lower slot number first (07, R113). -/
def Alert.before (a b : Alert) : Bool := decide (b.level < a.level ∨ (a.level = b.level ∧ a.slot < b.slot))

/-- Put an alert at its place in pending order. -/
def insertAlert (a : Alert) : List Alert → List Alert
  | [] => [a]
  | b :: bs => if a.before b then a :: b :: bs else b :: insertAlert a bs

/-- The pending-alert set without slot `n`'s entry. -/
def removeAlert (n : Slot) (l : List Alert) : List Alert := l.filter fun a => decide (a.slot ≠ n)

/-- Slot `n` has a pending alert. -/
def Atu.isPending (a : Atu) (n : Slot) : Bool := a.alerts.any fun e => decide (e.slot = n)

/-- Slot `n` is on the attended stack. -/
def Atu.isStacked (a : Atu) (n : Slot) : Bool := a.stack.any fun e => decide (e.slot = n)

/-- A write of slot `n`'s attention level: a pending entry takes it and its new place; a stack entry keeps its own (07, R118). -/
def Atu.relevel (a : Atu) (n : Slot) (l : Fin 4) : Atu :=
  if a.isPending n then { a with alerts := insertAlert ⟨n, l⟩ (removeAlert n a.alerts) } else a

/-- The restore of a saved focus and a saved P (07, R121). -/
def State.restore (s : State) (f : Option Slot) (x y : Int) : State :=
  let s1 := s.focusChange f
  if s1.fc.follow = .follow then
    if (s1.cmp.active.displayAt x y).isSome then s1.relocate x y
    else match f.bind s1.homeTile with
      | some r => s1.relocate r.centreX r.centreY
      | none => s1
  else s1

/-- Step 4 of R119: an ATTEND trigger for a slot that is not ACTIVE, whatever its wake settings. -/
def State.attendTrigger (s : State) (n : Slot) : State :=
  if s.link n = .active then s else (s.trigger n .attend).1

/-- ATTEND: take the first showing entry in pending order (07, R119). -/
def State.attend (s : State) : State :=
  match s.atu.alerts.find? fun a => s.atu.showing a.level with
  | none => s
  | some a =>
    let s1 := s.setAtu {
      alerts := removeAlert a.slot s.atu.alerts
      stack := ⟨a.slot, a.level, s.fc.focus, s.gu.px, s.gu.py⟩ :: s.atu.stack }
    ((s1.select a.slot).attendTrigger a.slot).raiseEvent .alertAttended

/-- DISMISS: pop the top entry and restore its saved values (07, R120). -/
def State.dismiss (s : State) : State :=
  match s.atu.stack with
  | [] => s
  | top :: rest => (s.setAtu { s.atu with stack := rest }).restore top.savedFocus top.savedX top.savedY

/-- Remove slot `n` from below the top of the stack; the entry directly above takes over its saved values (07, R122). -/
def removeBelow (n : Slot) : List Attended → List Attended
  | above :: e :: rest =>
    if e.slot = n then { above with savedFocus := e.savedFocus, savedX := e.savedX, savedY := e.savedY } :: rest
    else above :: removeBelow n (e :: rest)
  | l => l

/-- The ATU's part of a link reset of slot `n` (07, R122, R123). -/
def State.atuLinkReset (s : State) (n : Slot) : State :=
  let alerts := removeAlert n s.atu.alerts
  match s.atu.stack with
  | [] => s.setAtu ⟨alerts, []⟩
  | top :: rest =>
    if top.slot = n then
      let s1 := s.setAtu ⟨alerts, rest⟩
      if top.savedFocus = some n then s1 else s1.restore top.savedFocus top.savedX top.savedY
    else s.setAtu ⟨alerts, removeBelow n (top :: rest)⟩

/-- RAISE from slot `n` for a slot that holds ATTENTION_ALLOWED: HELD on the stack, otherwise DONE, a new entry joining
with ALERT_RAISED (07, R115). -/
def State.raiseAlert (s : State) (n : Slot) : State × Status :=
  if !(s.access n).attentionAllowed then (s, .denied)
  else if s.atu.isStacked n then (s, .held)
  else if s.atu.isPending n then (s, .done)
  else ((s.setAtu { s.atu with alerts := insertAlert ⟨n, (s.slotRecord n).level⟩ s.atu.alerts }).raiseEvent .alertRaised, .done)

/-- WITHDRAW from slot `n`: its pending entry, if any, is removed; the stack stays (07, R116). -/
def State.withdrawAlert (s : State) (n : Slot) : State :=
  s.setAtu { s.atu with alerts := removeAlert n s.atu.alerts }

end Sys2Proof.Machine
end

