-- ==== Sys2Proof/Machine/Compositor.lean ====
section
/-! DEFINITION. The Compositor's layouts and heads (09): COMMIT, activation, PRESET, the heads' blankings and samples,
SHARE and the share head. What the samples look like as pictures is in Machine/Picture.lean. -/

namespace Sys2Proof.Machine

/-! ### Samples (09, R139 step 2) -/

/-- The overlay cursor sprite chosen at P for a picture of display `d` (09, R155). -/
def State.cursorAt (s : State) (d : DisplayIx) : Option Sprite :=
  if (s.cmp.active.displays.get d).rect.any (·.holds s.gu.px s.gu.py) then
    match s.cmp.active.tileAt s.gu.px s.gu.py with
    | none => some .gap
    | some i =>
      match s.tileSlot i with
      | none => some .blocked
      | some n =>
        if s.tileMode i = .none ∨ (s.access n).inputAllowed = false then some .blocked
        else if s.link n ≠ .active then some .waiting
        else match (s.cmp.active.tiles.get i).cursorMode with
          | .overlay => some .normal
          | .own => none
  else none

/-- What a head samples of a source. -/
def State.sampleSource (s : State) (n : SourceIx) : SourceSample :=
  let c := s.channel n
  ⟨(s.source n).bound, decide (c.lock = .locked), c.width, c.height, c.still, c.frame⟩

/-- What a head samples of a slot. -/
def State.sampleSlot (s : State) (n : Slot) : SlotSample :=
  ⟨s.link n, s.atu.mark n, (s.access n).inputAllowed, (s.access n).shareAllowed⟩

/-- The samples a head takes; `shown` is the display whose picture it shows (09, R139, R155, R159). -/
def State.sample (s : State) (shown : Option DisplayIx) : Sample where
  layout := s.cmp.active
  sources := Table.tab s.sampleSource
  slots := Table.tab s.sampleSlot
  focus := s.fc.focus
  blink := s.cmp.blink
  colors := s.tables.colors
  sprites := s.tables.sprites
  hotSpots := s.tables.hotSpots
  shareCursor := s.tables.shareCursor
  px := s.gu.px
  py := s.gu.py
  cursor := shown.bind s.cursorAt
  selection := shown

/-! ### Heads (09, R139, R140) -/

/-- Head `d` takes its samples for a blanking that lasts for the values `b`; it runs at its active display's values. -/
def State.blankHead (s : State) (d : DisplayIx) (b : FrameValues) : State :=
  let h : Head := ⟨true, (s.cmp.active.displays.get d).values, b, some (s.sample (some d))⟩
  s.setCmp { s.cmp with heads := s.cmp.heads.put d h }

/-- Head `d` stops at once (09, R140). -/
def State.stopHead (s : State) (d : DisplayIx) : State :=
  s.setCmp { s.cmp with heads := s.cmp.heads.put d Head.stopped }

/-- After an activation of display `d`, its head starts, stops, or is forced into a blanking, which lasts for the values
the head held when it began; a starting head blanks for the values it starts with (09, R139, R140, R148). -/
def State.settleHead (s : State) (d : DisplayIx) : State :=
  let now := s.cmp.active.displays.get d
  if now.record.profile.isNone then s.stopHead d
  else s.blankHead d (if (s.cmp.heads.get d).running then (s.cmp.heads.get d).values else now.values)

/-! ### Activation (09, R147 to R149) -/

/-- Install one armed layout in the active layout (09, R147). -/
def installArmed (l : ActiveLayout) (d : DisplayIx) (a : ArmedLayout) : ActiveLayout where
  displays := l.displays.put d a.display
  tiles := Table.tab fun i =>
    match a.claims.get i with
    | some t => t
    | none =>
      let t := l.tiles.get i
      if t.display = d ∧ t.enabled then { t with enabled := false } else t

/-- The rectangle display `d` will have once its armed layout, if it holds one, has applied. -/
def Cmp.newRect (c : Cmp) (d : DisplayIx) : Option Rect :=
  match c.armed.get d with
  | some a => a.display.rect
  | none => (c.active.displays.get d).rect

/-- Display `e`'s active rectangle would be overlapped by the new rectangle of a member of the group (09, R148). -/
def Cmp.joins (c : Cmp) (group : List DisplayIx) (e : DisplayIx) : Bool :=
  match (c.active.displays.get e).rect with
  | none => false
  | some r => group.any fun d => decide (d ≠ e) && (c.newRect d).any (·.meets r)

/-- One round of the joining test: the group, with every display that joins it. -/
def Cmp.growGroup (c : Cmp) (group : List DisplayIx) : List DisplayIx :=
  allDisplays.filter fun e => decide (e ∈ group) || c.joins group e

/-- The group an activation of `start` is made as: the joining test repeated until no display joins; three rounds settle
it for four displays (09, R148). -/
def Cmp.group (c : Cmp) (start : List DisplayIx) : List DisplayIx :=
  c.growGroup (c.growGroup (c.growGroup start))

/-- Install the armed layout of each display of the group and end it (09, R147). -/
def Cmp.installGroup (c : Cmp) (group : List DisplayIx) : Cmp :=
  group.foldl (fun c d =>
    match c.armed.get d with
    | some a => { c with active := installArmed c.active d a, armed := c.armed.put d none }
    | none => c) c

/-- The displays of a group that hold an armed layout: those the step activates. -/
def Cmp.activated (c : Cmp) (group : List DisplayIx) : List DisplayIx :=
  group.filter fun d => (c.armed.get d).isSome

/-- Activate a group in one step: the layouts are installed, LAYOUT_APPLIED is raised once, each activated head starts,
stops or blanks, and then a re-evaluation of P follows for each activated display (09, R147 to R149; L6). -/
def State.activate (s : State) (start : List DisplayIx) : State :=
  let group := s.cmp.group start
  let done := s.cmp.activated group
  if done = [] then s
  else
    let s1 := (s.setCmp (s.cmp.installGroup group)).raiseEvent .layoutApplied
    let s2 := done.foldl State.settleHead s1
    done.foldl (fun s _ => s.reevaluate) s2

/-! ### COMMIT (09, R144 to R146) -/

/-- The values a display record's profile holds now; 0 for NONE (09, R144). -/
def profileValues (profiles : Table FrameValues 8) (r : DisplayRecord) : FrameValues :=
  match r.profile with
  | some p => profiles.get p
  | none => FrameValues.zero

/-- A display record with its origin moved the least amount that brings its rectangle inside the desk plane; a NONE
record is left alone (09, R145). -/
def moveOrigin (profiles : Table FrameValues 8) (r : DisplayRecord) : DisplayRecord :=
  match r.profile with
  | none => r
  | some p =>
    let v := profiles.get p
    { r with
      ox := clampInto Config.planeMin (Config.planeMax + 1 - v.width) r.ox
      oy := clampInto Config.planeMin (Config.planeMax + 1 - v.height) r.oy }

/-- A tile's size along one axis, clipped to a display `limit` long (09, R145). A tile that starts past the edge would be
left a negative size, which no field holds: its size is a free value (L31), and the tile is disabled in any case. -/
def clipSize (limit at_ size : Nat) : Nat :=
  if limit < at_ + size then (if at_ ≤ limit then limit - at_ else (Config.sizePastEdge (at_ - limit)).toNat) else size

/-- The clipped size along one axis is at least 16 (09, R145). -/
def clipFits (limit at_ size : Nat) : Bool :=
  if limit < at_ + size then decide (Config.tileMin ≤ limit - at_) else decide (Config.tileMin ≤ size)

/-- A tile clipped to a display of the values `v`, and disabled when it is left too small (09, R145). A disabled tile is
left alone. -/
def clipTile (v : FrameValues) (t : TileRecord) : TileRecord :=
  if t.enabled then
    { t with
      w := clipSize v.width t.x t.w
      h := clipSize v.height t.y t.h
      enabled := clipFits v.width t.x t.w && clipFits v.height t.y t.h }
  else t

/-- The pending layout with the clipping and origin moves of R145 for the masked displays. -/
def clipLayout (profiles : Table FrameValues 8) (mask : DisplayIx → Bool) (l : Layout) : Layout where
  displays := Table.tab fun d => if mask d then moveOrigin profiles (l.displays.get d) else l.displays.get d
  tiles := Table.tab fun i =>
    let t := l.tiles.get i
    let r := l.displays.get t.display
    if mask t.display ∧ r.profile.isSome then clipTile (profileValues profiles r) t else t

/-- The armed layout a COMMIT builds for a masked display from the clipped layout: its record with the values read now,
and every tile whose record names it, enabled or not (09, R142). -/
def buildArmed (profiles : Table FrameValues 8) (l : Layout) (d : DisplayIx) : ArmedLayout where
  display := ⟨l.displays.get d, profileValues profiles (l.displays.get d)⟩
  claims := Table.tab fun i => if (l.tiles.get i).display = d then some (l.tiles.get i) else none

/-- The claim an unmasked display's armed layout has on tile `i`, if any. -/
def Cmp.claimOf (c : Cmp) (mask : DisplayIx → Bool) (i : TileIx) : Option TileRecord :=
  allDisplays.findSome? fun d => if mask d then none else (c.armed.get d).bind (·.claims.get i)

/-- The future layout: the active layout once everything armed has applied, `l` being the clipped pending layout (09, R144). -/
def Cmp.future (c : Cmp) (profiles : Table FrameValues 8) (mask : DisplayIx → Bool) (l : Layout) : ActiveLayout where
  displays := Table.tab fun d =>
    if mask d then ⟨l.displays.get d, profileValues profiles (l.displays.get d)⟩
    else match c.armed.get d with
      | some a => a.display
      | none => c.active.displays.get d
  tiles := Table.tab fun i =>
    if mask (l.tiles.get i).display then l.tiles.get i
    else match c.claimOf mask i with
      | some t => t
      | none =>
        let t := c.active.tiles.get i
        if mask t.display ∨ (c.armed.get t.display).isSome then { t with enabled := false } else t

/-- Two enabled tiles of one enabled display share a pixel (09, R146). -/
def ActiveLayout.tilesMeet (l : ActiveLayout) (i j : TileIx) : Bool :=
  decide ((l.tiles.get i).display = (l.tiles.get j).display) &&
  match l.placed i, l.placed j with
  | some a, some b => a.meets b
  | _, _ => false

/-- Two enabled displays share a point of the plane (09, R146). -/
def ActiveLayout.displaysMeet (l : ActiveLayout) (d e : DisplayIx) : Bool :=
  match (l.displays.get d).rect, (l.displays.get e).rect with
  | some a, some b => a.meets b
  | _, _ => false

/-- A layout holds an overlap that R146 refuses. -/
def ActiveLayout.conflicts (l : ActiveLayout) : Bool :=
  (allSixteen.any fun i => allSixteen.any fun j => decide (i < j) && l.tilesMeet i j) ||
  (allDisplays.any fun d => allDisplays.any fun e => decide (d < e) && l.displaysMeet d e)

/-- The armed layouts a COMMIT leaves: new ones for the masked displays, and the others without the claims it takes (09, R142). -/
def Cmp.arm (c : Cmp) (profiles : Table FrameValues 8) (mask : DisplayIx → Bool) (l : Layout) :
    Table (Option ArmedLayout) 4 :=
  Table.tab fun d =>
    if mask d then some (buildArmed profiles l d)
    else (c.armed.get d).map fun a =>
      { a with claims := Table.tab fun i => if mask (l.tiles.get i).display then none else a.claims.get i }

/-- A masked display is activated at once when it is NONE in the active layout or in the pending one (09, R146). -/
def Cmp.atOnce (c : Cmp) (l : Layout) (d : DisplayIx) : Bool :=
  (c.active.displays.get d).record.profile.isNone || (l.displays.get d).profile.isNone

/-- COMMIT of a display mask (09, R144 to R146). It answers CONFLICT, ARMED or DONE. -/
def State.commitMask (s : State) (mask : DisplayIx → Bool) : State × Status :=
  let l := clipLayout s.tables.profiles mask s.cmp.layout
  if (s.cmp.future s.tables.profiles mask l).conflicts then (s, .conflict)
  else
    let s1 := s.setCmp { s.cmp with layout := l, armed := s.cmp.arm s.tables.profiles mask l }
    let s2 := s1.activate (allDisplays.filter fun d => mask d && s.cmp.atOnce l d)
    (s2, if allDisplays.any fun d => mask d && (s2.cmp.armed.get d).isSome then .armed else .done)

/-- PRESET: the preset replaces the pending layout, and all four displays are committed (09, R150). -/
def State.applyPreset (s : State) (p : Fin 4) : State :=
  ((s.setCmp { s.cmp with layout := s.tables.presets.get p }).commitMask fun _ => true).1

/-! ### The share head (09, R157, R158) -/

/-- A blanking of DS: it takes its requested selection and any written record, and samples; the blanking lasts for the
values DS held when it began, or for those it starts with (09, R139, R157, R158). -/
def State.blankShare (s : State) : State :=
  let written := match s.tables.shareRecord with
    | some p => s.tables.profiles.get p
    | none => s.cmp.ds.values
  let values := if s.cmp.shareWritten ∨ s.cmp.ds.running = false then written else s.cmp.ds.values
  let lasts := if s.cmp.ds.running then s.cmp.ds.values else values
  let s1 := s.setCmp { s.cmp with selection := s.cmp.requested, shareWritten := false }
  s1.setCmp { s1.cmp with ds := ⟨true, values, lasts, some (s1.sample s1.cmp.selection)⟩ }

/-- The share head record is written (09, R157): NONE stops DS at once, a profile starts a stopped DS at once, and a
running DS takes it at its next blanking. -/
def State.writeShareRecord (s : State) (r : Option ProfileIx) : State :=
  let s1 := s.setTables { s.tables with shareRecord := r }
  match r with
  | none => s1.setCmp { s1.cmp with ds := Head.stopped, shareWritten := false }
  | some _ => if s1.cmp.ds.running then s1.setCmp { s1.cmp with shareWritten := true } else s1.blankShare

/-- SHARE: the requested selection, taken at DS's next blanking, or at once while DS is not running (09, R158). -/
def State.shareDisplay (s : State) (d : Option DisplayIx) : State :=
  if s.cmp.ds.running then s.setCmp { s.cmp with requested := d }
  else s.setCmp { s.cmp with requested := d, selection := d }

/-- A vertical blanking of head `h`: a head that does not run has none (09, R139). -/
def State.headBlanks (s : State) (h : HeadIx) : State :=
  match h with
  | .display d =>
    if (s.cmp.heads.get d).running then
      if (s.cmp.armed.get d).isSome then s.activate [d]
      else s.blankHead d (s.cmp.heads.get d).values
    else s
  | .share => if s.cmp.ds.running then s.blankShare else s

/-- Every enabled display's head, and DS if its record names a profile, starts with a blanking (09, R160). -/
def State.startHeads (s : State) : State :=
  let s1 := (allDisplays.foldl State.stopHead s)
  let s2 := s1.setCmp { s1.cmp with ds := Head.stopped, shareWritten := false }
  let s3 := allDisplays.foldl State.settleHead s2
  if s3.tables.shareRecord.isSome then s3.blankShare else s3

/-- A T2 expiry, taken where T2's duration has elapsed (L3): the blink phase toggles, T2 reloads from its entry, and the CIU
takes the toggle (09, R154; 10, R164). -/
def State.blinkExpires (s : State) : State :=
  if s.bank.t2.due then
    ((s.setCmp { s.cmp with blink := !s.cmp.blink }).startTimer .t2).updateLeds
  else s

end Sys2Proof.Machine
end

