-- ==== Sys2Proof/Machine/Hotkeys.lean ====
section
/-! DEFINITION. The Hotkey Matcher (02): chord matching and collisions, the twelve actions, and what it does with a press. -/

namespace Sys2Proof.Machine

/-! ### Matching (02, R27, R28) -/

/-- The modifier set with left and right taken as the same: bit 0 CTRL, 1 SHIFT, 2 ALT, 3 GUI (02, R28). -/
def foldModifiers (m : Modifiers) : Modifiers := (m &&& 0x0F) ||| (m >>> 4)

/-- The modifiers held fit the entry's: exactly equal, or equal after folding for a side-free entry (02, R28). -/
def Hotkey.fits (e : Hotkey) (m : Modifiers) : Bool :=
  if e.sideFree then decide (foldModifiers e.mods = foldModifiers m) else decide (e.mods = m)

/-- A press of `k` with modifiers `m` matches an enabled CHORD entry (02, R28). -/
def Hotkey.matchesChord (e : Hotkey) (k : Byte) (m : Modifiers) : Bool :=
  e.enabled && decide (e.kind = .chord) && decide (e.key = k) && e.fits m

/-- An enabled COMMAND entry holds key code `k` (02, R34). -/
def Hotkey.matchesCommand (e : Hotkey) (k : Byte) : Bool :=
  e.enabled && decide (e.kind = .command) && decide (e.key = k)

/-- Two enabled entries collide (02, R27). -/
def Hotkey.collides (a b : Hotkey) : Bool :=
  a.enabled && b.enabled && decide (a.kind = b.kind) && decide (a.key = b.key) &&
  (decide (a.kind = .command) ||
    (if a.sideFree || b.sideFree then decide (foldModifiers a.mods = foldModifiers b.mods) else decide (a.mods = b.mods)))

/-- Some pair of entries of a list collides. -/
def anyCollision : List Hotkey → Bool
  | [] => false
  | e :: es => es.any e.collides || anyCollision es

/-! ### The twelve actions (02, R37 to R41) -/

/-- A preset or display number, where an argument's number is one. -/
def fourth (n : Fin 8) : Option (Fin 4) := if h : n.val < 4 then some ⟨n.val, h⟩ else none

/-- WAKE of a slot, or of the keyboard focus when the action runs (02, R40). -/
def State.wakeAction (s : State) : Argument → State
  | .number n => (s.trigger n .wake).1
  | .focus =>
    match s.fc.focus with
    | some n => (s.trigger n .wake).1
    | none => s
  | .none | .off => s

/-- SHARE of a display, or of OFF (02, R41). -/
def State.shareAction (s : State) : Argument → State
  | .number n =>
    match fourth n with
    | some d => s.shareDisplay (some d)
    | none => s
  | .off => s.shareDisplay none
  | .none | .focus => s

/-- Follow mode toggled (01, R8; 02, R38). -/
def FollowMode.toggled : FollowMode → FollowMode
  | .follow => .separate
  | .separate => .follow

/-- Run an action: the one request the HKM makes of the owning block (02, R37). An argument that does not fit its
action, which R26 never stores, requests nothing (L23). -/
def State.runAction (s : State) (a : Action) (arg : Argument) : State :=
  match a with
  | .select =>
    match arg with
    | .number n => s.select n
    | .none | .focus | .off => s
  | .next => s.selectFirst (nextOrder s.fc.focus)
  | .previous => s.selectFirst (previousOrder s.fc.focus)
  | .attend => s.attend
  | .dismiss => s.dismiss
  | .wake => s.wakeAction arg
  | .wakeAll => s.wakeAll.1
  | .preset =>
    match arg with
    | .number n =>
      match fourth n with
      | some p => s.applyPreset p
      | none => s
    | .none | .focus | .off => s
  | .glideLock => s.setGu { s.gu with glideLock := !s.gu.glideLock }
  | .follow => s.setFc { s.fc with follow := s.fc.follow.toggled }
  | .share => s.shareAction arg
  | .passNext => s.setFc { s.fc with passNext := true }

/-! ### A press (02, R29, R32 to R34) -/

/-- The enabled CHORD entry a press of `k` matches now, if any: at most one does (02, R27). -/
def State.chordFor (s : State) (k : Byte) : Option Hotkey :=
  s.tables.hotkeys.toList.find? fun e => e.matchesChord k s.ciu.mods

/-- The enabled COMMAND entry that holds `k`, if any. -/
def State.commandFor (s : State) (k : Byte) : Option Hotkey :=
  s.tables.hotkeys.toList.find? fun e => e.matchesCommand k

/-- The press uses pass-next and goes to the FC as an ordinary key (02, R29). -/
def State.passPress (s : State) (k : Byte) : State := (s.setFc { s.fc with passNext := false }).routePress k

/-- A press in NORMAL state (02, R29, R32). -/
def State.normalPress (s : State) (k : Byte) : State :=
  if k = s.tables.leadKey then
    if s.fc.passNext then s.passPress k
    else ((s.hold k .consumed).setHkm .leadOne).startTimer .t0
  else match s.chordFor k with
    | some e => if s.fc.passNext then s.passPress k else (s.hold k .consumed).runAction e.action e.argument
    | none => s.routePress k

/-- A press in LEAD_ONE: the second lead press enters COMMAND, any other is taken again in NORMAL (02, R33). A lead press
is the lead key with pass-next off, as R29 defines it (L24). -/
def State.leadOnePress (s : State) (k : Byte) : State :=
  let s1 := s.stopTimer .t0
  if k = s.tables.leadKey ∧ s.fc.passNext = false then
    ((s1.hold k .consumed).setCommand .command).startTimer .t1
  else (s1.setHkm .normal).normalPress k

/-- A press in COMMAND state: always consumed (02, R34). -/
def State.commandPress (s : State) (k : Byte) : State :=
  let s1 := s.hold k .consumed
  if k = 41 ∨ k = s.tables.leadKey then (s1.stopTimer .t1).setCommand .normal
  else match s.commandFor k with
    | some e =>
      if e.stay then (s1.runAction e.action e.argument).startTimer .t1
      else ((s1.stopTimer .t1).setCommand .normal).runAction e.action e.argument
    | none => s1.startTimer .t1

/-- The HKM takes a press, and gives the FC what it does not consume (01, R3; 02). -/
def State.press (s : State) (k : Byte) : State :=
  match s.hkm with
  | .normal => s.normalPress k
  | .leadOne => s.leadOnePress k
  | .command => s.commandPress k

/-! ### A keyboard arrival (01, R3) -/

/-- The physical key image becomes `mods` and `keys` (in report order), and its differences from the previous image are
handed on: one modifier change, the releases in ascending order, the presses in report order (01, R3). -/
def State.keyboardArrival (s : State) (mods : Modifiers) (keys : List Byte) : State :=
  let old := s.ciu
  let s1 := s.setCiu { s.ciu with mods := mods, keys := sortKeys keys }
  let s2 := if mods = old.mods then s1 else s1.modifierChange (old.mods &&& ~~~mods) (mods &&& ~~~old.mods)
  let s3 := (old.keys.filter fun k => !keys.contains k).foldl State.releaseKey s2
  (keys.filter fun k => !old.keys.contains k).foldl State.press s3

end Sys2Proof.Machine
end

