-- ==== Sys2Proof/Machine/Operands.lean ====
section
/-! DEFINITION. Every layout of chapter 13: console and slot reports, the records of the eight sections with the checks and
clamps their owning rules make, request and response headers, the STATUS pages. Fields are little-endian. -/

namespace Sys2Proof.Machine

/-! ### Bytes -/

/-- The byte of a number modulo 256. -/
def byte (n : Nat) : Byte := BitVec.ofNat 8 n

/-- A 16-bit field's value. -/
def half (lo hi : Byte) : Nat := lo.toNat + 256 * hi.toNat

/-- A signed 16-bit field's value. -/
def signedHalf (lo hi : Byte) : Int := (BitVec.ofNat 16 (half lo hi)).toInt

/-- A 16-bit field. -/
def halfBytes (n : Nat) : List Byte := [byte n, byte (n / 256)]

/-- A signed 16-bit field, two's complement. -/
def signedHalfBytes (v : Int) : List Byte := halfBytes (BitVec.ofInt 16 v).toNat

/-- A signed byte, two's complement. -/
def signedByte (v : Int) : Byte := BitVec.ofInt 8 v

/-- A flags byte from its bits, bit 0 first. -/
def flags : List Bool → Byte
  | [] => 0
  | b :: bs => byte ((if b then 1 else 0) + 2 * (flags bs).toNat)

/-- A number as an index below `n`, where it is one. -/
def below (n i : Nat) : Option (Fin n) := if h : i < n then some ⟨i, h⟩ else none

/-- A byte that codes NONE (FFh) or an index below `n` (13, R191). -/
def noneOr (n : Nat) (b : Byte) : Option (Option (Fin n)) :=
  if b = 0xFF then some none else (below n b.toNat).map some

/-- The byte of an index or NONE. -/
def orNone {n : Nat} : Option (Fin n) → Byte
  | none => 0xFF
  | some i => byte i.val

/-- A key code a table may hold: 4 to 223 (02, R26; 11, R173). -/
def keyCodeOk (k : Byte) : Bool := decide (4 ≤ k.toNat ∧ k.toNat ≤ 223)

/-- A number clamped into lo..hi. -/
def clampNat (lo hi n : Nat) : Nat := if n < lo then lo else if hi < n then hi else n

/-! ### Console reports (01, R2, R4; 13, R189, R190) -/

/-- The key codes of a report's positions, each once at its first position; codes 0 and 224 to 255 are skipped (01, R2). -/
def reportKeys : List Byte → List Byte
  | [] => []
  | k :: ks => if keyCodeOk k then k :: (reportKeys ks).filter (· ≠ k) else reportKeys ks

/-- A console keyboard report: its modifier set and its keys in report order. A report shorter than 8 bytes, or with a
rollover marker in any position, is ignored whole (13, R189; 01, R2). -/
def keyboardOf (bytes : List Byte) : Option (Modifiers × List Byte) :=
  match bytes with
  | mods :: _ :: k0 :: k1 :: k2 :: k3 :: k4 :: k5 :: _ =>
    let ks := [k0, k1, k2, k3, k4, k5]
    if ks.any fun k => decide (k = 1 ∨ k = 2 ∨ k = 3) then none else some (mods, reportKeys ks)
  | _ => none

/-- A delta byte, with -128 taken as -127 (01, R4). -/
def delta (b : Byte) : Int := if b.toInt = -128 then -127 else b.toInt

/-- A console pointer report: buttons, dx, dy, wheel; wheel 0 in a report of 3 bytes, ignored whole if shorter (13, R189). -/
def pointerOf (bytes : List Byte) : Option (Buttons × Int × Int × Int) :=
  match bytes with
  | b :: dx :: dy :: rest => some (b.setWidth 5, delta dx, delta dy, (rest.head?.map delta).getD 0)
  | _ => none

/-! ### Reports to the console keyboard and to the slots (13, R190) -/

/-- The console LED report a transfer carries. -/
def ledByte (l : Leds) : Byte := l.setWidth 8

/-- The LED set of a slot LED report's second byte, bits 5 to 7 ignored (13, R190). -/
def ledsOf (b : Byte) : Leds := b.setWidth 5

/-- A list padded with zero bytes up to a length (13, R189). -/
def padTo (n : Nat) (l : List Byte) : List Byte := l ++ List.replicate (n - l.length) 0

/-- The slot report an entry is sent as. -/
def Entry.bytes : Entry → List Byte
  | .keyboard k => 1 :: k.mods :: padTo 6 k.keys
  | .abs b x y w => [2, b.setWidth 8] ++ halfBytes x.toNat ++ halfBytes y.toNat ++ [signedByte w]
  | .rel b dx dy w => [3, b.setWidth 8, signedByte dx, signedByte dy, signedByte w]

/-! ### Codes (13, R191, R192) -/

/-- Response status codes (13, R191). -/
def Status.code : Status → Byte
  | .done => 0
  | .armed => 1
  | .started => 2
  | .denied => 3
  | .badRequest => 4
  | .badSection => 5
  | .badIndex => 6
  | .badValue => 7
  | .conflict => 8
  | .busy => 9
  | .held => 10

/-- Outcome codes of a WAKE response (13, R191). -/
def WakeOutcome.code : WakeOutcome → Byte
  | .started => 0
  | .running => 1
  | .active => 2
  | .failed => 3

/-- Link state codes (13, R192). -/
def Link.code : Link → Nat
  | .off => 0
  | .attached => 1
  | .active => 2
  | .suspended => 3
  | .resuming => 4

/-- Wake phase codes (13, R192). -/
def Phase.code : Phase → Nat
  | .idle => 0
  | .signal => 1
  | .await => 2
  | .linePulse => 3
  | .lineAwait => 4
  | .failed => 5

/-- Cause codes (13, R192). -/
def Cause.code : Cause → Nat
  | .none => 0
  | .focus => 1
  | .input => 2
  | .wake => 3
  | .wakeAll => 4
  | .attend => 5

/-- Attention mark codes (13, R192). -/
def Mark.code : Mark → Nat
  | .none => 0
  | .showing => 1
  | .attended => 2

/-- Command state codes (13, R192). -/
def CommandState.code : CommandState → Byte
  | .normal => 0
  | .leadOne => 1
  | .command => 2

/-- Lock state codes (13, R192). -/
def Lock.code : Lock → Nat
  | .noSignal => 0
  | .measuring => 1
  | .locked => 2

/-- Action codes (13, section 13.2). -/
def Action.code : Action → Byte
  | .select => 0
  | .next => 1
  | .previous => 2
  | .attend => 3
  | .dismiss => 4
  | .wake => 5
  | .wakeAll => 6
  | .preset => 7
  | .glideLock => 8
  | .follow => 9
  | .share => 10
  | .passNext => 11

/-- The action of a code; none above 11 (02, R26). -/
def actionOf (b : Byte) : Option Action :=
  [Action.select, .next, .previous, .attend, .dismiss, .wake, .wakeAll, .preset, .glideLock, .follow, .share,
    .passNext][b.toNat]?

/-- An argument byte; the stored value none reads as 0 (13, section 13.2). -/
def Argument.code : Argument → Byte
  | .none => 0
  | .number n => byte n.val
  | .focus => 0xFE
  | .off => 0xFF

/-- The argument a byte gives an action: none for an action that takes none (02, R25), otherwise what fits it (02, R26). -/
def argumentOf (a : Action) (b : Byte) : Option Argument :=
  match a with
  | .select => (below 8 b.toNat).map .number
  | .wake => if b = 0xFE then some .focus else (below 8 b.toNat).map .number
  | .preset => if b.toNat < 4 then (below 8 b.toNat).map .number else none
  | .share => if b = 0xFF then some .off else if b.toNat < 4 then (below 8 b.toNat).map .number else none
  | .next | .previous | .attend | .dismiss | .wakeAll | .glideLock | .follow | .passNext => some .none

/-! ### Records (13, R191): `xOf` checks and clamps as the owning rules say, none being BAD_VALUE -/

/-- An access entry (11, section 11.2). -/
def accessOf : List Byte → Option AccessEntry
  | [r, w, f] => some ⟨r, w, f.getLsbD 0, f.getLsbD 1, f.getLsbD 2, f.getLsbD 3, f.getLsbD 4⟩
  | _ => none

/-- An access entry's bytes. -/
def AccessEntry.bytes (e : AccessEntry) : List Byte :=
  [e.readRights, e.writeRights, flags [e.manageActions, e.inputAllowed, e.shareAllowed, e.attentionAllowed, e.events]]

/-- The chords of a slot record: the first `count` pairs; the rest is ignored (13, R189). -/
def chordsOf : Nat → List Byte → List Chord
  | n + 1, m :: k :: rest => ⟨m, k⟩ :: chordsOf n rest
  | _, _ => []

/-- A slot record (11, R173; 04, R68; 13, R189). -/
def slotRecordOf : List Byte → Option SlotRecord
  | level :: rc :: f :: gain :: count :: chords =>
    let cs := chordsOf count.toNat chords
    match below 4 level.toNat with
    | none => none
    | some l =>
      if 4 < count.toNat ∨ (cs.any fun c => !keyCodeOk c.key) then none
      else some ⟨l, rc.setWidth 2, f.getLsbD 0, f.getLsbD 1, f.getLsbD 2,
        if f.getLsbD 3 then .discard else .keep, clampNat 1 64 gain.toNat, cs⟩
  | _ => none

/-- A slot record's bytes. -/
def SlotRecord.bytes (r : SlotRecord) : List Byte :=
  [byte r.level.val, r.retriesCode.setWidth 8,
    flags [r.wakeOnFocus, r.wakeOnInput, r.wakeLineWired, decide (r.policy = .discard)],
    byte r.gain, byte r.blocked.length] ++ padTo 8 (r.blocked.flatMap fun c => [c.mods, c.key])

/-- A source record (08, R135). -/
def sourceRecordOf : List Byte → Option SourceRecord
  | [b, a, a', c, c', d, d', e, e', t, t'] =>
    let ax0 := half a a'
    let ax1 := half c c'
    let ay0 := half d d'
    let ay1 := half e e'
    match noneOr 8 b with
    | none => none
    | some bound =>
      if ax1 ≤ ax0 ∨ ay1 ≤ ay0 ∨ 32767 < ax0 ∨ 32767 < ax1 ∨ 32767 < ay0 ∨ 32767 < ay1 then none
      else some ⟨bound, ax0, ax1, ay0, ay1, clampNat 0 4095 (half t t')⟩
  | _ => none

/-- A source record's bytes. -/
def SourceRecord.bytes (r : SourceRecord) : List Byte :=
  orNone r.bound :: (halfBytes r.ax0 ++ halfBytes r.ax1 ++ halfBytes r.ay0 ++ halfBytes r.ay1 ++ halfBytes r.stillThreshold)

/-- An origin coordinate a display record may hold (09, R141). -/
def onPlane (v : Int) : Bool := decide (Config.planeMin ≤ v ∧ v ≤ Config.planeMax)

/-- A display record (09, R141). -/
def displayRecordOf : List Byte → Option DisplayRecord
  | [p, x, x', y, y'] =>
    match noneOr 8 p with
    | none => none
    | some profile =>
      if onPlane (signedHalf x x') ∧ onPlane (signedHalf y y') then some ⟨profile, signedHalf x x', signedHalf y y'⟩ else none
  | _ => none

/-- A display record's five bytes. -/
def DisplayRecord.bytes (r : DisplayRecord) : List Byte :=
  orNone r.profile :: (signedHalfBytes r.ox ++ signedHalfBytes r.oy)

/-- A display record's ten bytes in the ACTIVE view (13, R191; 11, R172). -/
def ActiveDisplay.bytes (a : ActiveDisplay) : List Byte :=
  a.record.bytes ++ halfBytes a.values.width ++ halfBytes a.values.height ++ [byte a.values.refresh]

/-- Pointer mode of a code (13, R191). -/
def pointerModeOf (b : Byte) : Option PointerMode := [PointerMode.absolute, .relative, .none][b.toNat]?

/-- Cursor mode of a code (13, R191). -/
def cursorModeOf (b : Byte) : Option CursorMode := [CursorMode.own, .overlay][b.toNat]?

/-- Pointer mode codes. -/
def PointerMode.code : PointerMode → Byte
  | .absolute => 0
  | .relative => 1
  | .none => 2

/-- Cursor mode codes. -/
def CursorMode.code : CursorMode → Byte
  | .own => 0
  | .overlay => 1

/-- A tile record (09, R141; 13, R189). -/
def tileRecordOf : List Byte → Option TileRecord
  | [f, d, x, x', y, y', w, w', h, h', src, pm, cm, border] =>
    match below 4 d.toNat, below 16 src.toNat, pointerModeOf pm, cursorModeOf cm with
    | some display, some source, some pointer, some cursor =>
      if half x x' ≤ 4095 ∧ half y y' ≤ 4095 ∧ 1 ≤ half w w' ∧ half w w' ≤ 4096 ∧ 1 ≤ half h h' ∧ half h h' ≤ 4096 then
        some ⟨f.getLsbD 0, display, half x x', half y y', half w w', half h h', source, pointer, cursor,
          clampNat 0 8 border.toNat⟩
      else none
    | _, _, _, _ => none
  | _ => none

/-- A tile record's bytes. -/
def TileRecord.bytes (t : TileRecord) : List Byte :=
  [flags [t.enabled], byte t.display.val] ++ halfBytes t.x ++ halfBytes t.y ++ halfBytes t.w ++ halfBytes t.h ++
  [byte t.source.val, t.pointerMode.code, t.cursorMode.code, byte t.border]

/-- A profile, clamped: width into 640..3840 and down to a multiple of 8, height into 480..2160, refresh into 24..144 (09, R138). -/
def profileOf : List Byte → Option FrameValues
  | [w, w', h, h', r] =>
    some ⟨clampNat 640 3840 (half w w') / 8 * 8, clampNat 480 2160 (half h h'), clampNat 24 144 r.toNat⟩
  | _ => none

/-- A profile's bytes. -/
def FrameValues.bytes (v : FrameValues) : List Byte := halfBytes v.width ++ halfBytes v.height ++ [byte v.refresh]

/-- A share head record (09, R157). -/
def shareRecordOf : List Byte → Option (Option ProfileIx)
  | [p] => noneOr 8 p
  | _ => none

/-- A hotkey entry, normalised, and checked for all of R26 but the lead key (02, R25, R26). -/
def hotkeyOf : List Byte → Option Hotkey
  | [f, mods, key, act, arg] =>
    let command := f.getLsbD 1
    match actionOf act with
    | none => none
    | some action =>
      match argumentOf action arg with
      | none => none
      | some argument =>
        if !keyCodeOk key || (command && decide (key = 41)) then none
        else some ⟨f.getLsbD 0, if command then .command else .chord, if command then 0 else mods,
          !command && f.getLsbD 2, key, action, argument, command && f.getLsbD 3⟩
  | _ => none

/-- A hotkey entry's bytes. -/
def Hotkey.bytes (e : Hotkey) : List Byte :=
  [flags [e.enabled, decide (e.kind = .command), e.sideFree, e.stay], e.mods, e.key, e.action.code, e.argument.code]

/-- A key window; base and limit as written (11, R173). -/
def windowOf : List Byte → Option KeyWindow
  | [b, l, d] => (below 8 d.toNat).map fun n => ⟨b, l, n⟩
  | _ => none

/-- A key window's bytes. -/
def KeyWindow.bytes (w : KeyWindow) : List Byte := [w.base, w.limit, byte w.slot.val]

/-- A general input record, checked for all but the lead key's use by a hotkey entry (11, R173; 02, R26; 04, R62). -/
def generalOf : List Byte → Option GeneralInput
  | [lead, follow, speed, start] =>
    match below 8 start.toNat with
    | none => none
    | some n =>
      if !keyCodeOk lead || decide (1 < follow.toNat) then none
      else some ⟨lead, if follow = 0 then .follow else .separate, clampNat 1 64 speed.toNat, n⟩
  | _ => none

/-- Follow mode codes (13, R191). -/
def FollowMode.code : FollowMode → Byte
  | .follow => 0
  | .separate => 1

/-- A general input record's bytes. -/
def GeneralInput.bytes (g : GeneralInput) : List Byte := [g.leadKey, g.follow.code, byte g.deskSpeed, byte g.startSlot.val]

/-- A colour table entry (09, R153). -/
def colorOf : List Byte → Option Rgb
  | [r, g, b] => some ⟨r, g, b⟩
  | _ => none

/-- A colour table entry's bytes. -/
def colorBytes (c : Rgb) : List Byte := [c.red, c.green, c.blue]

/-- A list of `n` things as a table. -/
def tableOf {α : Type} (n : Nat) (l : List α) : Option (Table α n) :=
  if h : l.length = n then some ⟨l.toArray, by simpa using h⟩ else none

/-- Four rows of a sprite (09, R156). -/
def spriteRowsOf (l : List Byte) : Option SpriteRows := tableOf 32 l

/-- A hot spot, each coordinate above 31 stored as 31 (09, R156). -/
def hotSpotOf : List Byte → Option HotSpot
  | [x, y] => some ⟨clampNat 0 31 x.toNat, clampNat 0 31 y.toNat⟩
  | _ => none

/-- A hot spot's bytes. -/
def HotSpot.bytes (h : HotSpot) : List Byte := [byte h.hx, byte h.hy]

/-- The share-cursor flag (13, R191). -/
def shareCursorOf : List Byte → Option Bool
  | [f] => some (f.getLsbD 0)
  | _ => none

/-- A timing entry, as written (10, R161). -/
def timingOf : List Byte → Option TimingEntry
  | [p, c] => some ⟨p.setWidth 2, c⟩
  | _ => none

/-- A timing entry's bytes. -/
def TimingEntry.bytes (t : TimingEntry) : List Byte := [t.prescale.setWidth 8, t.constant]

/-! ### Requests and responses (11, R167; 13, R191) -/

/-- A decoded request. `overrun`: the payload length exceeds what the report carries after the header. -/
structure Request where
  kind : Byte
  section_ : Byte
  index : Half
  view : Byte
  payload : List Byte
  overrun : Bool
  deriving DecidableEq, Repr

/-- Decode a request from its kind code and the bytes after it; none when they are too short for the header (11, R167).
Bytes beyond the stated payload length are ignored (13, R189). -/
def requestOf (kind : Byte) : List Byte → Option Request
  | sec :: lo :: hi :: view :: len :: rest =>
    some ⟨kind, sec, hi ++ lo, view, rest.take len.toNat, decide (rest.length < len.toNat)⟩
  | _ => none

/-- The report a response is sent as, padded with 0 up to the report size (13, R189, R191; L14). -/
def Response.bytes (r : Response) : List Byte :=
  padTo Config.managementReportSize
    ([r.status.code, r.kind, r.section_] ++ halfBytes r.index.toNat ++ [byte r.payload.length] ++ r.payload)

/-! ### STATUS pages (11, R180; 13, R192) -/

/-- Page 0, the desk: 17 bytes. -/
def Snapshot.desk (p : Snapshot) : List Byte :=
  halfBytes p.events.toNat ++ halfBytes p.startCount.toNat ++
  [byte p.sender.val, orNone p.focus,
    flags [decide (p.follow = .separate), p.passNext, p.glideLock, p.saving], p.command.code] ++
  signedHalfBytes p.px ++ signedHalfBytes p.py ++
  [orNone p.pointerSlot, p.delivered.setWidth 8, orNone p.selection, flags p.armed.toList, p.defaulted]

/-- Five bytes of page 1, for one slot. -/
def SlotStatus.bytes (x : SlotStatus) : List Byte :=
  [byte (x.link.code + 16 * x.mark.code), byte x.queueLength,
    byte (x.leds.toNat + (if x.remoteWake then 32 else 0) + (if x.line then 64 else 0)),
    byte (x.phase.code + 16 * x.cause.code), byte x.attempts]

/-- Page 1, the slots: 40 bytes. -/
def Snapshot.slotPage (p : Snapshot) : List Byte := p.slots.toList.flatMap SlotStatus.bytes

/-- Page 2, attention: 30 bytes; pairs and triples that hold nothing are 0 (L28). -/
def Snapshot.attention (p : Snapshot) : List Byte :=
  byte p.alerts.length :: padTo 16 (p.alerts.flatMap fun a => [byte a.slot.val, byte a.level.val]) ++
  byte p.stack.length :: padTo 12 (p.stack.flatMap fun e => [byte e.1.val, byte e.2.1.val, orNone e.2.2])

/-- Fourteen bytes of page 3, for one channel. -/
def ChannelStatus.bytes (c : ChannelStatus) : List Byte :=
  byte (c.lock.code + (if c.still then 128 else 0)) :: (halfBytes c.width ++ halfBytes c.height ++
  [byte c.period, byte (c.period / 256), byte (c.period / 65536)] ++
  halfBytes c.signature.toNat ++ halfBytes (c.signature.toNat / 65536) ++ halfBytes c.stillCount)

/-- Page 3, the four channels of group `g`: 56 bytes. -/
def Snapshot.channelPage (p : Snapshot) (g : Nat) : List Byte :=
  ((p.channels.toList.drop (4 * g)).take 4).flatMap ChannelStatus.bytes

end Sys2Proof.Machine
end

