-- ==== Sys2Proof/Machine/Profile.lean ====
section
/-! DEFINITION. The Profile Loader (12): judging an image, loading and defaulting its sections, the image a save writes,
start-up, the desk restart and the steps of a save. -/

namespace Sys2Proof.Machine

/-! ### The image as a whole (12, R182; 13, R193) -/

/-- The signature word 5A3C96E1h as stored (13, R193). -/
def signatureBytes : List Byte := [0xE1, 0x96, 0x3C, 0x5A]

/-- A 16-bit field at a byte offset. -/
def fieldAt (l : List Byte) (a : Nat) : Nat := half (l.getD a 0) (l.getD (a + 1) 0)

/-- Offset and length of a section's map entry, by section code (13, R193). -/
def mapEntry (header : List Byte) (code : Nat) : Nat × Nat := (fieldAt header (8 + 4 * code), fieldAt header (10 + 4 * code))

/-- The image length a header states. -/
def imageLength (header : List Byte) : Nat := fieldAt header 4

/-- The image is valid as a whole (12, R182). -/
def headerValid (header : List Byte) : Bool :=
  decide (header.take 4 = signatureBytes) &&
  decide (Config.headerLength ≤ imageLength header) && decide (imageLength header ≤ Config.imageArea) &&
  [0, 1, 2, 3, 4, 5, 6, 7].all fun c => decide ((mapEntry header c).1 + (mapEntry header c).2 ≤ imageLength header)

/-- The valid image a flash holds, or none (12, R182). -/
def Memory.image (m : Memory) : Option (List Byte) :=
  let header := m.bytes 0 Config.headerLength
  if headerValid header then some (m.bytes 0 (imageLength header)) else none

/-- An image judged as a whole, as the flash image would be (12, R188). -/
def judged : Option (List Byte) → Option (List Byte)
  | some img => if headerValid img then some (img.take (imageLength img)) else none
  | none => none

/-- The bytes of a section, when its map entry has the section's fixed length (12, R182). -/
def sectionBytes (img : List Byte) (code length : Nat) : Option (List Byte) :=
  let e := mapEntry img code
  if e.2 = length then some ((img.drop e.1).take e.2) else none

/-! ### Sections (12, R184; 13, R193) -/

/-- The first `n` records of `size` bytes. -/
def chunks (size : Nat) : Nat → List Byte → List (List Byte)
  | 0, _ => []
  | n + 1, l => l.take size :: chunks size n (l.drop size)

/-- `n` records of `size` bytes, each decoded; none when one is refused. -/
def recordsOf {α : Type} (n size : Nat) (dec : List Byte → Option α) (l : List Byte) : Option (Table α n) :=
  ((chunks size n l).mapM dec).bind (tableOf n)

/-- Some slot holds the write right of the ACCESS section (11, R170). -/
def hasAccessWriter (t : Table AccessEntry 8) : Bool := t.toList.any fun e => e.writeRights.getLsbD 0

/-- The ACCESS section (12, R184). -/
def accessSection (l : List Byte) : Option (Table AccessEntry 8) :=
  (recordsOf 8 3 accessOf l).filter hasAccessWriter

/-- The layout at the start of `l`: four display records and sixteen tile records. -/
def layoutOf (l : List Byte) : Option Layout :=
  match recordsOf 4 5 displayRecordOf l, recordsOf 16 14 tileRecordOf (l.drop 20) with
  | some d, some t => some ⟨d, t⟩
  | _, _ => none

/-- The active layout a layout becomes at a load: each enabled display's values copied from its profile (12, R184). -/
def activeOf (profiles : Table FrameValues 8) (l : Layout) : ActiveLayout :=
  ⟨Table.tab fun d => ⟨l.displays.get d, profileValues profiles (l.displays.get d)⟩, l.tiles⟩

/-- The LAYOUT section, clipped and moved as a COMMIT of all four displays on an empty layout, and refused for overlaps (12, R184). -/
def layoutSection (l : List Byte) : Option LayoutSection :=
  match layoutOf l, recordsOf 8 5 profileOf (l.drop 244), shareRecordOf (l.drop 284) with
  | some layout, some profiles, some share =>
    let clipped := clipLayout profiles (fun _ => true) layout
    if (activeOf profiles clipped).conflicts then none else some ⟨clipped, profiles, share⟩
  | _, _, _ => none

/-- The PRESETS section: field values only (12, R184). -/
def presetsSection (l : List Byte) : Option (Table Layout 4) := recordsOf 4 244 layoutOf l

/-- Some hotkey entry, enabled or not, holds key code `k` (02, R27). -/
def holdsKey (t : Table Hotkey 32) (k : Byte) : Bool := t.toList.any fun e => decide (e.key = k)

/-- The INPUT section (12, R184; 02, R27). -/
def inputSection (l : List Byte) : Option InputSection :=
  match recordsOf 32 5 hotkeyOf l, recordsOf 4 3 windowOf (l.drop 160), generalOf (l.drop 172) with
  | some hotkeys, some windows, some general =>
    if holdsKey hotkeys general.leadKey ∨ anyCollision hotkeys.toList then none else some ⟨hotkeys, windows, general⟩
  | _, _, _ => none

/-- The APPEARANCE section (13, R193). -/
def appearanceSection (l : List Byte) : Option AppearanceSection :=
  match recordsOf 11 3 colorOf l, recordsOf 32 32 spriteRowsOf (l.drop 33), recordsOf 4 2 hotSpotOf (l.drop 1057),
      shareCursorOf (l.drop 1065) with
  | some colors, some sprites, some spots, some share => some ⟨colors, sprites, spots, share⟩
  | _, _, _, _ => none

/-- A section that could not be loaded joins the set of sections defaulted, at its section code's bit (12, R184). -/
def missing {α : Type} (code : Nat) (x : Option α) : Byte := if x.isNone then 1#8 <<< code else 0

/-- Load a valid image section by section: each stands or takes its defaults; with the set of sections defaulted (12, R184, R185). -/
def loadValid (img : List Byte) : Sections × Byte :=
  let d := defaultSections
  let access := (sectionBytes img 0 24).bind accessSection
  let slots := (sectionBytes img 1 104).bind (recordsOf 8 13 slotRecordOf)
  let sources := (sectionBytes img 2 176).bind (recordsOf 16 11 sourceRecordOf)
  let layout := (sectionBytes img 3 285).bind layoutSection
  let presets := (sectionBytes img 4 976).bind presetsSection
  let input := (sectionBytes img 5 176).bind inputSection
  let appearance := (sectionBytes img 6 1066).bind appearanceSection
  let timing := (sectionBytes img 7 14).bind (recordsOf 7 2 timingOf)
  (⟨access.getD d.access, slots.getD d.slots, sources.getD d.sources, layout.getD d.layout, presets.getD d.presets,
      input.getD d.input, appearance.getD d.appearance, timing.getD d.timing⟩,
    missing 0 access ||| missing 1 slots ||| missing 2 sources ||| missing 3 layout ||| missing 4 presets |||
      missing 5 input ||| missing 6 appearance ||| missing 7 timing)

/-- Load an image that has been judged as a whole: an invalid one defaults all eight sections (12, R182). -/
def loadImage : Option (List Byte) → Sections × Byte
  | some img => loadValid img
  | none => (defaultSections, 0xFF)

/-! ### The image a save writes (12, R186; 13, R193) -/

/-- The 244 bytes of a layout's records. -/
def layoutBytes (displays : List DisplayRecord) (tiles : List TileRecord) : List Byte :=
  displays.flatMap DisplayRecord.bytes ++ tiles.flatMap TileRecord.bytes

/-- The general input record as it stands, with the follow mode of the focus record (11, R172). -/
def State.general (s : State) : GeneralInput :=
  ⟨s.tables.leadKey, s.fc.follow, s.tables.deskSpeed, s.tables.startSlot⟩

/-- The eight sections as bytes, in section code order: LAYOUT from the active layout (12, R186). -/
def State.sectionImages (s : State) : List (List Byte) :=
  let t := s.tables
  [t.access.toList.flatMap AccessEntry.bytes,
    t.slots.toList.flatMap SlotRecord.bytes,
    t.sources.toList.flatMap SourceRecord.bytes,
    layoutBytes (s.cmp.active.displays.toList.map (·.record)) s.cmp.active.tiles.toList ++
      t.profiles.toList.flatMap FrameValues.bytes ++ [orNone t.shareRecord],
    t.presets.toList.flatMap fun p => layoutBytes p.displays.toList p.tiles.toList,
    t.hotkeys.toList.flatMap Hotkey.bytes ++ t.windows.toList.flatMap KeyWindow.bytes ++ s.general.bytes,
    t.colors.toList.flatMap colorBytes ++ t.sprites.toList.flatMap Vector.toList ++ t.hotSpots.toList.flatMap HotSpot.bytes ++
      [flags [t.shareCursor]],
    t.timing.toList.flatMap TimingEntry.bytes]

/-- Offset and length a save stores for each section (13, R193). -/
def savedMap : List (Nat × Nat) :=
  [(40, 24), (64, 104), (168, 176), (344, 285), (629, 976), (1605, 176), (1781, 1066), (2847, 14)]

/-- The header a save stores; bytes 6 and 7 are written 0 (L21). -/
def savedHeader : List Byte :=
  signatureBytes ++ halfBytes Config.savedImageLength ++ [0, 0] ++ savedMap.flatMap fun e => halfBytes e.1 ++ halfBytes e.2

/-- The whole image a save takes from the state (12, R186; 13, R193). -/
def State.buildImage (s : State) : List Byte := savedHeader ++ s.sectionImages.flatten

/-! ### Installing sections (12, R183, R188) -/

/-- The tables, and the active and pending layouts, that the sections give. -/
def State.install (s : State) (x : Sections) : State :=
  (s.setTables (tablesOf x)).setCmp { s.cmp with active := activeOf x.layout.profiles x.layout.layout, layout := x.layout.layout }

/-- The set of sections defaulted is recorded, and PROFILE_DEFAULTED raised when it is not empty (12, R184). -/
def State.recordDefaulted (s : State) (d : Byte) : State :=
  let s1 := s.setPl { s.pl with defaulted := d }
  if d = 0 then s1 else s1.raiseEvent .profileDefaulted

/-- P at its reset place with both residues 0, glide lock off and every accumulator 0, the suppressed set `held`, and what
depends on P recomputed (03, R44, R61). -/
def State.resetGu (s : State) (held : Buttons) : State :=
  let p := match s.cmp.active.firstRect with
    | some r => (r.centreX, r.centreY)
    | none => (0, 0)
  (s.setGu { s.gu with
    px := p.1, py := p.2, rx := 0, ry := 0, glideLock := false, suppressed := held
    accX := Table.all 8 0, accY := Table.all 8 0 }).locate

/-- The Compositor's values after a reset, but for its heads, from the layouts installed; T2 starts (09, R154, R160). -/
def State.resetCmp (s : State) : State :=
  (s.setCmp { s.cmp with armed := Table.all 4 none, selection := none, requested := none, blink := false }).startTimer .t2

/-- The part at the end of a load: every block starts from its power-on values (12, R183). -/
def State.powerOn (s : State) (img : Option (List Byte)) : State :=
  let x := loadImage img
  let s1 := (State.heldInReset s.pending s.flash s.cuts).setReset false
  let s2 := (s1.setPl { s1.pl with loader := .idle, loadCopy := img }).install x.1
  let s3 := s2.setFc (Fc.reset x.1.input.general.startSlot x.1.input.general.follow)
  ((s3.resetGu 0).resetCmp.startHeads).recordDefaulted x.2

/-! ### The desk restart (12, R188) -/

/-- Step 1: event sets emptied, snapshots discarded, the desk start count increased (11, R178). -/
def State.restartMgi (s : State) : State :=
  s.setMgi ⟨s.mgi.startCount + 1, Table.all 8 0, Table.all 8 none⟩

/-- A port after a desk restart's part of it: its response queue empty, its response in hand discarded (05, R95). -/
def Port.restarted (p : Port) : Port := { p with responses := [], responseHand := none }

/-- Step 2: a release flush of every slot, in ascending order (L33), then every port's responses emptied (05, R95). -/
def State.restartPorts (s : State) : State :=
  let s1 := allSlots.foldl State.releaseFlush s
  s1.setPorts (s1.ports.each Port.restarted)

/-- Step 4 for the FC (01, R24). -/
def State.restartFc (s : State) (mode : FollowMode) : State :=
  s.setFc { s.fc with
    focus := some s.tables.startSlot, follow := mode, held := [], suppressed := s.ciu.mods, passNext := false }

/-- Step 4 for the WKC and slot `n`: a remote wakeup ends, the wake record is reset, T3 to T5 stop, and T6 runs exactly
where entries wait (06, R96). -/
def State.restartWake (s : State) (n : Slot) : State :=
  let p := s.port n
  let p' : Port := { p with link := if p.link = .resuming then .suspended else p.link, signalling := .stopped }
  let s1 := (((s.setPort n p').setWake n WakeRecord.reset).stopWakeTimers n).stopTimer (.t6 n)
  if p'.waits then s1.startTimer (.t6 n) else s1

/-- The CIU at a desk restart: the composed state, now `x`, is sent whatever the LED state sent, or a re-send is marked
while a transfer is outstanding (01, R7; L12). -/
def Ciu.restart (c : Ciu) (x : Leds) : Ciu :=
  let c1 := { c with composed := x, retryHold := false }
  if c1.keyboardPort = .ready then (if c1.transfer.isSome then { c1 with resend := true } else c1.startTransfer) else c1

/-- Steps 1 to 4 of a desk restart (12, R188). -/
def State.deskRestart (s : State) : State :=
  let x := loadImage (judged s.pl.loadCopy)
  let s3 := ((s.restartMgi.restartPorts).install x.1).recordDefaulted x.2
  let s4 := ((((s3.restartFc x.1.input.general.follow).setHkm .normal).stopTimer .t0).stopTimer .t1).resetGu s3.ciu.buttons
  let s5 := ((allSlots.foldl State.restartWake s4).setAtu ⟨[], []⟩).setChannels (Table.all 16 Channel.reset)
  let s6 := s5.resetCmp
  (s6.setCiu (s6.ciu.restart s6.composedLeds)).startHeads

/-! ### A save (12, R186, R187) -/

/-- A save begins: the copy is taken and the PL enters SAVING (12, R186). -/
def State.startSave (s : State) : State :=
  s.setPl { s.pl with loader := .saving .erase, saveBuffer := s.buildImage }

/-- A save ends in failure: the load copy is invalid (12, R187). -/
def State.saveFails (s : State) : State :=
  (s.setPl { s.pl with loader := .idle, loadCopy := none }).raiseEvent .saveFailed

/-- A save ends well: the load copy is the save buffer (12, R187). -/
def State.saveSucceeds (s : State) : State :=
  (s.setPl { s.pl with loader := .idle, loadCopy := some s.pl.saveBuffer }).raiseEvent .saveDone

/-- The contents with the sector that holds the header erased (12, R187, step 1). -/
def Memory.headerErased (m : Memory) : Memory := m.filter fun c => decide (Config.sectorSize ≤ c.1)

/-- The contents with the sectors of a list erased. -/
def Memory.sectorsErased (m : Memory) (l : List Nat) : Memory := m.filter fun c => decide (c.1 / Config.sectorSize ∉ l)

/-- The cells a cut-short erase has changed in the one sector under way: that of the first cell, unless its erase has ended. -/
def cellsUnderWay (f : Config.FlashCut) : List Host.Cell :=
  f.cells.filter fun c => decide (c.1 / Config.sectorSize ∉ f.sectors ∧
    f.cells.head?.map (fun x => x.1 / Config.sectorSize) = some (c.1 / Config.sectorSize))

/-- The contents an erase step leaves that is cut short: in the header's sector, the first erased, either it has changed nothing
or no valid signature stands; after that sector the others, one at a time (12, R187, step 1; L8). -/
def Memory.eraseCut (m : Memory) (f : Config.FlashCut) : Memory :=
  if 0 ∈ f.sectors then (m.sectorsErased f.sectors).change (cellsUnderWay f)
  else
    let m1 := m.change (f.cells.filter fun c => decide (c.1 < Config.sectorSize))
    if m1 = m then m else if m1.bytes 0 4 = signatureBytes then m1.headerErased else m1

/-- The cells outside the signature word. -/
def Memory.unsigned (m : Memory) : Memory := m.filter fun c => decide (4 ≤ c.1)

/-- The contents a save step leaves that is cut short, `f` being how far it got: the erase step as `Memory.eraseCut` says, the
program step a beginning of the image without its signature word and the rest erased, the verify step all, and the sign step all
but that word (12, R187; L8). -/
def Memory.cutShort (m : Memory) (image : List Byte) (x : SaveStep) (f : Config.FlashCut) : Memory :=
  match x with
  | .erase => m.eraseCut f
  | .program => (Memory.ofBytes 0 (image.take f.bytes)).unsigned
  | .verify => m
  | .sign => m.change (f.cells.filter fun c => decide (c.1 < 4))

/-- The contents a failed save leaves: where a step before the sign step would leave a valid signature, the header's sector,
the first erased, is erased (12, R187). -/
def Memory.failed (m : Memory) (image : List Byte) (x : SaveStep) (f : Config.FlashCut) : Memory :=
  let m1 := m.cutShort image x f
  if x ≠ .sign ∧ m1.bytes 0 4 = signatureBytes then m1.headerErased else m1

/-- The contents a save leaves that RESET abandons: what its step left, and once the erase step has ended no valid signature, so
that the next start-up defaults every section (12, R187; L8). -/
def Memory.abandoned (m : Memory) (image : List Byte) (x : SaveStep) (f : Config.FlashCut) : Memory :=
  let m1 := m.cutShort image x f
  if x ≠ .erase ∧ m1.bytes 0 4 = signatureBytes then m1.unsigned else m1

/-- The erase step ends: the four sectors are erased and programming begins (12, R187). -/
def State.eraseEnds (s : State) : State :=
  (s.setFlash []).setPl { s.pl with loader := .saving .program }

/-- The program step ends: the image stands in the flash but for its signature word, and verification begins (12, R187). -/
def State.programEnds (s : State) : State :=
  (s.setFlash (Memory.ofBytes 0 s.pl.saveBuffer).unsigned).setPl { s.pl with loader := .saving .verify }

/-- The verify step ends: the image area, with what the flash changed, is compared with the save buffer, all but the
signature word; bytes past the buffer compare as erased (12, R187; L25). -/
def State.verifyEnds (s : State) (changed : List Host.Cell) : State :=
  let s1 := s.setFlash (s.flash.change changed)
  if s1.flash.unsigned = (Memory.ofBytes 0 s1.pl.saveBuffer).unsigned then s1.setPl { s1.pl with loader := .saving .sign }
  else s1.saveFails

/-- The sign step ends: the signature word is programmed, and read back with what the flash changed (12, R187). -/
def State.signEnds (s : State) (changed : List Host.Cell) : State :=
  let s1 := s.setFlash ((s.flash.change [(0, 0xE1), (1, 0x96), (2, 0x3C), (3, 0x5A)]).change changed)
  if s1.flash.bytes 0 4 = signatureBytes then s1.saveSucceeds else s1.saveFails

end Sys2Proof.Machine
end

