-- ==== Sys2Proof/Machine/Requests.lean ====
section
/-! DEFINITION. The Management Interface (11): taking a request and answering it, addressing, reading and writing records,
the actions, and status snapshots. -/

namespace Sys2Proof.Machine

/-! ### Taking a request (11, R167; 05, R93) -/

/-- What carrying a request out gives: the state, the status and the payload of its response. -/
structure Answer where
  state : State
  status : Status
  payload : List Byte

/-- A request refused: nothing changes (11, R168). -/
def State.refuse (s : State) (x : Status) : Answer := ⟨s, x, []⟩

/-- A request carried out, with an empty payload. -/
def State.accept (s : State) (x : Status) : Answer := ⟨s, x, []⟩

/-- Place a response at the newest end of a slot's response queue (05, R93). -/
def State.respond (s : State) (n : Slot) (r : Response) : State :=
  s.setPort n { s.port n with responses := (s.port n).responses ++ [r] }

/-- The slot's port takes a management report: the slot is ACTIVE and its response queue has room (05, R93). -/
def State.takesRequest (s : State) (n : Slot) : Bool :=
  decide (s.link n = .active) && decide ((s.port n).responses.length < Config.responseCapacity)

/-- Answer a decoded request: BAD_REQUEST when its length field exceeds the report, otherwise as `f` answers it (11, R167).
DEDUCED (L15): that test comes first of all, also for a WRITE that names no record. -/
def State.answerRequest (s : State) (n : Slot) (r : Request) (f : Request → Answer) : State :=
  let a := if r.overrun then s.refuse .badRequest else f r
  a.state.respond n ⟨a.status, r.kind, r.section_, r.index, a.payload⟩

/-- Take a request of a kind from slot `n`: not taken at all (05, R93), discarded when too short for its header, or
answered with exactly one response (11, R167). -/
def State.takeRequest (s : State) (n : Slot) (kind : Byte) (report : List Byte) (f : Request → Answer) : State :=
  if s.takesRequest n then
    match requestOf kind report with
    | some r => s.answerRequest n r f
    | none => s
  else s

/-! ### Records (11, R171) -/

/-- A record of the tables. -/
inductive Record where
  | access (n : Slot)
  | slot (n : Slot)
  | source (n : SourceIx)
  | display (d : DisplayIx)
  | tile (i : TileIx)
  | profile (p : ProfileIx)
  | shareHead
  | presetDisplay (p : Fin 4) (d : DisplayIx)
  | presetTile (p : Fin 4) (i : TileIx)
  | hotkey (e : Fin 32)
  | window (w : Fin 4)
  | general
  | color (c : Fin 11)
  | spriteRows (g : Fin 32)
  | hotSpot (k : Fin 4)
  | shareCursor
  | timing (e : Fin 7)
  deriving DecidableEq, Repr

/-- The record of `lo`, an index range of `n` indices from it on. -/
def inRange (n lo i : Nat) (f : Fin n → Record) : Option Record :=
  if lo ≤ i then (below n (i - lo)).map f else none

/-- The record of the LAYOUT section at an index (11, R171). -/
def layoutRecord (i : Nat) : Option Record :=
  inRange 4 0 i .display <|> inRange 16 16 i .tile <|> inRange 8 32 i .profile <|> (if i = 40 then some .shareHead else none)

/-- The record of the PRESETS section at an index: 64 × p + r (11, R171). -/
def presetRecord (i : Nat) : Option Record :=
  match below 4 (i / 64) with
  | none => none
  | some p => inRange 4 0 (i % 64) (.presetDisplay p) <|> inRange 16 16 (i % 64) (.presetTile p)

/-- The record a section code and index name; none is BAD_INDEX (11, R171). -/
def recordAt (code : Byte) (i : Nat) : Option Record :=
  match code.toNat with
  | 0 => inRange 8 0 i .access
  | 1 => inRange 8 0 i .slot
  | 2 => inRange 16 0 i .source
  | 3 => layoutRecord i
  | 4 => presetRecord i
  | 5 => inRange 32 0 i .hotkey <|> inRange 4 32 i .window <|> (if i = 36 then some .general else none)
  | 6 => inRange 11 0 i .color <|> inRange 32 16 i .spriteRows <|> inRange 4 48 i .hotSpot <|>
    (if i = 52 then some .shareCursor else none)
  | 7 => inRange 7 0 i .timing
  | _ => none

/-- Bytes of a record as written (13, R191). -/
def Record.size : Record → Nat
  | .access _ => 3
  | .slot _ => 13
  | .source _ => 11
  | .display _ | .presetDisplay _ _ => 5
  | .tile _ | .presetTile _ _ => 14
  | .profile _ => 5
  | .shareHead => 1
  | .hotkey _ => 5
  | .window _ => 3
  | .general => 4
  | .color _ => 3
  | .spriteRows _ => 32
  | .hotSpot _ => 2
  | .shareCursor => 1
  | .timing _ => 2

/-- A display or tile record of the LAYOUT section: one with a PENDING and an ACTIVE copy (11, R171). -/
def Record.isStaged : Record → Bool
  | .display _ | .tile _ => true
  | _ => false

/-- The record's bytes as it stands, in a view (11, R172). -/
def State.readRecord (s : State) (active : Bool) : Record → List Byte
  | .access n => (s.access n).bytes
  | .slot n => (s.slotRecord n).bytes
  | .source n => (s.source n).bytes
  | .display d => if active then (s.cmp.active.displays.get d).bytes else (s.cmp.layout.displays.get d).bytes
  | .tile i => if active then (s.cmp.active.tiles.get i).bytes else (s.cmp.layout.tiles.get i).bytes
  | .profile p => (s.tables.profiles.get p).bytes
  | .shareHead => [orNone s.tables.shareRecord]
  | .presetDisplay p d => ((s.tables.presets.get p).displays.get d).bytes
  | .presetTile p i => ((s.tables.presets.get p).tiles.get i).bytes
  | .hotkey e => (s.tables.hotkeys.get e).bytes
  | .window w => (s.tables.windows.get w).bytes
  | .general => s.general.bytes
  | .color c => colorBytes (s.tables.colors.get c)
  | .spriteRows g => (s.tables.sprites.get g).toList
  | .hotSpot k => (s.tables.hotSpots.get k).bytes
  | .shareCursor => [flags [s.tables.shareCursor]]
  | .timing e => (s.tables.timing.get e).bytes

/-! ### READ (11, R172) -/

/-- The slot may READ the record: the read right, or the implicit right to its own ACCESS and SLOTS records (11, R172). -/
def State.mayRead (s : State) (n : Slot) (code : Byte) (r : Record) : Bool :=
  (s.access n).readRights.getLsbD code.toNat || decide (r = .access n) || decide (r = .slot n)

/-- A view code names neither PENDING nor ACTIVE. -/
def badView (view : Byte) : Bool := decide (1 < view.toNat)

/-- READ (11, R167, R168, R172). -/
def State.readRequest (s : State) (n : Slot) (r : Request) : Answer :=
  if r.payload ≠ [] ∨ badView r.view then s.refuse .badRequest
  else if 7 < r.section_.toNat then s.refuse .badSection
  else match recordAt r.section_ r.index.toNat with
    | none => s.refuse .badIndex
    | some x =>
      if s.mayRead n r.section_ x then ⟨s, .done, s.readRecord (decide (r.view = 1)) x⟩ else s.refuse .denied

/-! ### WRITE (11, R173) -/

/-- A field refused by its owning rule (11, R168). -/
def State.checked {α : Type} (s : State) (x : Option α) (f : α → Answer) : Answer :=
  match x with
  | none => s.refuse .badValue
  | some a => f a

/-- An accepted access entry takes effect: INPUT_ALLOWED removed reaches the FC and the GU, and EVENTS granted or removed
leaves the slot's event set empty (11, R170; L13). -/
def State.setAccess (s : State) (n : Slot) (e : AccessEntry) : State :=
  let old := s.access n
  let s1 := s.setTables { s.tables with access := s.tables.access.put n e }
  let s2 := if old.inputAllowed ∧ e.inputAllowed = false then (s1.fcInputRemoved n).guInputRemoved n else s1
  if old.events = e.events then s2 else s2.setMgi { s2.mgi with events := s2.mgi.events.put n 0 }

/-- A write of an access entry: CONFLICT when no slot would hold the ACCESS write right (11, R170). -/
def State.writeAccess (s : State) (n : Slot) (e : AccessEntry) : Answer :=
  if hasAccessWriter (s.tables.access.put n e) then (s.setAccess n e).accept .done else s.refuse .conflict

/-- A write of a slot record, with its attention level's effect on the ATU (07, R118). -/
def State.setSlotRecord (s : State) (n : Slot) (r : SlotRecord) : State :=
  (s.setTables { s.tables with slots := s.tables.slots.put n r }).setAtu (s.atu.relevel n r.level)

/-- A write of a source record: a re-evaluation at P follows when the source is shown in the current tile (08, R135, R136; 03,
R59). DESIGN CHOICE (L36): it follows every such write, also one that keeps the bound slot and changes only the span. -/
def State.setSourceRecord (s : State) (n : SourceIx) (r : SourceRecord) : State :=
  let s1 := s.setTables { s.tables with sources := s.tables.sources.put n r }
  match s1.gu.tile with
  | some i => if (s1.cmp.active.tiles.get i).source = n then s1.reevaluateTo s1.gu.px s1.gu.py else s1
  | none => s1

/-- A write of a pending display record (09, R141). -/
def State.setPendingDisplay (s : State) (d : DisplayIx) (r : DisplayRecord) : State :=
  s.setCmp { s.cmp with layout := { s.cmp.layout with displays := s.cmp.layout.displays.put d r } }

/-- A write of a pending tile record (09, R141). -/
def State.setPendingTile (s : State) (i : TileIx) (t : TileRecord) : State :=
  s.setCmp { s.cmp with layout := { s.cmp.layout with tiles := s.cmp.layout.tiles.put i t } }

/-- A write of a preset's record (09, R150). -/
def State.setPreset (s : State) (p : Fin 4) (l : Layout) : State :=
  s.setTables { s.tables with presets := s.tables.presets.put p l }

/-- A write of a hotkey entry: BAD_VALUE when it holds the lead key (02, R26), CONFLICT when two enabled entries would
collide (02, R27). -/
def State.writeHotkey (s : State) (i : Fin 32) (e : Hotkey) : Answer :=
  if e.key = s.tables.leadKey then s.refuse .badValue
  else if anyCollision (s.tables.hotkeys.put i e).toList then s.refuse .conflict
  else (s.setTables { s.tables with hotkeys := s.tables.hotkeys.put i e }).accept .done

/-- An accepted general input record takes effect; a change of the lead key ends command mode (11, R173; 02, R27; 01, R8). -/
def State.setGeneral (s : State) (g : GeneralInput) : State :=
  let s1 := if g.leadKey = s.tables.leadKey then s else s.commandToNormal
  (s1.setTables { s1.tables with leadKey := g.leadKey, deskSpeed := g.deskSpeed, startSlot := g.startSlot }).setFc
    { s1.fc with follow := g.follow }

/-- A write of the general input record: CONFLICT when a hotkey entry holds the lead key written (02, R27). -/
def State.writeGeneral (s : State) (g : GeneralInput) : Answer :=
  if holdsKey s.tables.hotkeys g.leadKey then s.refuse .conflict else (s.setGeneral g).accept .done

/-- Write a record from its bytes: checked, clamped, refused or stored as its owning chapter says (11, R173). -/
def State.writeRecord (s : State) (payload : List Byte) : Record → Answer
  | .access n => s.checked (accessOf payload) fun e => s.writeAccess n e
  | .slot n => s.checked (slotRecordOf payload) fun r => (s.setSlotRecord n r).accept .done
  | .source n => s.checked (sourceRecordOf payload) fun r => (s.setSourceRecord n r).accept .done
  | .display d => s.checked (displayRecordOf payload) fun r => (s.setPendingDisplay d r).accept .done
  | .tile i => s.checked (tileRecordOf payload) fun t => (s.setPendingTile i t).accept .done
  | .profile p => s.checked (profileOf payload) fun v =>
      (s.setTables { s.tables with profiles := s.tables.profiles.put p v }).accept .done
  | .shareHead => s.checked (shareRecordOf payload) fun p => (s.writeShareRecord p).accept .done
  | .presetDisplay p d => s.checked (displayRecordOf payload) fun r =>
      (s.setPreset p { s.tables.presets.get p with displays := (s.tables.presets.get p).displays.put d r }).accept .done
  | .presetTile p i => s.checked (tileRecordOf payload) fun t =>
      (s.setPreset p { s.tables.presets.get p with tiles := (s.tables.presets.get p).tiles.put i t }).accept .done
  | .hotkey i => s.checked (hotkeyOf payload) fun e => s.writeHotkey i e
  | .window w => s.checked (windowOf payload) fun x =>
      (s.setTables { s.tables with windows := s.tables.windows.put w x }).accept .done
  | .general => s.checked (generalOf payload) fun g => s.writeGeneral g
  | .color c => s.checked (colorOf payload) fun x =>
      (s.setTables { s.tables with colors := s.tables.colors.put c x }).accept .done
  | .spriteRows g => s.checked (spriteRowsOf payload) fun x =>
      (s.setTables { s.tables with sprites := s.tables.sprites.put g x }).accept .done
  | .hotSpot k => s.checked (hotSpotOf payload) fun x =>
      (s.setTables { s.tables with hotSpots := s.tables.hotSpots.put k x }).accept .done
  | .shareCursor => s.checked (shareCursorOf payload) fun x =>
      (s.setTables { s.tables with shareCursor := x }).accept .done
  | .timing e => s.checked (timingOf payload) fun x =>
      (s.setTables { s.tables with timing := s.tables.timing.put e x }).accept .done

/-- WRITE (11, R167, R168, R173; L15). A section or index that names no record is answered before the payload's length is
looked at. -/
def State.writeRequest (s : State) (n : Slot) (r : Request) : Answer :=
  if badView r.view then s.refuse .badRequest
  else if 7 < r.section_.toNat then s.refuse .badSection
  else match recordAt r.section_ r.index.toNat with
    | none => s.refuse .badIndex
    | some x =>
      if r.payload.length ≠ x.size ∨ (x.isStaged ∧ r.view = 1) then s.refuse .badRequest
      else if (s.access n).writeRights.getLsbD r.section_.toNat then s.writeRecord r.payload x
      else s.refuse .denied

/-! ### Actions (11, R174 to R178) -/

/-- A kind whose payload is one byte and which needs MANAGE_ACTIONS (11, R167, section 11.4). -/
def State.byteAction (s : State) (n : Slot) (r : Request) (f : Byte → Answer) : Answer :=
  match r.payload with
  | [b] => if (s.access n).manageActions then f b else s.refuse .denied
  | _ => s.refuse .badRequest

/-- A kind without payload, carried out by `a` (11, R167). -/
def State.bareRequest (s : State) (r : Request) (a : Answer) : Answer :=
  if r.payload = [] then a else s.refuse .badRequest

/-- A kind without payload that needs MANAGE_ACTIONS (11, section 11.4). -/
def State.bareAction (s : State) (n : Slot) (r : Request) (a : Answer) : Answer :=
  s.bareRequest r (if (s.access n).manageActions then a else s.refuse .denied)

/-- The answer of an operation that gives a state and a status. -/
def answerOf (x : State × Status) : Answer := ⟨x.1, x.2, []⟩

/-- COMMIT of the mask in bits 0 to 3 (11, R174). -/
def State.commitRequest (s : State) (n : Slot) (r : Request) : Answer :=
  s.byteAction n r fun b => answerOf (s.commitMask fun d => b.getLsbD d.val)

/-- FOCUS of a slot or of NONE (11, R175). -/
def State.focusRequest (s : State) (n : Slot) (r : Request) : Answer :=
  s.byteAction n r fun b => s.checked (noneOr 8 b) fun
    | some m => (s.select m).accept .done
    | none => (s.focusChange none).accept .done

/-- The status a WAKE's outcomes form (11, R176). -/
def wakeStatus (l : List WakeOutcome) : Status :=
  if l.contains .started then .started else if l.contains .running then .busy else .done

/-- WAKE of a slot or of ALL (11, R176). -/
def State.wakeRequest (s : State) (n : Slot) (r : Request) : Answer :=
  s.byteAction n r fun b => s.checked (noneOr 8 b) fun
    | some m => let x := s.trigger m .wake; ⟨x.1, wakeStatus [x.2], [x.2.code]⟩
    | none => let x := s.wakeAll; ⟨x.1, wakeStatus x.2, x.2.map WakeOutcome.code⟩

/-- SHARE of a display or of OFF (11, R175). -/
def State.shareRequest (s : State) (n : Slot) (r : Request) : Answer :=
  s.byteAction n r fun b => s.checked (noneOr 4 b) fun d => (s.shareDisplay d).accept .done

/-- A save is running (11, R178). -/
def State.saving (s : State) : Bool :=
  match s.pl.loader with
  | .saving _ => true
  | .loading | .idle => false

/-- SAVE (11, R178). -/
def State.saveRequest (s : State) (n : Slot) (r : Request) : Answer :=
  s.bareAction n r (if s.saving then s.refuse .busy else s.startSave.accept .started)

/-- RESTART (11, R178). -/
def State.restartRequest (s : State) (n : Slot) (r : Request) : Answer :=
  s.bareAction n r (if s.saving then s.refuse .busy else s.deskRestart.accept .done)

/-! ### STATUS (11, R180) -/

/-- What a snapshot holds of a slot. -/
def State.slotStatus (s : State) (n : Slot) : SlotStatus :=
  let p := s.port n
  let w := s.wake n
  ⟨p.link, s.atu.mark n, p.queue.length, p.leds, p.remoteWake, w.line, w.phase, w.cause, w.attempts⟩

/-- What a snapshot holds of a channel. -/
def State.channelStatus (s : State) (n : SourceIx) : ChannelStatus :=
  let c := s.channel n
  ⟨c.lock, c.still, c.width, c.height, c.period, c.signature, c.stillCount⟩

/-- The pointer slot's delivered button set (11, R180). DEDUCED (L37): empty when there is no pointer slot, for which R180 and
R192 give no value. -/
def State.pointerDelivered (s : State) : Buttons :=
  match s.gu.pointerSlot with
  | some n => s.delivered n
  | none => 0

/-- A snapshot for slot `n` of the state as it stands (11, R180). -/
def State.snapshot (s : State) (n : Slot) : Snapshot where
  events := s.mgi.events.get n
  startCount := s.mgi.startCount
  sender := n
  focus := s.fc.focus
  follow := s.fc.follow
  passNext := s.fc.passNext
  glideLock := s.gu.glideLock
  saving := s.saving
  command := s.hkm
  px := s.gu.px
  py := s.gu.py
  pointerSlot := s.gu.pointerSlot
  delivered := s.pointerDelivered
  selection := s.cmp.selection
  armed := Table.tab fun d => (s.cmp.armed.get d).isSome
  defaulted := s.pl.defaulted
  slots := Table.tab s.slotStatus
  alerts := s.atu.alerts
  stack := s.atu.stack.reverse.map fun e => (e.slot, e.level, e.savedFocus)
  channels := Table.tab s.channelStatus

/-- Hold a snapshot for a slot. -/
def State.holdSnapshot (s : State) (n : Slot) (p : Snapshot) : State :=
  s.setMgi { s.mgi with snapshots := s.mgi.snapshots.put n (some p) }

/-- STATUS of page 0: a new snapshot, and the slot's event set is emptied (11, R180). -/
def State.statusDesk (s : State) (n : Slot) : Answer :=
  let s1 := s.holdSnapshot n (s.snapshot n)
  ⟨s1.setMgi { s1.mgi with events := s1.mgi.events.put n 0 }, .done, (s.snapshot n).desk⟩

/-- STATUS of another page, from the current snapshot, or from one taken now without touching the event set (11, R180). -/
def State.statusPage (s : State) (n : Slot) (f : Snapshot → List Byte) : Answer :=
  match s.mgi.snapshots.get n with
  | some p => ⟨s, .done, f p⟩
  | none => ⟨s.holdSnapshot n (s.snapshot n), .done, f (s.snapshot n)⟩

/-- STATUS (11, R167, R180). -/
def State.statusRequest (s : State) (n : Slot) (r : Request) : Answer :=
  s.bareRequest r (match r.index.toNat with
    | 0 => s.statusDesk n
    | 1 => s.statusPage n Snapshot.slotPage
    | 2 => s.statusPage n Snapshot.attention
    | 3 => if 3 < r.view.toNat then s.refuse .badValue else s.statusPage n fun p => p.channelPage r.view.toNat
    | _ => s.refuse .badIndex)

end Sys2Proof.Machine
end

