-- ==== Sys2Proof/Machine/Video.lean ====
section
/-! DEFINITION. The video input channels (08): measuring a frame, its signature, lock, still detection and loss. -/

namespace Sys2Proof.Machine

/-! ### Measurement (08, R126) -/

/-- The lines of a frame that are counted: those with a pixel. -/
def countedLines (f : Frame) : Frame := f.filter fun l => !l.isEmpty

/-- The width of a frame: the pixel count of its longest line. -/
def frameWidth (f : Frame) : Nat := f.foldl (fun w l => max w l.length) 0

/-- A frame's width and height, when it is usable. -/
def frameSize (f : Frame) : Option (Nat × Nat) :=
  let lines := countedLines f
  let w := frameWidth lines
  if 1 ≤ w ∧ w ≤ Config.frameLimit ∧ 1 ≤ lines.length ∧ lines.length ≤ Config.frameLimit then some (w, lines.length) else none

/-! ### Signature (08, R131) -/

/-- One bit of the check: the register shifted, and the polynomial 04C11DB7h taken in when the bit shifted out differs;
bits are processed least significant first, so the register and the polynomial stand reflected (L9). -/
def crcBit (r : BitVec 32) : BitVec 32 := if r.getLsbD 0 then (r >>> 1) ^^^ 0xEDB88320#32 else r >>> 1

/-- One component byte enters the check. -/
def crcByte (r : BitVec 32) (b : Byte) : BitVec 32 :=
  let r0 := r ^^^ b.setWidth 32
  crcBit (crcBit (crcBit (crcBit (crcBit (crcBit (crcBit (crcBit r0)))))))

/-- One pixel enters the check: red, green, blue. -/
def crcPixel (r : BitVec 32) (p : Rgb) : BitVec 32 := crcByte (crcByte (crcByte r p.red) p.green) p.blue

/-- The pixels of a frame that enter its signature, in the order received: all of them, up to where the channel stops
counting an unusable frame (08, R126, R131). Whether the pixel that passes the limit still enters is free (L10). -/
def signedPixels : Nat → Frame → List Rgb
  | _, [] => []
  | 0, l :: _ => if Config.limitPixelSigned false then l.take 1 else []
  | n + 1, l :: ls =>
    if Config.frameLimit < l.length then
      l.take (if Config.limitPixelSigned true then Config.frameLimit + 1 else Config.frameLimit)
    else l ++ signedPixels n ls

/-- The signature of a list of pixels: register FFFFFFFFh at the start, every bit inverted at the end (08, R131). -/
def signatureOf (pixels : List Rgb) : BitVec 32 := ~~~(pixels.foldl crcPixel 0xFFFFFFFF#32)

/-- The signature of a frame (08, R131). -/
def frameSignature (f : Frame) : BitVec 32 := signatureOf (signedPixels Config.frameLimit (countedLines f))

/-! ### Lock and still detection (08, R127 to R132) -/

/-- The loss timer at its full 200 ms (08, R127). -/
def fullLossTimer : Wait := .running Config.lossMs 0

/-- The channel in MEASURING with a measured size, still detection cleared (08, R128, R129). -/
def Channel.measure (c : Channel) (w h : Nat) : Channel :=
  { c with lock := .measuring, width := w, height := h, stillCount := 0, still := false }

/-- The channel locks: the measured size becomes the locked size (08, R128). -/
def Channel.lockOn (c : Channel) : Channel := { c with lock := .locked, stillCount := 0, still := false }

/-- The still count after a comparison (08, R132). -/
def nextStillCount (n : Nat) (equal : Bool) : Nat := if equal then min (n + 1) Config.stillCountMax else 0

/-- The comparison of a locked frame with the previous one (08, R132). -/
def Channel.compare (c : Channel) (signature : BitVec 32) (threshold : Nat) : Channel :=
  let n := nextStillCount c.stillCount (decide (signature = c.signature))
  { c with stillCount := n, still := decide (threshold ≠ 0 ∧ threshold ≤ n) }

/-- A frame completes: what the lock state makes of its size (08, R128, R129). -/
def Channel.judgeFrame (c : Channel) (size : Option (Nat × Nat)) (signature : BitVec 32) (threshold : Nat) : Channel :=
  match size with
  | none => c.measure 0 0
  | some (w, h) =>
    if w = c.width ∧ h = c.height then
      match c.lock with
      | .locked => c.compare signature threshold
      | .measuring | .noSignal => c.lockOn
    else c.measure w h

/-- The channel after the completion of frame `f`: its period, signature and picture are the frame's (08, R128, R129). -/
def Channel.complete (c : Channel) (period : Nat) (f : Frame) (threshold : Nat) : Channel :=
  let c1 := c.judgeFrame (frameSize f) (frameSignature f) threshold
  { c1 with
    period := period
    signature := frameSignature f
    lossTimer := fullLossTimer
    frame := if (frameSize f).isSome then countedLines f else [] }

/-- A frame start marker (08, R127): from NO_SIGNAL the channel begins to measure, and what came before is ignored;
otherwise the frame in progress completes. -/
def Channel.frameStart (c : Channel) (period : Nat) (f : Frame) (threshold : Nat) : Channel :=
  match c.lock with
  | .noSignal => { c with lock := .measuring, lossTimer := fullLossTimer }
  | .measuring | .locked => c.complete period f threshold

/-- A frame start marker at source `n`; SOURCE_STILL is raised when STILL goes from clear to set (08, R132). -/
def State.frameStarts (s : State) (n : SourceIx) (period : Nat) (f : Frame) : State :=
  let c := (s.channel n).frameStart period f (s.source n).stillThreshold
  let s1 := s.setChannel n c
  if c.still ∧ (s.channel n).still = false then s1.raiseEvent .sourceStill else s1

/-- The loss timer expires, taken where its 200 ms have elapsed (L3): the channel enters NO_SIGNAL with every
value at 0, and SOURCE_LOST is raised if it was LOCKED (08, R130). -/
def State.lossExpires (s : State) (n : SourceIx) : State :=
  if (s.channel n).lossTimer.due then
    let s1 := s.setChannel n Channel.reset
    if (s.channel n).lock = .locked then s1.raiseEvent .sourceLost else s1
  else s

end Sys2Proof.Machine
end

