-- ==== Sys2Proof/Machine/Console.lean ====
section
/-! DEFINITION. The commands of the console ports and of the three single timers (01, 02, 10): one meaning each. -/

namespace Sys2Proof.Machine

/-! ### Console ports -/

/-- The attach state of a console port (01, R1). -/
def Ciu.attach (c : Ciu) : ConsolePort → Attach
  | .keyboard => c.keyboardPort
  | .pointer => c.pointerPort

/-- Set the attach state of a console port. -/
def Ciu.setAttach (c : Ciu) (p : ConsolePort) (a : Attach) : Ciu :=
  match p with
  | .keyboard => { c with keyboardPort := a }
  | .pointer => { c with pointerPort := a }

/-- The keyboard port enters READY, which clears any retry hold and starts an LED output transfer (01, R7). -/
def Ciu.becomeReady (c : Ciu) (p : ConsolePort) : Ciu :=
  match p with
  | .keyboard => (c.setAttach .keyboard .ready).startTransfer
  | .pointer => c.setAttach .pointer .ready

/-- The port enters DETACHED; for the keyboard port the LED state sent becomes none sent, an outstanding transfer ends,
and the retry hold and the re-send mark are cleared (01, R5, R7). -/
def Ciu.detach (c : Ciu) (p : ConsolePort) : Ciu :=
  match p with
  | .keyboard => { c with keyboardPort := .detached, ledSent := none, transfer := none, retryHold := false, resend := false }
  | .pointer => { c with pointerPort := .detached }

/-- The final arrival of a READY keyboard: the command state returns to NORMAL, and everything held is released (01, R5; 02, R35). -/
def State.finalKeyboardArrival (s : State) : State := s.commandToNormal.keyboardArrival 0 []

/-- The physical button set becomes `b`, and the GU gets the arrival (01, R4). -/
def State.buttonArrival (s : State) (b : Buttons) (dx dy wheel : Int) : State :=
  (s.setCiu { s.ciu with buttons := b }).pointerArrival
    ⟨b &&& ~~~s.ciu.buttons, s.ciu.buttons &&& ~~~b, dx, dy, wheel⟩

/-- The final arrival of a READY console device, before its port enters DETACHED (01, R5). -/
def State.finalArrival (s : State) (p : ConsolePort) : State :=
  if s.ciu.attach p = .ready then
    match p with
    | .keyboard => s.finalKeyboardArrival
    | .pointer => s.buttonArrival 0 0 0 0
  else s

/-- A DETACHED port enters CONFIGURING (01, R1). -/
def State.deviceConnects (s : State) (p : ConsolePort) : State :=
  if s.ciu.attach p = .detached then s.setCiu (s.ciu.setAttach p .configuring) else s

/-- The report interface is the one proper to the port: of the port's kind, its reports in the console layout of that
kind (01, R1). -/
def properInterface (i : ReportInterface) : ConsolePort → Bool
  | .keyboard => decide (i.kind = .keyboard) && decide (i.layout = .consoleKeyboard)
  | .pointer => decide (i.kind = .pointer) && decide (i.layout = .consolePointer)

/-- The device offers the interface proper to the port, and fails no configuration step: it answers every request of a step
and refuses none (01, R1). -/
def deviceSuits (d : ConsoleDevice) (p : ConsolePort) : Bool :=
  (d.interfaces.any fun i => properInterface i p) && d.answers.all fun a => decide (a = .accepted)

/-- A CONFIGURING port enters READY where the device suits it, and REFUSED otherwise (01, R1). -/
def State.configurationEnds (s : State) (p : ConsolePort) (d : ConsoleDevice) : State :=
  if s.ciu.attach p = .configuring then
    s.setCiu (if deviceSuits d p then s.ciu.becomeReady p else s.ciu.setAttach p .refused)
  else s

/-- A console device goes away: the final arrival, then DETACHED (01, R5). -/
def State.deviceDisconnects (s : State) (p : ConsolePort) : State :=
  let s1 := s.finalArrival p
  s1.setCiu (s1.ciu.detach p)

/-- A keyboard report on a READY keyboard port (01, R2, R3; 13, R189). -/
def State.keyboardReports (s : State) (bytes : List Byte) : State :=
  if s.ciu.keyboardPort = .ready then
    match keyboardOf bytes with
    | some (mods, keys) => s.keyboardArrival mods keys
    | none => s
  else s

/-- A pointer report on a READY pointer port (01, R4; 13, R189). -/
def State.pointerReports (s : State) (bytes : List Byte) : State :=
  if s.ciu.pointerPort = .ready then
    match pointerOf bytes with
    | some (b, dx, dy, wheel) => s.buttonArrival b dx dy wheel
    | none => s
  else s

/-- An LED output transfer completes (01, R7): the LED state sent becomes the value it carried, and a new transfer starts
for a marked re-send or a composed state that differs. -/
def Ciu.transferCompletes (c : Ciu) : Ciu :=
  match c.transfer with
  | none => c
  | some v =>
    let c1 := { c with ledSent := some v, transfer := none }
    if c.resend ∨ c.composed ≠ v then c1.startTransfer else c1

/-- An LED output transfer fails (01, R7): the retry hold is set, or a marked re-send starts a new transfer. -/
def Ciu.transferFails (c : Ciu) : Ciu :=
  match c.transfer with
  | none => c
  | some _ =>
    let c1 := { c with transfer := none }
    if c.resend then c1.startTransfer else { c1 with retryHold := true }

/-! ### The single timers -/

/-- T0 expires, taken where its duration has elapsed (L3): LEAD_ONE returns to NORMAL (02, R33). -/
def State.t0Expires (s : State) : State :=
  if s.bank.t0.due then
    let s1 := s.stopTimer .t0
    if s1.hkm = .leadOne then s1.setHkm .normal else s1
  else s

/-- T1 expires, taken likewise: COMMAND returns to NORMAL (02, R35). -/
def State.t1Expires (s : State) : State :=
  if s.bank.t1.due then
    let s1 := s.stopTimer .t1
    if s1.hkm = .command then s1.setCommand .normal else s1
  else s

/-! ### Meanings -/

/-- CONSOLE_DEVICE_CONNECTED (01, R1). -/
def execConsoleDeviceConnected (p : ConsolePort) (s : State) : Host.Outcome State Fault Refusal :=
  s.whenTaking fun s => s.deviceConnects p

/-- CONSOLE_CONFIGURATION_END (01, R1, R7; L20). -/
def execConsoleConfigurationEnd (p : ConsolePort) (d : ConsoleDevice) (s : State) : Host.Outcome State Fault Refusal :=
  s.whenTaking fun s => s.configurationEnds p d

/-- CONSOLE_DEVICE_DISCONNECTED (01, R5). -/
def execConsoleDeviceDisconnected (p : ConsolePort) (s : State) : Host.Outcome State Fault Refusal :=
  s.whenTaking fun s => s.deviceDisconnects p

/-- KEYBOARD_REPORT (01, R2, R3). -/
def execKeyboardReport (bytes : List Byte) (s : State) : Host.Outcome State Fault Refusal :=
  s.whenTaking fun s => s.keyboardReports bytes

/-- POINTER_REPORT (01, R4; 03, R47). -/
def execPointerReport (bytes : List Byte) (s : State) : Host.Outcome State Fault Refusal :=
  s.whenTaking fun s => s.pointerReports bytes

/-- LED_TRANSFER_COMPLETE (01, R7). -/
def execLedTransferComplete (s : State) : Host.Outcome State Fault Refusal :=
  s.whenTaking fun s => s.setCiu s.ciu.transferCompletes

/-- LED_TRANSFER_FAILED (01, R7). -/
def execLedTransferFailed (s : State) : Host.Outcome State Fault Refusal :=
  s.whenTaking fun s => s.setCiu s.ciu.transferFails

/-- LEAD_WINDOW_EXPIRY (02, R33; L3). -/
def execLeadWindowExpiry (s : State) : Host.Outcome State Fault Refusal := s.whenTaking State.t0Expires

/-- COMMAND_IDLE_EXPIRY (02, R35; L3). -/
def execCommandIdleExpiry (s : State) : Host.Outcome State Fault Refusal := s.whenTaking State.t1Expires

/-- BLINK_EXPIRY (10, R164; 09, R154; L3). -/
def execBlinkExpiry (s : State) : Host.Outcome State Fault Refusal := s.whenTaking State.blinkExpires

end Sys2Proof.Machine
end

