-- ==== Sys2Proof/Machine/SlotLinks.lean ====
section
/-! DEFINITION. The commands of the slot links (05, R75 to R94): one meaning each. An event a link state's dash marks as
one that cannot arise there changes nothing (L4). -/

namespace Sys2Proof.Machine

/-! ### Link changes -/

/-- Discard a slot's status snapshot (11, R180). -/
def State.dropSnapshot (s : State) (n : Slot) : State :=
  s.setMgi { s.mgi with snapshots := s.mgi.snapshots.put n none }

/-- A bus reset taken by every block: port, FC, GU, ATU, WKC, MGI, CIU (05, R79; L5). -/
def State.takeBusReset (s : State) (n : Slot) : State :=
  let s1 := s.settlePort n (Port.linkReset .attached)
  let s2 := ((s1.fcLoss n).guLinkReset n).atuLinkReset n
  ((s2.wakeOnBusReset n).dropSnapshot n).updateLeds

/-- A loss of bus power taken by every block (05, R80; L5). -/
def State.takePowerLoss (s : State) (n : Slot) : State :=
  let s1 := s.settlePort n (Port.linkReset .off)
  let s2 := ((s1.fcPowerLost n).guLinkReset n).atuLinkReset n
  ((s2.wakeOnPowerLost n).dropSnapshot n).updateLeds

/-- The link becomes ACTIVE: the port stops driving any signalling, and the WKC takes it (05, R76, R77, R78; 06, R106). -/
def State.becomeActive (s : State) (n : Slot) : State :=
  (s.settlePort n { s.port n with link := .active, signalling := .stopped }).wakeOnActive n

/-- Bus power sensed (05, R75, R80): an OFF slot enters ATTACHED with every item at its power-on value. -/
def State.powerSensed (s : State) (n : Slot) : State :=
  match s.link n with
  | .off => s.settlePort n (Port.linkReset .attached)
  | .attached | .active | .suspended | .resuming => s

/-- Bus power lost (05, R75, R80). -/
def State.powerLost (s : State) (n : Slot) : State :=
  match s.link n with
  | .off => s
  | .attached | .active | .suspended | .resuming => s.takePowerLoss n

/-- A bus reset from the computer (05, R75, R79). -/
def State.busResets (s : State) (n : Slot) : State :=
  match s.link n with
  | .off => s
  | .attached | .active | .suspended | .resuming => s.takeBusReset n

/-- Configuration 1 selected (05, R75, R76). -/
def State.configures (s : State) (n : Slot) : State :=
  match s.link n with
  | .attached => s.becomeActive n
  | .off | .active | .suspended | .resuming => s

/-- Configuration 0 selected: in ACTIVE exactly a bus reset (05, R75, R76). -/
def State.deconfigures (s : State) (n : Slot) : State :=
  match s.link n with
  | .active => s.takeBusReset n
  | .off | .attached | .suspended | .resuming => s

/-- The bus idle for 3 ms (05, R75, R77). -/
def State.suspends (s : State) (n : Slot) : State :=
  match s.link n with
  | .active => s.settlePort n { s.port n with link := .suspended }
  | .off | .attached | .suspended | .resuming => s

/-- Resume signalling from the computer (05, R75, R77). -/
def State.resumes (s : State) (n : Slot) : State :=
  match s.link n with
  | .suspended | .resuming => s.becomeActive n
  | .off | .attached | .active => s

/-- The remote wakeup feature set or cleared, taken in ATTACHED and ACTIVE (05, R82). -/
def State.permitRemoteWake (s : State) (n : Slot) (b : Bool) : State :=
  match s.link n with
  | .attached | .active => s.setPort n { s.port n with remoteWake := b }
  | .off | .suspended | .resuming => s

/-- An LED output report, taken in ACTIVE; the focus slot's reaches the console (05, R83; 01, R6). -/
def State.setsLeds (s : State) (n : Slot) (l : Leds) : State :=
  if s.link n = .active then
    let s1 := s.setPort n { s.port n with leds := l }
    if s.fc.focus = some n then s1.updateLeds else s1
  else s

/-! ### Polls -/

/-- The port after its oldest entry becomes the report in hand (05, R90). -/
def Port.deliver (p : Port) (e : Entry) (rest : List Entry) : Port :=
  { p with
    queue := rest
    hand := some e
    lastKeyboard := match e with
      | .keyboard k => k
      | .abs _ _ _ _ | .rel _ _ _ _ => p.lastKeyboard
    lastButtons := e.buttons?.getD p.lastButtons }

/-- An IN poll of the keyboard/pointer interface (05, R90): what it is answered with is the report then in hand. -/
def State.polls (s : State) (n : Slot) : State :=
  if s.link n = .active ∧ (s.port n).hand = none then
    match (s.port n).queue with
    | e :: rest => s.settlePort n ((s.port n).deliver e rest)
    | [] => s
  else s

/-- The computer acknowledges the report in hand (05, R90). -/
def State.acknowledges (s : State) (n : Slot) : State :=
  if s.link n = .active then s.setPort n { s.port n with hand := none } else s

/-- An IN poll of the management interface (05, R94). -/
def State.managementPolls (s : State) (n : Slot) : State :=
  if s.link n = .active ∧ (s.port n).responseHand = none then
    match (s.port n).responses with
    | r :: rest => s.setPort n { s.port n with responses := rest, responseHand := some r }
    | [] => s
  else s

/-- The computer acknowledges the response in hand (05, R94). -/
def State.acknowledgesResponse (s : State) (n : Slot) : State :=
  if s.link n = .active then s.setPort n { s.port n with responseHand := none } else s

/-! ### Meanings -/

/-- BUS_POWER_SENSED (05, R76). -/
def execBusPowerSensed (n : Slot) (s : State) : Host.Outcome State Fault Refusal := s.whenTaking fun s => s.powerSensed n

/-- BUS_POWER_LOST (05, R80). -/
def execBusPowerLost (n : Slot) (s : State) : Host.Outcome State Fault Refusal := s.whenTaking fun s => s.powerLost n

/-- BUS_RESET (05, R79). -/
def execBusReset (n : Slot) (s : State) : Host.Outcome State Fault Refusal := s.whenTaking fun s => s.busResets n

/-- CONFIGURATION_1_SELECTED (05, R76). -/
def execConfiguration1Selected (n : Slot) (s : State) : Host.Outcome State Fault Refusal :=
  s.whenTaking fun s => s.configures n

/-- CONFIGURATION_0_SELECTED (05, R76). -/
def execConfiguration0Selected (n : Slot) (s : State) : Host.Outcome State Fault Refusal :=
  s.whenTaking fun s => s.deconfigures n

/-- BUS_IDLE (05, R77). -/
def execBusIdle (n : Slot) (s : State) : Host.Outcome State Fault Refusal := s.whenTaking fun s => s.suspends n

/-- RESUME_SIGNALLING (05, R77). -/
def execResumeSignalling (n : Slot) (s : State) : Host.Outcome State Fault Refusal := s.whenTaking fun s => s.resumes n

/-- RESUME_SIGNALLING_END (05, R78; 06, R101; L3). -/
def execResumeSignallingEnd (n : Slot) (s : State) : Host.Outcome State Fault Refusal :=
  s.whenTaking fun s => s.signallingEnds n

/-- SET_REMOTE_WAKEUP_FEATURE (05, R82). -/
def execSetRemoteWakeupFeature (n : Slot) (s : State) : Host.Outcome State Fault Refusal :=
  s.whenTaking fun s => s.permitRemoteWake n true

/-- CLEAR_REMOTE_WAKEUP_FEATURE (05, R82). -/
def execClearRemoteWakeupFeature (n : Slot) (s : State) : Host.Outcome State Fault Refusal :=
  s.whenTaking fun s => s.permitRemoteWake n false

/-- SLOT_LED_REPORT (05, R83). -/
def execSlotLedReport (n : Slot) (leds : Byte) (s : State) : Host.Outcome State Fault Refusal :=
  s.whenTaking fun s => s.setsLeds n (ledsOf leds)

/-- IN_POLL (05, R90). -/
def execInPoll (n : Slot) (s : State) : Host.Outcome State Fault Refusal := s.whenTaking fun s => s.polls n

/-- REPORT_ACKNOWLEDGED (05, R90). -/
def execReportAcknowledged (n : Slot) (s : State) : Host.Outcome State Fault Refusal :=
  s.whenTaking fun s => s.acknowledges n

/-- MANAGEMENT_IN_POLL (05, R94). -/
def execManagementInPoll (n : Slot) (s : State) : Host.Outcome State Fault Refusal :=
  s.whenTaking fun s => s.managementPolls n

/-- RESPONSE_ACKNOWLEDGED (05, R94). -/
def execResponseAcknowledged (n : Slot) (s : State) : Host.Outcome State Fault Refusal :=
  s.whenTaking fun s => s.acknowledgesResponse n

end Sys2Proof.Machine
end

