-- ==== Sys2Proof/Machine/Management.lean ====
section
/-! DEFINITION. The management requests (11): one meaning for each kind, and one for the unknown kinds. The operand is the
request's bytes after its kind code (L19). -/

namespace Sys2Proof.Machine

/-- READ, kind code 1 (11, R172). -/
def execRead (n : Slot) (report : List Byte) (s : State) : Host.Outcome State Fault Refusal :=
  s.whenTaking fun s => s.takeRequest n 1 report (s.readRequest n)

/-- WRITE, kind code 2 (11, R173). -/
def execWrite (n : Slot) (report : List Byte) (s : State) : Host.Outcome State Fault Refusal :=
  s.whenTaking fun s => s.takeRequest n 2 report (s.writeRequest n)

/-- COMMIT, kind code 3 (09, R146; 11, R174). -/
def execCommit (n : Slot) (report : List Byte) (s : State) : Host.Outcome State Fault Refusal :=
  s.whenTaking fun s => s.takeRequest n 3 report (s.commitRequest n)

/-- FOCUS, kind code 4 (11, R175). -/
def execFocus (n : Slot) (report : List Byte) (s : State) : Host.Outcome State Fault Refusal :=
  s.whenTaking fun s => s.takeRequest n 4 report (s.focusRequest n)

/-- WAKE, kind code 5 (11, R176). -/
def execWake (n : Slot) (report : List Byte) (s : State) : Host.Outcome State Fault Refusal :=
  s.whenTaking fun s => s.takeRequest n 5 report (s.wakeRequest n)

/-- SHARE, kind code 6 (09, R158; 11, R175). -/
def execShare (n : Slot) (report : List Byte) (s : State) : Host.Outcome State Fault Refusal :=
  s.whenTaking fun s => s.takeRequest n 6 report (s.shareRequest n)

/-- RAISE, kind code 7 (07, R115; 11, R177). -/
def execRaise (n : Slot) (report : List Byte) (s : State) : Host.Outcome State Fault Refusal :=
  s.whenTaking fun s => s.takeRequest n 7 report (fun r => s.bareRequest r (answerOf (s.raiseAlert n)))

/-- WITHDRAW, kind code 8 (07, R116; 11, R177). -/
def execWithdraw (n : Slot) (report : List Byte) (s : State) : Host.Outcome State Fault Refusal :=
  s.whenTaking fun s => s.takeRequest n 8 report (fun r => s.bareRequest r ((s.withdrawAlert n).accept .done))

/-- STATUS, kind code 9 (11, R180). -/
def execStatus (n : Slot) (report : List Byte) (s : State) : Host.Outcome State Fault Refusal :=
  s.whenTaking fun s => s.takeRequest n 9 report (s.statusRequest n)

/-- SAVE, kind code 10 (12, R186; 11, R178). -/
def execSave (n : Slot) (report : List Byte) (s : State) : Host.Outcome State Fault Refusal :=
  s.whenTaking fun s => s.takeRequest n 10 report (s.saveRequest n)

/-- RESTART, kind code 11 (11, R178; 12, R188). -/
def execRestart (n : Slot) (report : List Byte) (s : State) : Host.Outcome State Fault Refusal :=
  s.whenTaking fun s => s.takeRequest n 11 report (s.restartRequest n)

/-- UNKNOWN_KIND: taken and answered with BAD_REQUEST (11, R167). -/
def execUnknownKind (n : Slot) (kind : Byte) (report : List Byte) (s : State) : Host.Outcome State Fault Refusal :=
  s.whenTaking fun s => s.takeRequest n kind report fun _ => s.refuse .badRequest

end Sys2Proof.Machine
end

