-- ==== Sys2Proof/Machine/WakeTimers.lean ====
section
/-! DEFINITION. The commands of the per-slot timers (06; 10): one meaning each. An expiry is taken where its instance has
reached its duration (L3). -/

namespace Sys2Proof.Machine

/-- WAKE_RESPONSE_EXPIRY (06, R102). -/
def execWakeResponseExpiry (n : Slot) (s : State) : Host.Outcome State Fault Refusal := s.whenTaking fun s => s.t3Expires n

/-- WAKE_PULSE_EXPIRY (06, R103). -/
def execWakePulseExpiry (n : Slot) (s : State) : Host.Outcome State Fault Refusal := s.whenTaking fun s => s.t4Expires n

/-- POWER_UP_WAIT_EXPIRY (06, R104). -/
def execPowerUpWaitExpiry (n : Slot) (s : State) : Host.Outcome State Fault Refusal := s.whenTaking fun s => s.t5Expires n

/-- QUEUE_HOLD_EXPIRY (06, R111). -/
def execQueueHoldExpiry (n : Slot) (s : State) : Host.Outcome State Fault Refusal := s.whenTaking fun s => s.t6Expires n

end Sys2Proof.Machine
end

