-- ==== Sys2Proof/Machine/Picturing.lean ====
section
/-! DEFINITION. The commands of the video channels and of the heads (08; 09): one meaning each. -/

namespace Sys2Proof.Machine

/-- FRAME_START: the marker ends a frame of the given lines, `period` microseconds after the marker before it (08, R127; L16). -/
def execFrameStart (n : SourceIx) (period : Fin 200000) (lines : Frame) (s : State) : Host.Outcome State Fault Refusal :=
  s.whenTaking fun s => s.frameStarts n period.val lines

/-- LOSS_TIMER_EXPIRY (08, R130; L3). -/
def execLossTimerExpiry (n : SourceIx) (s : State) : Host.Outcome State Fault Refusal := s.whenTaking fun s => s.lossExpires n

/-- VERTICAL_BLANKING (09, R139; L17). -/
def execVerticalBlanking (h : HeadIx) (s : State) : Host.Outcome State Fault Refusal := s.whenTaking fun s => s.headBlanks h

end Sys2Proof.Machine
end

