-- ==== Sys2Proof/Machine/StartUp.lean ====
section
/-! DEFINITION. The commands of RESET, of the load and of the save (12): one meaning each. -/

namespace Sys2Proof.Machine

/-- RESET is asserted: every block takes its power-on values, and a load or a save is abandoned. A save leaves the flash as
the step in progress left it, a free value but for the signature, which does not stand after an erase (12, R183, R187; L8);
otherwise the flash stays. -/
def State.resetAsserts (s : State) : State :=
  match s.pl.loader with
  | .saving x => State.heldInReset s.pending (s.flash.abandoned s.pl.saveBuffer x (Config.cutShortFlash s.cuts)) (s.cuts + 1)
  | .loading | .idle => State.heldInReset s.pending s.flash s.cuts

/-- RESET_ASSERTED (12, R183, R187). -/
def execResetAsserted (s : State) : Host.Outcome State Fault Refusal := .next s.resetAsserts

/-- RESET is released: the PL enters LOADING (12, R183). -/
def State.resetReleases (s : State) : State :=
  if s.resetLine then (s.setReset false).setPl { s.pl with loader := .loading, flashBusy := false } else s

/-- RESET_RELEASED (12, R183). -/
def execResetReleased (s : State) : Host.Outcome State Fault Refusal := .next s.resetReleases

/-- The load ends with the flash as read: `changed` is what was changed from outside since the part last wrote it (12, R182,
R183; L7). A flash that stayed busy gives an invalid image (L26). -/
def State.loadEnds (s : State) (changed : List Host.Cell) : State :=
  if s.resetLine = false ∧ s.pl.loader = .loading then
    let s1 := s.setFlash (s.flash.change changed)
    s1.powerOn (if s.pl.flashBusy then none else s1.flash.image)
  else s

/-- LOAD_END (12, R184). -/
def execLoadEnd (changed : List Host.Cell) (s : State) : Host.Outcome State Fault Refusal := .next (s.loadEnds changed)

/-- Run `f` when a save has reached a step; otherwise nothing changes. -/
def State.atSaveStep (s : State) (x : SaveStep) (f : State → State) : State :=
  if s.pl.loader = .saving x then f s else s

/-- SAVE_ERASE_END (12, R187, step 1). -/
def execSaveEraseEnd (s : State) : Host.Outcome State Fault Refusal :=
  s.whenTaking fun s => s.atSaveStep .erase State.eraseEnds

/-- SAVE_PROGRAM_END (12, R187, step 2). -/
def execSaveProgramEnd (s : State) : Host.Outcome State Fault Refusal :=
  s.whenTaking fun s => s.atSaveStep .program State.programEnds

/-- SAVE_VERIFY_END: `changed` is how the flash differs from what was programmed (12, R187, step 3; L7). -/
def execSaveVerifyEnd (changed : List Host.Cell) (s : State) : Host.Outcome State Fault Refusal :=
  s.whenTaking fun s => s.atSaveStep .verify fun s => s.verifyEnds changed

/-- SAVE_SIGN_END: `changed` is how the flash differs from what was programmed (12, R187, step 4; L7). -/
def execSaveSignEnd (changed : List Host.Cell) (s : State) : Host.Outcome State Fault Refusal :=
  s.whenTaking fun s => s.atSaveStep .sign fun s => s.signEnds changed

/-- The flash stays busy for more than 2 s: a running save fails, the flash holding what its step left, a free value but for
the signature that no longer stands, and a running load will find no valid image (12, R182, R187; L8, L26). -/
def State.flashTimesOut (s : State) : State :=
  if s.resetLine then s
  else match s.pl.loader with
    | .saving x =>
      let s1 := (s.setFlash (s.flash.failed s.pl.saveBuffer x (Config.cutShortFlash s.cuts))).setCuts (s.cuts + 1)
      s1.saveFails
    | .loading => s.setPl { s.pl with flashBusy := true }
    | .idle => s

/-- FLASH_BUSY_TIMEOUT (12, R182, R187). -/
def execFlashBusyTimeout (s : State) : Host.Outcome State Fault Refusal := .next s.flashTimesOut

end Sys2Proof.Machine
end

