-- ==== Sys2Proof/Machine/Tick.lean ====
section
/-! DEFINITION. What a step does on an empty queue: one millisecond passes (L2), every running wait advances, and the expiry
of each wait that has reached its duration joins the queue of waiting commands (10, R162, R163; 05, R78; 08, R127), in the
order L30 fixes. -/

namespace Sys2Proof.Machine

/-- Every running instance of the bank, one millisecond later. -/
def Bank.advance (b : Bank) : Bank :=
  ⟨b.t0.advance, b.t1.advance, b.t2.advance, b.t3.each Wait.advance, b.t4.each Wait.advance, b.t5.each Wait.advance,
    b.t6.each Wait.advance⟩

/-- Every running wait of the part, one millisecond later. -/
def State.advance (s : State) : State :=
  ((s.setBank s.bank.advance).setPorts (s.ports.each fun p => { p with signalling := p.signalling.advance })).setChannels
    (s.channels.each fun c => { c with lossTimer := c.lossTimer.advance })

/-- The waits of slot `n`, each with its expiry. -/
def State.slotWaits (s : State) (n : Slot) : List (Instr × Wait) :=
  [(.resumeSignallingEnd n, (s.port n).signalling), (.wakeResponseExpiry n, s.timer (.t3 n)),
    (.wakePulseExpiry n, s.timer (.t4 n)), (.powerUpWaitExpiry n, s.timer (.t5 n)), (.queueHoldExpiry n, s.timer (.t6 n))]

/-- Every wait of the part, each with its expiry, in the order in which expiries of one millisecond are taken (L30). -/
def State.waits (s : State) : List (Instr × Wait) :=
  [(.leadWindowExpiry, s.timer .t0), (.commandIdleExpiry, s.timer .t1), (.blinkExpiry, s.timer .t2)] ++
  allSlots.flatMap s.slotWaits ++ allSixteen.map fun n => (.lossTimerExpiry n, (s.channel n).lossTimer)

/-- The expiries of the waits that have reached their durations (10, R162). -/
def State.dueExpiries (s : State) : List Instr := (s.waits.filter fun x => x.2.due).map (·.1)

/-- One millisecond passes while the part takes events, and the expiries then due wait to be taken (L2, L3, L30). -/
def State.tick (s : State) : State :=
  if s.taking then s.advance.setPending (s.pending ++ s.advance.dueExpiries) else s

end Sys2Proof.Machine
end

