-- ==== Sys2Proof/Machine/Dispatch.lean ====
section
/-! DEFINITION. The meaning of every command, one arm per constructor of Instr. -/

namespace Sys2Proof.Machine

/-- What a command does to everything but the queue. -/
def exec (i : Instr) (s : State) : Host.Outcome State Fault Refusal :=
  match i with
  | .consoleDeviceConnected port => Sys2Proof.Machine.execConsoleDeviceConnected port s
  | .consoleConfigurationEnd port device => Sys2Proof.Machine.execConsoleConfigurationEnd port device s
  | .consoleDeviceDisconnected port => Sys2Proof.Machine.execConsoleDeviceDisconnected port s
  | .keyboardReport bytes => Sys2Proof.Machine.execKeyboardReport bytes s
  | .pointerReport bytes => Sys2Proof.Machine.execPointerReport bytes s
  | .ledTransferComplete => Sys2Proof.Machine.execLedTransferComplete s
  | .ledTransferFailed => Sys2Proof.Machine.execLedTransferFailed s
  | .leadWindowExpiry => Sys2Proof.Machine.execLeadWindowExpiry s
  | .commandIdleExpiry => Sys2Proof.Machine.execCommandIdleExpiry s
  | .blinkExpiry => Sys2Proof.Machine.execBlinkExpiry s
  | .busPowerSensed n => Sys2Proof.Machine.execBusPowerSensed n s
  | .busPowerLost n => Sys2Proof.Machine.execBusPowerLost n s
  | .busReset n => Sys2Proof.Machine.execBusReset n s
  | .configuration1Selected n => Sys2Proof.Machine.execConfiguration1Selected n s
  | .configuration0Selected n => Sys2Proof.Machine.execConfiguration0Selected n s
  | .busIdle n => Sys2Proof.Machine.execBusIdle n s
  | .resumeSignalling n => Sys2Proof.Machine.execResumeSignalling n s
  | .resumeSignallingEnd n => Sys2Proof.Machine.execResumeSignallingEnd n s
  | .setRemoteWakeupFeature n => Sys2Proof.Machine.execSetRemoteWakeupFeature n s
  | .clearRemoteWakeupFeature n => Sys2Proof.Machine.execClearRemoteWakeupFeature n s
  | .slotLedReport n leds => Sys2Proof.Machine.execSlotLedReport n leds s
  | .inPoll n => Sys2Proof.Machine.execInPoll n s
  | .reportAcknowledged n => Sys2Proof.Machine.execReportAcknowledged n s
  | .managementInPoll n => Sys2Proof.Machine.execManagementInPoll n s
  | .responseAcknowledged n => Sys2Proof.Machine.execResponseAcknowledged n s
  | .read n report => Sys2Proof.Machine.execRead n report s
  | .write n report => Sys2Proof.Machine.execWrite n report s
  | .commit n report => Sys2Proof.Machine.execCommit n report s
  | .focus n report => Sys2Proof.Machine.execFocus n report s
  | .wake n report => Sys2Proof.Machine.execWake n report s
  | .share n report => Sys2Proof.Machine.execShare n report s
  | .raise n report => Sys2Proof.Machine.execRaise n report s
  | .withdraw n report => Sys2Proof.Machine.execWithdraw n report s
  | .status n report => Sys2Proof.Machine.execStatus n report s
  | .save n report => Sys2Proof.Machine.execSave n report s
  | .restart n report => Sys2Proof.Machine.execRestart n report s
  | .wakeResponseExpiry n => Sys2Proof.Machine.execWakeResponseExpiry n s
  | .wakePulseExpiry n => Sys2Proof.Machine.execWakePulseExpiry n s
  | .powerUpWaitExpiry n => Sys2Proof.Machine.execPowerUpWaitExpiry n s
  | .queueHoldExpiry n => Sys2Proof.Machine.execQueueHoldExpiry n s
  | .frameStart n period lines => Sys2Proof.Machine.execFrameStart n period lines s
  | .lossTimerExpiry n => Sys2Proof.Machine.execLossTimerExpiry n s
  | .verticalBlanking h => Sys2Proof.Machine.execVerticalBlanking h s
  | .resetAsserted => Sys2Proof.Machine.execResetAsserted s
  | .resetReleased => Sys2Proof.Machine.execResetReleased s
  | .loadEnd changed => Sys2Proof.Machine.execLoadEnd changed s
  | .saveEraseEnd => Sys2Proof.Machine.execSaveEraseEnd s
  | .saveProgramEnd => Sys2Proof.Machine.execSaveProgramEnd s
  | .saveVerifyEnd changed => Sys2Proof.Machine.execSaveVerifyEnd changed s
  | .saveSignEnd changed => Sys2Proof.Machine.execSaveSignEnd changed s
  | .flashBusyTimeout => Sys2Proof.Machine.execFlashBusyTimeout s
  | .unknownKind n kind report => Sys2Proof.Machine.execUnknownKind n kind report s

end Sys2Proof.Machine
end

