-- ==== Sys2Proof/Machine/Picture.lean ====
section
/-! DEFINITION. The pictures the heads send: the four layers of a frame composed from a head's samples (09, R151 to R155)
and the privacy-filtered picture of DS (R159). They are the part's outputs, computed from `Head.sample`. -/

namespace Sys2Proof.Machine

/-- Entries of the colour table by their order (09, R153). -/
inductive ColorName where
  | background
  | normalBorder
  | focus
  | alert
  | attended
  | still
  | noSignal
  | privacy
  | cursor1
  | cursor2
  | cursor3
  deriving DecidableEq, Repr

/-- The colour table index of an entry (11, R171; 09, R153). -/
def ColorName.index : ColorName → Fin 11
  | .background => 0
  | .normalBorder => 1
  | .focus => 2
  | .alert => 3
  | .attended => 4
  | .still => 5
  | .noSignal => 6
  | .privacy => 7
  | .cursor1 => 8
  | .cursor2 => 9
  | .cursor3 => 10

/-- A colour of the sampled table. -/
def Sample.color (p : Sample) (c : ColorName) : Rgb := p.colors.get c.index

/-- The sampled slot of a tile's source, if it is bound. -/
def Sample.tileSlot (p : Sample) (t : TileRecord) : Option Slot := (p.sources.get t.source).bound

/-- The border colour of a tile: the first condition of R152 that applies. -/
def Sample.borderColor (p : Sample) (t : TileRecord) : Rgb :=
  let mark := match p.tileSlot t with
    | some n => (p.slots.get n).mark
    | none => .none
  if mark = .attended then p.color .attended
  else if mark = .showing then (if p.blink then p.color .alert else p.color .normalBorder)
  else if (p.sources.get t.source).still then p.color .still
  else if (p.tileSlot t).isSome ∧ p.tileSlot t = p.focus then p.color .focus
  else p.color .normalBorder

/-- Tile content at the tile's column `i`, row `j`: the sampled frame scaled by nearest sample, pixels beyond a short line
being black, or NO_SIGNAL (09, R151 layer 2). -/
def Sample.content (p : Sample) (t : TileRecord) (i j : Nat) : Rgb :=
  let c := p.sources.get t.source
  if c.locked then
    ((c.frame.getD (j * c.height / t.h) []).getD (i * c.width / t.w) ⟨0, 0, 0⟩)
  else p.color .noSignal

/-- Column `i`, row `j` of a tile lies in its border (09, R151 layer 3). -/
def TileRecord.inBorder (t : TileRecord) (i j : Nat) : Bool :=
  decide (i < t.border) || decide (j < t.border) || decide (t.w < i + 1 + t.border) || decide (t.h < j + 1 + t.border)

/-- The enabled tile of display `d` at display pixel (col, row), if any. -/
def Sample.tileOf (p : Sample) (d : DisplayIx) (col row : Nat) : Option TileRecord :=
  (allSixteen.map p.layout.tiles.get).find? fun t =>
    t.enabled && decide (t.display = d) &&
    decide (t.x ≤ col) && decide (col < t.x + t.w) && decide (t.y ≤ row) && decide (row < t.y + t.h)

/-- A tile is withheld from DS: its source is unbound, or its slot lacks SHARE_ALLOWED (09, R159). -/
def Sample.withheld (p : Sample) (t : TileRecord) : Bool :=
  match p.tileSlot t with
  | none => true
  | some n => !(p.slots.get n).shareAllowed

/-- The number of a sprite (13, section 13.2). -/
def Sprite.number : Sprite → Fin 4
  | .normal => 0
  | .waiting => 1
  | .blocked => 2
  | .gap => 3

/-- Pixel value of a sampled sprite at column `c`, row `r`, each below 32 (13, section 13.2). -/
def Sample.spritePixel (p : Sample) (k : Sprite) (c r : Nat) : Nat :=
  let rows := (p.sprites.toList.getD (k.number.val * 8 + r / 4) (Table.all 32 0)).toList
  ((rows.getD (8 * (r % 4) + c / 4) 0).toNat / 4 ^ (c % 4)) % 4

/-- The overlay cursor's colour at display pixel (col, row) of display `d`, if it is drawn there (09, R155). -/
def Sample.cursorColor (p : Sample) (d : DisplayIx) (col row : Nat) : Option Rgb :=
  p.cursor.bind fun k =>
    let o := (p.layout.displays.get d).record
    let spot := p.hotSpots.get k.number
    let c := (col : Int) - (p.px - o.ox - spot.hx)
    let r := (row : Int) - (p.py - o.oy - spot.hy)
    if 0 ≤ c ∧ c < 32 ∧ 0 ≤ r ∧ r < 32 then
      match p.spritePixel k c.toNat r.toNat with
      | 1 => some (p.color .cursor1)
      | 2 => some (p.color .cursor2)
      | 3 => some (p.color .cursor3)
      | _ => none
    else none

/-- Layers 1 to 3 at display pixel (col, row); with `filter`, withheld tiles take PRIVACY, border included (09, R151, R159). -/
def Sample.tileColor (p : Sample) (d : DisplayIx) (filter : Bool) (col row : Nat) : Rgb :=
  match p.tileOf d col row with
  | none => p.color .background
  | some t =>
    if filter && p.withheld t then p.color .privacy
    else if t.inBorder (col - t.x) (row - t.y) then p.borderColor t
    else p.content t (col - t.x) (row - t.y)

/-- A pixel of the frame head `d` composes from its samples (09, R151). -/
def Sample.displayPixel (p : Sample) (d : DisplayIx) (col row : Nat) : Rgb :=
  (p.cursorColor d col row).getD (p.tileColor d false col row)

/-- A pixel of the frame DS composes from its samples at the values `v` it runs at (09, R159). The cursor is drawn only
with the share-cursor flag set; a selected display that is NONE, or OFF, gives BACKGROUND (R158). -/
def Sample.sharePixel (p : Sample) (v : FrameValues) (col row : Nat) : Rgb :=
  match p.selection with
  | none => p.color .background
  | some d =>
    if (p.layout.displays.get d).record.profile.isNone then p.color .background
    else
      let size := (p.layout.displays.get d).values
      let c := col * size.width / v.width
      let r := row * size.height / v.height
      let under := p.tileColor d true c r
      if p.shareCursor then (p.cursorColor d c r).getD under else under

/-- The pixel a head sends at (col, row) of the frame after its latest blanking; none while it does not run (09, R139). -/
def State.headPixel (s : State) (h : HeadIx) (col row : Nat) : Option Rgb :=
  match h with
  | .display d =>
    let head := s.cmp.heads.get d
    if head.running ∧ col < head.values.width ∧ row < head.values.height then
      head.sample.map fun p => p.displayPixel d col row
    else none
  | .share =>
    let head := s.cmp.ds
    if head.running ∧ col < head.values.width ∧ row < head.values.height then
      head.sample.map fun p => p.sharePixel head.values col row
    else none

end Sys2Proof.Machine
end

