-- ==== Sys2Proof/Safety.lean ====
section
/-! DEFINITION. What counts as a lawful state: the laws the manual says the part holds at all times, one predicate each.
Every step keeps each of them (the statements in Certificates/Slice0/Obligations.lean say so). -/

namespace Sys2Proof

/-- The slot whose port carries a command that is a management request. -/
def Instr.sender : Instr → Option Slot
  | .read n _ | .write n _ | .commit n _ | .focus n _ | .wake n _ | .share n _ | .raise n _ | .withdraw n _ | .status n _
  | .save n _ | .restart n _ | .unknownKind n _ _ => some n
  | _ => none

/-- A command that RESET and the load take: RESET itself, the load's end and the flash's timeout (12, R183). -/
def Instr.isStartUp : Instr → Bool
  | .resetAsserted | .resetReleased | .loadEnd _ | .flashBusyTimeout => true
  | _ => false

end Sys2Proof

namespace Sys2Proof.Machine

/-! ### What the statements are stated in -/

/-- A step, or a command, has a next state. -/
def Completes (x : Host.Outcome State Fault Refusal) : Prop := ∃ t, x = .next t

/-- The bytes of a management request after its kind code (13, R191). -/
def requestBytes (code : Byte) (index : Half) (view : Byte) (payload : List Byte) : List Byte :=
  [code, index.setWidth 8, (index >>> 8).setWidth 8, view, byte payload.length] ++ payload

/-- The eleven kinds of management request, each with its kind code, from slot `n` (13, R191). -/
def requestKinds (n : Slot) : List (Byte × (List Byte → Instr)) :=
  [(1, .read n), (2, .write n), (3, .commit n), (4, .focus n), (5, .wake n), (6, .share n), (7, .raise n), (8, .withdraw n),
    (9, .status n), (10, .save n), (11, .restart n)]

/-- A console keyboard report that holds the modifiers `m` and the one key code `k` (13, R189). -/
def pressReport (m : Modifiers) (k : Byte) : List Byte := [m, 0, k, 0, 0, 0, 0, 0]

/-- A console keyboard report that holds the modifiers `m` and no key (13, R189). -/
def releaseReport (m : Modifiers) : List Byte := [m, 0, 0, 0, 0, 0, 0, 0]

/-- A key code that a report's position counts as a key: 4 to 223 (01, R2). -/
abbrev UsableKey (k : Byte) : Prop := 4 ≤ k.toNat ∧ k.toNat ≤ 223

/-- The part takes events and its console keyboard is READY with exactly the keys `ks` held. -/
abbrev KeysHeld (s : State) (ks : List Byte) : Prop := s.taking = true ∧ s.ciu.keyboardPort = .ready ∧ s.ciu.keys = ks

/-- The part takes events, slot `n` is ACTIVE, and its response queue holds fewer than 4: its port takes a management
request (05, R93). -/
abbrev OpenTo (s : State) (n : Slot) : Prop := s.taking = true ∧ s.link n = .active ∧ (s.port n).responses.length < 4

/-- The state with an entry at the newest end of the report queue of slot `n`, which is not OFF. T6 is stopped while the slot is
ACTIVE, and otherwise starts when its queue was empty (06, R110). -/
def State.appended (s : State) (n : Slot) (e : Entry) : State :=
  { s with
    ports := s.ports.put n { s.port n with queue := (s.port n).queue ++ [e] }
    bank := if s.link n = .active then s.bank.setTimer (.t6 n) .stopped
      else if (s.port n).queue = [] then s.bank.setTimer (.t6 n) (.running (s.tables.timing.get 6).duration 0)
      else s.bank }

/-- The part of the state that only WRITE, RESTART, the channels' commands, RESET, the load and the save change. -/
def State.outer (s : State) : List Instr × Bool × Tables × Table Channel 16 × Pl × Memory × Nat :=
  (s.pending, s.resetLine, s.tables, s.channels, s.pl, s.flash, s.cuts)

/-- The console's state: attach states, physical image and buttons, the command state, and T0 and T1. -/
def State.consoleSide (s : State) : (Attach × Attach × Modifiers × List Byte × Buttons) × CommandState × Wait × Wait :=
  ((s.ciu.keyboardPort, s.ciu.pointerPort, s.ciu.mods, s.ciu.keys, s.ciu.buttons), s.hkm, s.bank.t0, s.bank.t1)

/-! ### Sections and records -/

/-- A section of a valid image, judged: its records where its map entry has the fixed length and `decode` accepts its bytes, with
its bit in the set of sections defaulted clear, and otherwise the default, with the bit set (12, R182, R184, R185). -/
abbrev SectionJudged {α : Type} (img : List Byte) (code length : Nat) (decode : List Byte → Option α) (dflt stored : α)
    (bit : Bool) : Prop :=
  (∀ x, (mapEntry img code).2 = length → decode ((img.drop (mapEntry img code).1).take length) = some x →
    stored = x ∧ bit = false) ∧
  ((mapEntry img code).2 ≠ length ∨ decode ((img.drop (mapEntry img code).1).take length) = none →
    stored = dflt ∧ bit = true)

/-- The records of the active layout, those a save takes (12, R186). -/
def State.activeRecords (s : State) : Layout :=
  ⟨Table.tab fun d => (s.cmp.active.displays.get d).record, s.cmp.active.tiles⟩

/-- Every record of the tables and of the active layout reads back as it is stored, the active layout fits the profiles as a
load judges it, and the tables meet the rules between records (11, R170; 02, R26, R27; 12, R184; 13, R191). -/
abbrev RecordsReadBack (s : State) : Prop :=
  (∀ n, slotRecordOf (s.slotRecord n).bytes = some (s.slotRecord n)) ∧
  (∀ n, sourceRecordOf (s.source n).bytes = some (s.source n)) ∧
  (∀ d, displayRecordOf (s.activeRecords.displays.get d).bytes = some (s.activeRecords.displays.get d)) ∧
  (∀ i, tileRecordOf (s.activeRecords.tiles.get i).bytes = some (s.activeRecords.tiles.get i)) ∧
  (∀ p, profileOf (s.tables.profiles.get p).bytes = some (s.tables.profiles.get p)) ∧
  (∀ p d, displayRecordOf ((s.tables.presets.get p).displays.get d).bytes = some ((s.tables.presets.get p).displays.get d)) ∧
  (∀ p i, tileRecordOf ((s.tables.presets.get p).tiles.get i).bytes = some ((s.tables.presets.get p).tiles.get i)) ∧
  (∀ e, hotkeyOf (s.tables.hotkeys.get e).bytes = some (s.tables.hotkeys.get e)) ∧
  generalOf s.general.bytes = some s.general ∧
  (∀ k, hotSpotOf (s.tables.hotSpots.get k).bytes = some (s.tables.hotSpots.get k)) ∧
  hasAccessWriter s.tables.access = true ∧ anyCollision s.tables.hotkeys.toList = false ∧
  holdsKey s.tables.hotkeys s.tables.leadKey = false ∧
  clipLayout s.tables.profiles (fun _ => true) s.activeRecords = s.activeRecords ∧
  (activeOf s.tables.profiles s.activeRecords).conflicts = false

/-! ### Laws -/

/-- The flash contents keep their canonical form, what a save would program fits the image
area, and a slot record holds at most four blocked chords (12, R181; 01, R17). -/
abbrev FlashLaw (s : State) : Prop := s.flash.wf = true ∧ s.pl.saveBuffer.length ≤ Config.imageArea ∧
  ∀ n, (s.slotRecord n).blocked.length ≤ 4

/-- Queue capacities, and an OFF port at its power-on values (05, R80, R84, R93). -/
abbrev Port.Lawful (p : Port) : Prop :=
  p.queue.length ≤ Config.reportCapacity ∧ p.responses.length ≤ Config.responseCapacity ∧
  (p.link = .off → p = Port.reset) ∧ (p.signalling.isRunning = true → p.link = .resuming)

/-- Every port is lawful. -/
abbrev PortLaw (s : State) : Prop := ∀ n, (s.port n).Lawful

/-- The newest KEYBOARD image of a queue, or the last delivered one when the queue holds none (05, R91). -/
def newestImage (last : KeyImage) (q : List Entry) : KeyImage :=
  q.foldl (fun k e => match e with
    | .keyboard i => i
    | .abs _ _ _ _ | .rel _ _ _ _ => k) last

/-- Each slot's newest KEYBOARD image equals its sent image (05, R91). -/
abbrev ImageLaw (s : State) : Prop := ∀ n, newestImage (s.port n).lastKeyboard (s.port n).queue = s.sent n

/-- Every key code in a sent image is in the physical key image, and its held-key map entry names that slot (01, R10). -/
abbrev KeyLaw (s : State) : Prop :=
  ∀ n, ∀ k ∈ (s.sent n).keys, k ∈ s.ciu.keys ∧ heldKey k s.fc.held = some (.slot n)

/-- The focus slot's sent modifiers are the physical ones less the suppressed ones while the focus is deliverable, every
other slot's are empty, and with no deliverable focus every held modifier is suppressed (01, R16). -/
abbrev ModifierLaw (s : State) : Prop :=
  (∀ n, (s.sent n).mods = if s.fc.focus = some n ∧ s.deliverable = true then s.ciu.mods &&& ~~~s.fc.suppressed else 0) ∧
  (s.deliverable = false → s.ciu.mods &&& ~~~s.fc.suppressed = 0)

/-- The wake record of a slot by its link: IDLE while ACTIVE (06, R106), the line asserted exactly in LINE_PULSE (R109), at most
8 attempts (R102). -/
abbrev WakeRecord.Lawful (w : WakeRecord) (l : Link) : Prop :=
  (l = .active → w.phase = .idle) ∧ (w.line = true ↔ w.phase = .linePulse) ∧ w.attempts ≤ 8 ∧
  (w.phase = .signal ∨ w.phase = .await → w.attempts ≤ 7)

/-- Every wake record is lawful. -/
abbrev WakeLaw (s : State) : Prop := ∀ n, (s.wake n).Lawful (s.link n)

/-- Each wait runs exactly while its owner waits: T0 in LEAD_ONE, T1 in COMMAND (02, section 2.4), T3 in AWAIT, T4 in
LINE_PULSE, T5 in LINE_AWAIT (06), T6 while a slot that is not ACTIVE holds entries (R110), the loss timer outside NO_SIGNAL
(08, R127, R130). -/
abbrev TimerLaw (s : State) : Prop :=
  (s.bank.t0.isRunning = true ↔ s.hkm = .leadOne) ∧ (s.bank.t1.isRunning = true ↔ s.hkm = .command) ∧
  (∀ n, ((s.timer (.t3 n)).isRunning = true ↔ (s.wake n).phase = .await) ∧
    ((s.timer (.t4 n)).isRunning = true ↔ (s.wake n).phase = .linePulse) ∧
    ((s.timer (.t5 n)).isRunning = true ↔ (s.wake n).phase = .lineAwait) ∧
    ((s.timer (.t6 n)).isRunning = true ↔ (s.port n).waits = true)) ∧
  (∀ n, (s.channel n).lossTimer.isRunning = true ↔ (s.channel n).lock ≠ .noSignal)

/-- While RESET is asserted or a load runs, nothing is attached, driven or timed (12, R183). -/
abbrev QuietLaw (s : State) : Prop :=
  s.taking = false → (∀ n, s.link n = .off) ∧ s.ciu.keyboardPort = .detached ∧ s.ciu.pointerPort = .detached ∧
    (∀ d, (s.cmp.heads.get d).running = false) ∧ s.cmp.ds.running = false ∧ (∀ n, (s.wake n).line = false) ∧ s.bank = Bank.reset

/-- T2 runs for as long as the part takes events (10, R164). -/
abbrev BlinkLaw (s : State) : Prop := s.taking = true → s.bank.t2.isRunning = true

/-- No slot is both pending and attended, each stands once, the pending set is in pending order and the levels of the
stack, whose top comes first, strictly increase from bottom to top (07, R113, R114). -/
abbrev AttentionLaw (s : State) : Prop :=
  s.atu.alerts.Pairwise (fun a b => a.before b = true) ∧ (s.atu.alerts.map (·.slot)).Nodup ∧
  s.atu.stack.Pairwise (fun a b => b.level < a.level) ∧ (s.atu.stack.map (·.slot)).Nodup ∧
  ∀ a ∈ s.atu.alerts, ∀ e ∈ s.atu.stack, a.slot ≠ e.slot

/-- Some slot holds the write right of the ACCESS section (11, R170). -/
abbrev AccessLaw (s : State) : Prop := hasAccessWriter s.tables.access = true

/-- No two enabled hotkey entries collide and no entry holds the lead key (02, R26, R27). -/
abbrev HotkeyLaw (s : State) : Prop :=
  anyCollision s.tables.hotkeys.toList = false ∧ holdsKey s.tables.hotkeys s.tables.leadKey = false

/-- The desk residues and the relative accumulators keep their ranges (04, R63, R70). -/
abbrev ResidueLaw (s : State) : Prop :=
  -15 ≤ s.gu.rx ∧ s.gu.rx ≤ 15 ∧ -15 ≤ s.gu.ry ∧ s.gu.ry ≤ 15 ∧
  ∀ n, -2047 ≤ s.gu.accX.get n ∧ s.gu.accX.get n ≤ 2047 ∧ -2047 ≤ s.gu.accY.get n ∧ s.gu.accY.get n ≤ 2047

/-- A channel's values by its lock state (08, R125, R128, R130, R132, R133). -/
abbrev Channel.Lawful (c : Channel) : Prop :=
  (c.lock = .noSignal → c = Channel.reset) ∧ (c.lock ≠ .locked → c.stillCount = 0 ∧ c.still = false) ∧
  c.stillCount ≤ Config.stillCountMax ∧ c.width ≤ Config.frameLimit ∧ c.height ≤ Config.frameLimit ∧ c.period < 200000

/-- Every channel is lawful. -/
abbrev ChannelLaw (s : State) : Prop := ∀ n, (s.channel n).Lawful

/-! ### What several statements say of a step -/

/-- What an erase step that is cut short can have done to the flash (12, R187; L7, L8): no sector has changed before the header's
is erased whole, and each sector but one is as it was or erased. -/
def EraseCutShort (before after : Memory) : Prop :=
  ((∃ a, 4096 ≤ a ∧ after.read a ≠ before.read a) → ∀ a, a < 4096 → after.read a = 0xFF) ∧
  ∃ underWay, ∀ sector, sector ≠ underWay →
    (∀ a, a / 4096 = sector → after.read a = 0xFF) ∨ ∀ a, a / 4096 = sector → after.read a = before.read a

/-- What a program step that is cut short can have done (12, R187; L7, L8): a beginning of the image stands in the flash without
its signature word, and the rest is erased. -/
def ProgramCutShort (image : List Byte) (after : Memory) : Prop :=
  ∃ done, ∀ a, after.read a = if 4 ≤ a ∧ a < done then image.getD a 0xFF else 0xFF

/-- The armed layouts of a group activated in one step (09, R139, R140, R147 to R149), the re-evaluations of P not yet made: each
display's armed record and values become active, the tiles claimed take the claimed records and the enabled tiles not claimed are
disabled, the armed layouts end, LAYOUT_APPLIED is raised, and each head goes on, starts or stops. -/
def ActivatesGroup (s u : State) (group : List DisplayIx) : Prop :=
  let here (e : DisplayIx) : Option ArmedLayout := if e ∈ group then s.cmp.armed.get e else none
  u = { s with
    cmp := { s.cmp with active := u.cmp.active, armed := u.cmp.armed, heads := u.cmp.heads }
    mgi := { s.mgi with events := u.mgi.events } } ∧
  (∀ m, u.mgi.events.get m = if (s.access m).events = true then s.mgi.events.get m ||| 1 else s.mgi.events.get m) ∧
  (∀ e, here e = none → u.cmp.active.displays.get e = s.cmp.active.displays.get e ∧
    u.cmp.armed.get e = s.cmp.armed.get e ∧ u.cmp.heads.get e = s.cmp.heads.get e) ∧
  (∀ e x, here e = some x → u.cmp.active.displays.get e = x.display ∧ u.cmp.armed.get e = none ∧
    (x.display.record.profile = none → (u.cmp.heads.get e).running = false) ∧
    (x.display.record.profile ≠ none → u.cmp.heads.get e = ⟨true, x.display.values,
      if (s.cmp.heads.get e).running = true then (s.cmp.heads.get e).values else x.display.values,
      some (u.sample (some e))⟩)) ∧
  (∀ i, (∀ e x, here e = some x → x.claims.get i = none) → u.cmp.active.tiles.get i =
    let t := s.cmp.active.tiles.get i
    if (here t.display).isSome = true ∧ t.enabled = true then { t with enabled := false } else t) ∧
  ∀ i e x y, here e = some x → x.claims.get i = some y → y.display = e →
    (∀ f z, here f = some z → f ≠ e → z.claims.get i = none) → u.cmp.active.tiles.get i = y

/-- The restore of what an entry of the attended stack saved (07, R121): the focus is the saved one, and in FOLLOW mode P is the saved
place where that lies on an enabled display, otherwise the centre of the saved focus's home tile where it has one. -/
def RestoresSaved (s t : State) (e : Attended) : Prop :=
  let stays : Prop := t.gu.px = s.gu.px ∧ t.gu.py = s.gu.py
  let onDesk : Prop := (s.cmp.active.displayAt e.savedX e.savedY).isSome = true
  t.fc.focus = e.savedFocus ∧
  (s.fc.follow = .separate → stays) ∧
  (s.fc.follow = .follow → onDesk → t.gu.px = e.savedX ∧ t.gu.py = e.savedY) ∧
  (s.fc.follow = .follow → ¬onDesk → ∀ f i r, e.savedFocus = some f → s.tileSlot i = some f → s.cmp.active.placed i = some r →
    (∀ j, j < i → s.tileSlot j = some f → s.cmp.active.placed j = none) →
    t.gu.px = r.x + r.w / 2 ∧ t.gu.py = r.y + r.h / 2) ∧
  (s.fc.follow = .follow → ¬onDesk →
    (∀ f i, e.savedFocus = some f → s.tileSlot i = some f → s.cmp.active.placed i = none) → stays)

/-- What a link reset of slot `n` leaves of the attended stack (07, R122, R123): its entry is gone, and the entry directly above it,
if there is one, takes over what it saved. -/
def LeavesTheStack (s t : State) (n : Slot) : Prop :=
  (s.atu.isStacked n = false → t.atu.stack = s.atu.stack) ∧
  (∀ e rest, s.atu.stack = e :: rest → e.slot = n → t.atu.stack = rest) ∧
  ∀ upper above e lower, s.atu.stack = upper ++ above :: e :: lower → e.slot = n →
    t.atu.stack = upper ++ { above with savedFocus := e.savedFocus, savedX := e.savedX, savedY := e.savedY } :: lower

end Sys2Proof.Machine
end

