-- ==== Sys2Proof/Certificates/Slice0/Obligations.lean ====
section
/-! DEFINITION. The statements for the provers. Each docstring names the rules a statement formalises; where a clause rests on
a choice of the model it names the log entry. -/

open Sys2Proof Sys2Proof.Machine

/-! ### Steps -/

/-- A step takes the command at the front of the queue and runs it on the state with the queue's rest. The queue is the
model's own (L32), as are the commands' operands (L19). -/
def Obligations.StepRunsTheFrontCommand : Prop :=
  ∀ (c : Instr) (rest : List Instr) (s : State), step (s.setPending (c :: rest)) = exec c (s.setPending rest)

/-- On an empty queue a step lets one millisecond pass (the model's choice, L2). While RESET is asserted or a load runs nothing
changes (R183). Otherwise each running wait of duration d and elapsed time e becomes one of duration d and elapsed time e + 1,
every stopped one stays stopped and all else is kept (R162), and the queue then holds the expiries of exactly the waits that have
reached their durations, in the order the model fixes (L30); each is taken by the next steps and belongs to the wait that has
run out, since it is taken only while that wait stands at its duration (R163; L3). -/
def Obligations.EmptyQueueLetsTimePass : Prop :=
  (∀ w : Wait, w.due = true ↔ ∃ d e, w = .running d e ∧ d ≤ e) ∧
  ∀ s : State, s.pending = [] →
    let later : Wait → Wait := fun w => match w with
      | .stopped => .stopped
      | .running d e => .running d (e + 1)
    let order : List Instr := [.leadWindowExpiry, .commandIdleExpiry, .blinkExpiry] ++
      allSlots.flatMap (fun n => [.resumeSignallingEnd n, .wakeResponseExpiry n, .wakePulseExpiry n, .powerUpWaitExpiry n,
        .queueHoldExpiry n]) ++ allSixteen.map .lossTimerExpiry
    (s.taking = false → step s = .next s) ∧
    (s.taking = true → ∃ t, step s = .next t ∧
      t = { s with bank := t.bank, ports := t.ports, channels := t.channels, pending := t.pending } ∧
      (∀ i, t.timer i = later (s.timer i)) ∧
      (∀ n, t.port n = { s.port n with signalling := later (s.port n).signalling }) ∧
      (∀ n, t.channel n = { s.channel n with lossTimer := later (s.channel n).lossTimer }) ∧
      t.pending.Sublist order ∧
      (Instr.leadWindowExpiry ∈ t.pending ↔ (t.timer .t0).due = true) ∧
      (Instr.commandIdleExpiry ∈ t.pending ↔ (t.timer .t1).due = true) ∧
      (Instr.blinkExpiry ∈ t.pending ↔ (t.timer .t2).due = true) ∧
      (∀ n, (Instr.resumeSignallingEnd n ∈ t.pending ↔ (t.port n).signalling.due = true) ∧
        (Instr.wakeResponseExpiry n ∈ t.pending ↔ (t.timer (.t3 n)).due = true) ∧
        (Instr.wakePulseExpiry n ∈ t.pending ↔ (t.timer (.t4 n)).due = true) ∧
        (Instr.powerUpWaitExpiry n ∈ t.pending ↔ (t.timer (.t5 n)).due = true) ∧
        (Instr.queueHoldExpiry n ∈ t.pending ↔ (t.timer (.t6 n)).due = true)) ∧
      ∀ n, Instr.lossTimerExpiry n ∈ t.pending ↔ (t.channel n).lossTimer.due = true)

/-- A command leaves the queue of waiting commands as it is: the queue is the model's own, and that no command touches it is
the model's choice (L32). -/
def Obligations.CommandsKeepTheQueue : Prop :=
  ∀ (c : Instr) (s t : State), exec c s = .next t → t.pending = s.pending

/-- While RESET is asserted or a load runs, no block takes an event: every command but those of RESET and the load leaves
the state as it is (R183). -/
def Obligations.NoEventIsTakenWhileResetOrLoading : Prop :=
  ∀ (c : Instr) (s : State), s.taking = false → c.isStartUp = false → exec c s = .next s

/-! ### RESET, the load and the save -/

/-- RESET asserted puts every block at its power-on values and abandons what runs, keeping the queue (R183): the values of
R1, R2, R4, R6 to R9, R31, R44 to R46, R61, R63, R72, R74, R96, R113, R114, R124, R125, R160, R166 and R178 to R180, spelt below;
those that come from the tables before any load, and those of the Profile Loader, are the model's (L1, L22). Without a save the
flash stays; a save that is abandoned leaves the flash as its step left it, and after an erase the next start-up finds no valid
image and defaults every section (R187): the erase step has changed nothing or leaves no valid signature (that this holds of an
erase cut short in its first sector too is the model's choice, L8), the header's sector being erased whole (FFh, L7) before
another sector changes, and one sector at a time; the program step leaves a beginning of the image without its signature word and
the rest erased, the verify step an unsigned flash and the sign step all but the signature word as they were, and none of the three
leaves a valid signature. How far a step had come is the model's free value (L8). RESET released then enters LOADING and changes
nothing else. -/
def Obligations.ResetHoldsPowerOnValues : Prop :=
  let r := State.reset
  let signed (m : Memory) : Prop := m.bytes 0 4 = [0xE1, 0x96, 0x3C, 0x5A]
  (∀ s : State, ∃ t, exec .resetAsserted s = .next t ∧
    t = { State.reset with pending := s.pending, flash := t.flash, cuts := t.cuts } ∧
    ((∀ x, s.pl.loader ≠ .saving x) → t.flash = s.flash ∧ t.cuts = s.cuts) ∧
    (s.pl.loader = .saving .erase →
      t.flash = s.flash ∨ ¬ signed t.flash ∧ t.flash.image = none ∧ EraseCutShort s.flash t.flash) ∧
    (∀ x, s.pl.loader = .saving x → x ≠ .erase → ¬ signed t.flash ∧ t.flash.image = none) ∧
    (s.pl.loader = .saving .verify → ¬ signed s.flash → t.flash = s.flash) ∧
    (s.pl.loader = .saving .program → ProgramCutShort s.pl.saveBuffer t.flash) ∧
    (s.pl.loader = .saving .sign → s.flash.wf = true → ∀ a, 4 ≤ a → t.flash.read a = s.flash.read a)) ∧
  (r.resetLine = true ∧ r.tables = tablesOf defaultSections ∧
    r.ciu.keyboardPort = .detached ∧ r.ciu.pointerPort = .detached ∧ r.ciu.mods = 0 ∧ r.ciu.keys = [] ∧ r.ciu.buttons = 0 ∧
    r.ciu.composed = 0 ∧ r.ciu.ledSent = none ∧ r.ciu.transfer = none ∧ r.ciu.retryHold = false ∧ r.ciu.resend = false ∧
    r.fc.focus = some 0 ∧ r.fc.follow = .follow ∧ r.fc.held = [] ∧ r.fc.suppressed = 0 ∧ r.fc.passNext = false ∧
    (∀ n, r.sent n = KeyImage.empty) ∧ r.hkm = .normal ∧
    r.gu.px = -2880 ∧ r.gu.py = 540 ∧ r.gu.rx = 0 ∧ r.gu.ry = 0 ∧ r.gu.tile = some 0 ∧ r.gu.display = some 0 ∧
    r.gu.pointerSlot = some 0 ∧ r.gu.glideLock = false ∧ r.gu.suppressed = 0 ∧
    (∀ n, r.delivered n = 0 ∧ r.gu.accX.get n = 0 ∧ r.gu.accY.get n = 0) ∧
    (∀ n, r.port n = ⟨.off, [], none, KeyImage.empty, 0, 0, false, [], none, .stopped⟩) ∧
    (∀ n, r.wake n = { phase := .idle, attempts := 0, cause := .none, line := false }) ∧
    r.atu.alerts = [] ∧ r.atu.stack = [] ∧
    (∀ n, r.channel n = ⟨.noSignal, 0, 0, 0, 0, 0, false, .stopped, []⟩) ∧
    r.cmp.layout = defaultLayout ∧ r.cmp.active.tiles = defaultLayout.tiles ∧
    (∀ d, (r.cmp.active.displays.get d).record = defaultLayout.displays.get d ∧ r.cmp.armed.get d = none ∧
      (r.cmp.heads.get d).running = false ∧ (r.cmp.heads.get d).sample = none) ∧
    r.cmp.ds.running = false ∧ r.cmp.ds.sample = none ∧ r.cmp.shareWritten = false ∧ r.cmp.selection = none ∧
    r.cmp.requested = none ∧ r.cmp.blink = false ∧ (∀ i, r.timer i = .stopped) ∧
    r.mgi.startCount = 0 ∧ (∀ n, r.mgi.events.get n = 0 ∧ r.mgi.snapshots.get n = none) ∧
    r.pl.loader = .idle ∧ r.pl.flashBusy = false ∧ r.pl.loadCopy = none ∧ r.pl.saveBuffer = [] ∧ r.pl.defaulted = 0) ∧
  ∀ s : State, s.resetLine = true →
    exec .resetReleased s = .next { s with resetLine := false, pl := { s.pl with loader := .loading, flashBusy := false } }

/-- The end of a load that finds no valid image (or a flash that stayed busy, R182) installs every default, raises
PROFILE_DEFAULTED to every slot and starts the part: focus slot 0, P at the centre of D0, T2 at 400 ms, all heads running, all
links OFF (R183, R185). -/
def Obligations.LoadEndWithoutAValidImage : Prop :=
  ∀ (s : State) (changed : List Host.Cell), s.resetLine = false → s.pl.loader = .loading →
    s.pl.flashBusy = true ∨ (s.flash.change changed).image = none →
    ∃ t, exec (.loadEnd changed) s = .next t ∧ t.tables = tablesOf defaultSections ∧ t.taking = true ∧ t.pl.loader = .idle ∧
      t.pl.loadCopy = none ∧ t.pl.defaulted = 0xFF ∧ t.flash = s.flash.change changed ∧ t.pending = s.pending ∧
      (∀ n, t.mgi.events.get n = 4096 ∧ t.link n = .off) ∧ t.fc.focus = some 0 ∧ t.fc.follow = .follow ∧
      t.gu.px = -2880 ∧ t.gu.py = 540 ∧ t.gu.pointerSlot = some 0 ∧ t.bank.t2 = .running 400 0 ∧
      (∀ d, (t.cmp.heads.get d).running = true ∧ (t.cmp.heads.get d).values = ⟨1920, 1080, 60⟩) ∧ t.cmp.ds.running = true

/-- The end of a load that finds a valid image installs its sections, records the set of sections defaulted and raises
PROFILE_DEFAULTED to the slots holding EVENTS in the loaded table exactly when that set is not empty (R183, R184); the loaded
layout becomes both the active and the pending layout, with the values of its profiles. A section stands when its map entry has
the section's fixed length and every one of its records would be accepted by a WRITE: an ACCESS section also holds an ACCESS
writer, a LAYOUT section, clipped and moved as a COMMIT of all four displays, no overlap, and an INPUT section no entry with the
lead key and no collision; any other section takes its defaults and joins the set (R182, R184, R185). The image that a save takes
of a state whose records each read back as written loads back to that state's tables, active layout and general input record,
with no section defaulted (R186, R193). -/
def Obligations.LoadEndWithAValidImage : Prop :=
  (∀ (s : State) (changed : List Host.Cell) (img : List Byte), s.resetLine = false → s.pl.loader = .loading →
    s.pl.flashBusy = false → (s.flash.change changed).image = some img →
    ∃ t, exec (.loadEnd changed) s = .next t ∧ t.tables = tablesOf (loadValid img).1 ∧ t.taking = true ∧
      t.pl.loadCopy = some img ∧ t.pl.defaulted = (loadValid img).2 ∧ t.flash = s.flash.change changed ∧ t.pending = s.pending ∧
      (∀ n, t.mgi.events.get n =
        if (loadValid img).2 ≠ 0 ∧ ((loadValid img).1.access.get n).events = true then 4096 else 0) ∧
      t.cmp.layout = (loadValid img).1.layout.layout ∧ t.cmp.active.tiles = (loadValid img).1.layout.layout.tiles ∧
      (∀ d, (t.cmp.active.displays.get d).record = (loadValid img).1.layout.layout.displays.get d ∧
        (t.cmp.active.displays.get d).values =
          profileValues (loadValid img).1.layout.profiles ((loadValid img).1.layout.layout.displays.get d) ∧
        t.cmp.armed.get d = none ∧
        (t.cmp.heads.get d).running = ((loadValid img).1.layout.layout.displays.get d).profile.isSome) ∧
      t.fc.focus = some (loadValid img).1.input.general.startSlot ∧ t.fc.follow = (loadValid img).1.input.general.follow) ∧
  (∀ img : List Byte,
    SectionJudged img 0 24 accessSection defaultSections.access (loadValid img).1.access ((loadValid img).2.getLsbD 0) ∧
    SectionJudged img 1 104 (recordsOf 8 13 slotRecordOf) defaultSections.slots (loadValid img).1.slots
      ((loadValid img).2.getLsbD 1) ∧
    SectionJudged img 2 176 (recordsOf 16 11 sourceRecordOf) defaultSections.sources (loadValid img).1.sources
      ((loadValid img).2.getLsbD 2) ∧
    SectionJudged img 3 285 layoutSection defaultSections.layout (loadValid img).1.layout ((loadValid img).2.getLsbD 3) ∧
    SectionJudged img 4 976 (recordsOf 4 244 layoutOf) defaultSections.presets (loadValid img).1.presets
      ((loadValid img).2.getLsbD 4) ∧
    SectionJudged img 5 176 inputSection defaultSections.input (loadValid img).1.input ((loadValid img).2.getLsbD 5) ∧
    SectionJudged img 6 1066 appearanceSection defaultSections.appearance (loadValid img).1.appearance
      ((loadValid img).2.getLsbD 6) ∧
    SectionJudged img 7 14 (recordsOf 7 2 timingOf) defaultSections.timing (loadValid img).1.timing
      ((loadValid img).2.getLsbD 7)) ∧
  (∀ (l : List Byte) (t : Table AccessEntry 8), accessSection l = some t ↔
    (∀ n, accessOf ((l.drop (3 * n.val)).take 3) = some (t.get n)) ∧ ∃ n, (t.get n).writeRights.getLsbD 0 = true) ∧
  (∀ (l : List Byte) (t : Table SlotRecord 8), recordsOf 8 13 slotRecordOf l = some t ↔
    ∀ n, slotRecordOf ((l.drop (13 * n.val)).take 13) = some (t.get n)) ∧
  (∀ (l : List Byte) (x : LayoutSection), layoutSection l = some x ↔
    ∃ y : Layout, (∀ d, displayRecordOf ((l.drop (5 * d.val)).take 5) = some (y.displays.get d)) ∧
      (∀ i, tileRecordOf (((l.drop 20).drop (14 * i.val)).take 14) = some (y.tiles.get i)) ∧
      (∀ p, profileOf (((l.drop 244).drop (5 * p.val)).take 5) = some (x.profiles.get p)) ∧
      shareRecordOf (l.drop 284) = some x.shareRecord ∧ x.layout = clipLayout x.profiles (fun _ => true) y ∧
      (activeOf x.profiles x.layout).conflicts = false) ∧
  (∀ (l : List Byte) (x : InputSection), inputSection l = some x ↔
    (∀ e, hotkeyOf ((l.drop (5 * e.val)).take 5) = some (x.hotkeys.get e)) ∧
      (∀ w, windowOf (((l.drop 160).drop (3 * w.val)).take 3) = some (x.windows.get w)) ∧
      generalOf (l.drop 172) = some x.general ∧ (∀ e, (x.hotkeys.get e).key ≠ x.general.leadKey) ∧
      anyCollision x.hotkeys.toList = false) ∧
  ∀ s : State, RecordsReadBack s →
    headerValid s.buildImage = true ∧ s.buildImage.length = imageLength s.buildImage ∧
    tablesOf (loadValid s.buildImage).1 = s.tables ∧ (loadValid s.buildImage).1.layout.layout = s.activeRecords ∧
    (loadValid s.buildImage).1.input.general = s.general ∧ (loadValid s.buildImage).2 = 0

/-- Erasing ends with an erased image area, and programming with the save buffer in it but for its first four bytes, the
signature word, left erased (R187 steps 1 and 2; that erased bytes read FFh is the model's, L7). A flash busy for more than 2 s
ends a save at any step with SAVE_FAILED and an invalid load copy: before the sign step the flash then holds no valid signature,
since the header's sector is the first erased, with at most one other sector part erased; in the program step a beginning of the
image stands without its signature word and the rest is erased, in the verify step a flash without a signature stays as it is, and
in the sign step all but the signature word stays (R187); how far the step had come is the model's free value (L8). In a load it marks the load (R182; L26). -/
def Obligations.SaveStepsEraseProgramAndTimeout : Prop :=
  (∀ s : State, s.resetLine = false → s.pl.loader = .saving .erase →
    ∃ t, exec .saveEraseEnd s = .next t ∧ t = { s with flash := [], pl := { s.pl with loader := .saving .program } } ∧
      ∀ a, t.flash.read a = 0xFF) ∧
  (∀ s : State, s.resetLine = false → s.pl.loader = .saving .program →
    ∃ t, exec .saveProgramEnd s = .next t ∧ t = { s with flash := t.flash, pl := { s.pl with loader := .saving .verify } } ∧
      ∀ a, t.flash.read a = if 4 ≤ a then s.pl.saveBuffer.getD a 0xFF else 0xFF) ∧
  (∀ (s : State) (x : SaveStep), s.resetLine = false → s.pl.loader = .saving x →
    ∃ t, exec .flashBusyTimeout s = .next t ∧
      t = ({ s with flash := t.flash, cuts := t.cuts, pl := { s.pl with loader := .idle, loadCopy := none } } : State).raiseEvent
        .saveFailed ∧
      (x ≠ .sign → t.flash.bytes 0 4 ≠ [0xE1, 0x96, 0x3C, 0x5A]) ∧
      (x = .verify → s.flash.bytes 0 4 ≠ [0xE1, 0x96, 0x3C, 0x5A] → t.flash = s.flash) ∧
      (x = .erase → EraseCutShort s.flash t.flash) ∧
      (x = .program → ProgramCutShort s.pl.saveBuffer t.flash) ∧
      (x = .sign → s.flash.wf = true → ∀ a, 4 ≤ a → t.flash.read a = s.flash.read a)) ∧
  ∀ s : State, s.resetLine = false → s.pl.loader = .loading →
    exec .flashBusyTimeout s = .next { s with pl := { s.pl with flashBusy := true } }

/-- Verifying: when the image area, as the flash gives it back, holds the save buffer in every byte but the signature word
and is erased past it, signing begins; when any such byte differs, the save ends with SAVE_FAILED, and the load copy is
invalid (R187 step 3; that bytes past the buffer are compared is the model's choice, L25, and that erased bytes read FFh, L7).
Signing: the signature word is programmed; when it reads back as E1h, 96h, 3Ch, 5Ah, whatever else of the flash has changed from
outside, the save ends with SAVE_DONE, the load copy becoming the save buffer; when any byte of it reads back otherwise it ends
with SAVE_FAILED and an invalid load copy (R187 step 4). What the flash gives back is the operand (L7). -/
def Obligations.SaveVerifiesAndSigns : Prop :=
  (∀ (s : State) (changed : List Host.Cell), s.resetLine = false → s.pl.loader = .saving .verify →
    s.flash.wf = true → s.pl.saveBuffer.length ≤ Config.imageArea →
    ((∀ a, 4 ≤ a → (s.flash.change changed).read a = s.pl.saveBuffer.getD a 0xFF) →
      exec (.saveVerifyEnd changed) s =
        .next { s with flash := s.flash.change changed, pl := { s.pl with loader := .saving .sign } }) ∧
    (∀ a, 4 ≤ a → (s.flash.change changed).read a ≠ s.pl.saveBuffer.getD a 0xFF →
      exec (.saveVerifyEnd changed) s = .next (({ s with
        flash := s.flash.change changed
        pl := { s.pl with loader := .idle, loadCopy := none } } : State).raiseEvent .saveFailed))) ∧
  ∀ (s : State) (changed : List Host.Cell), s.resetLine = false → s.pl.loader = .saving .sign → s.flash.wf = true →
    let signed := (s.flash.change [(0, 0xE1), (1, 0x96), (2, 0x3C), (3, 0x5A)]).change changed
    let done : State := State.raiseEvent { s with
      flash := signed, pl := { s.pl with loader := .idle, loadCopy := some s.pl.saveBuffer } } .saveDone
    let failed : State := State.raiseEvent { s with
      flash := signed, pl := { s.pl with loader := .idle, loadCopy := none } } .saveFailed
    ((∀ c ∈ changed, 4 ≤ c.1) → exec (.saveSignEnd changed) s = .next done) ∧
    (signed.read 0 = 0xE1 → signed.read 1 = 0x96 → signed.read 2 = 0x3C → signed.read 3 = 0x5A →
      exec (.saveSignEnd changed) s = .next done) ∧
    (signed.read 0 ≠ 0xE1 ∨ signed.read 1 ≠ 0x96 ∨ signed.read 2 ≠ 0x3C ∨ signed.read 3 ≠ 0x5A →
      exec (.saveSignEnd changed) s = .next failed) ∧
    (∀ a, 4 ≤ a → a < Config.imageArea → (∀ c ∈ changed, c.1 ≠ a) → signed.read a = s.flash.read a)

/-! ### Console ports and the single timers -/

/-- A device connected to a DETACHED port takes it to CONFIGURING. The end of configuration takes the port to READY where the
device offers the report interface proper to it, a keyboard interface with the console keyboard layout on the keyboard port and a
pointer interface with the console pointer layout on the pointer port, and answers every request of a configuration step,
refusing none; otherwise it takes the port to REFUSED (R1). The keyboard port's entry into READY starts an LED output transfer
that carries the composed state and clears any retry hold (R7). Nothing else changes. -/
def Obligations.ConsolePortsConfigure : Prop :=
  ∀ (s : State) (d : ConsoleDevice), s.taking = true →
    let noStepFails : Prop := ∀ a ∈ d.answers, a = .accepted
    let forKeyboard : Prop := ∃ i ∈ d.interfaces, i.kind = .keyboard ∧ i.layout = .consoleKeyboard
    let forPointer : Prop := ∃ i ∈ d.interfaces, i.kind = .pointer ∧ i.layout = .consolePointer
    (s.ciu.keyboardPort = .detached →
      exec (.consoleDeviceConnected .keyboard) s = .next { s with ciu := { s.ciu with keyboardPort := .configuring } }) ∧
    (s.ciu.pointerPort = .detached →
      exec (.consoleDeviceConnected .pointer) s = .next { s with ciu := { s.ciu with pointerPort := .configuring } }) ∧
    (s.ciu.keyboardPort = .configuring →
      (forKeyboard → noStepFails → exec (.consoleConfigurationEnd .keyboard d) s = .next { s with
        ciu := { s.ciu with keyboardPort := .ready, transfer := some s.ciu.composed, retryHold := false, resend := false } }) ∧
      (¬forKeyboard ∨ ¬noStepFails →
        exec (.consoleConfigurationEnd .keyboard d) s = .next { s with ciu := { s.ciu with keyboardPort := .refused } })) ∧
    (s.ciu.pointerPort = .configuring →
      (forPointer → noStepFails →
        exec (.consoleConfigurationEnd .pointer d) s = .next { s with ciu := { s.ciu with pointerPort := .ready } }) ∧
      (¬forPointer ∨ ¬noStepFails →
        exec (.consoleConfigurationEnd .pointer d) s = .next { s with ciu := { s.ciu with pointerPort := .refused } }))

/-- The disconnection of a console device returns its port to DETACHED. In CONFIGURING or REFUSED nothing else changes but the
LED transfer's state (R5, R7); a READY keyboard is first released whole: no key or modifier stays in the physical image, the
command state is NORMAL with T0 and T1 stopped, no LED state is sent and no transfer outstanding (R5, R31); a READY pointer is
first released whole (R5). -/
def Obligations.ConsolePortsDetach : Prop :=
  ∀ s : State, s.taking = true →
    (s.ciu.keyboardPort = .configuring ∨ s.ciu.keyboardPort = .refused →
      exec (.consoleDeviceDisconnected .keyboard) s = .next { s with ciu := { s.ciu with
        keyboardPort := .detached, ledSent := none, transfer := none, retryHold := false, resend := false } }) ∧
    (s.ciu.pointerPort = .configuring ∨ s.ciu.pointerPort = .refused →
      exec (.consoleDeviceDisconnected .pointer) s = .next { s with ciu := { s.ciu with pointerPort := .detached } }) ∧
    (s.ciu.keyboardPort = .ready →
      ∃ t, exec (.consoleDeviceDisconnected .keyboard) s = .next t ∧ t.ciu.keyboardPort = .detached ∧ t.ciu.mods = 0 ∧
        t.ciu.keys = [] ∧ t.hkm = .normal ∧ t.bank.t0 = .stopped ∧ t.bank.t1 = .stopped ∧ t.ciu.ledSent = none ∧
        t.ciu.transfer = none ∧ t.ciu.pointerPort = s.ciu.pointerPort ∧ t.ciu.buttons = s.ciu.buttons ∧ t.outer = s.outer ∧
        ∀ k ∈ s.ciu.keys, heldKey k t.fc.held = none) ∧
    (s.ciu.pointerPort = .ready →
      ∃ t, exec (.consoleDeviceDisconnected .pointer) s = .next t ∧ t.ciu.pointerPort = .detached ∧ t.ciu.buttons = 0 ∧
        t.ciu.keyboardPort = s.ciu.keyboardPort ∧ t.ciu.mods = s.ciu.mods ∧ t.ciu.keys = s.ciu.keys ∧ t.hkm = s.hkm)

/-! ### The keyboard, the focus and the hotkeys -/

/-- A report on a READY keyboard port replaces the physical key image: its modifier byte is the modifier set, its usable codes
in the six key positions are the keys, held ascending and once each; the button set, the attach states, the tables, the
channels, the Profile Loader and the flash stay. A report shorter than 8 bytes, or with a rollover marker in a key position,
is ignored whole, as is every report in another attach state (R2, R189); bytes past the eighth are taken as ignored (the model's
choice, L18). -/
def Obligations.KeyboardReportReplacesTheImage : Prop :=
  ∀ s : State, s.taking = true →
    (∀ bytes, s.ciu.keyboardPort ≠ .ready → exec (.keyboardReport bytes) s = .next s) ∧
    (∀ bytes : List Byte, bytes.length < 8 ∨ (∃ k ∈ (bytes.drop 2).take 6, k = 1 ∨ k = 2 ∨ k = 3) →
      exec (.keyboardReport bytes) s = .next s) ∧
    ∀ (m r k0 k1 k2 k3 k4 k5 : Byte) (rest : List Byte), s.ciu.keyboardPort = .ready →
      (∀ k ∈ [k0, k1, k2, k3, k4, k5], k ≠ 1 ∧ k ≠ 2 ∧ k ≠ 3) →
      ∃ t, exec (.keyboardReport (m :: r :: k0 :: k1 :: k2 :: k3 :: k4 :: k5 :: rest)) s = .next t ∧ t.ciu.mods = m ∧
        (∀ k, k ∈ t.ciu.keys ↔ k ∈ [k0, k1, k2, k3, k4, k5] ∧ UsableKey k) ∧
        t.ciu.keys.Pairwise (fun a b => a.toNat < b.toNat) ∧ t.ciu.buttons = s.ciu.buttons ∧
        t.ciu.keyboardPort = .ready ∧ t.ciu.pointerPort = s.ciu.pointerPort ∧ t.outer = s.outer

/-- A press that the Hotkey Matcher does not consume is routed by the Focus Controller: without a candidate, or towards a slot
without INPUT_ALLOWED, it is suppressed; towards an OFF slot it is suppressed and may give a wake-on-input trigger; with a chord
the slot's record blocks it is suppressed and KEY_BLOCKED is raised; otherwise, with room in the slot's queue, it joins the
slot's sent image, one image is queued, and it may give a wake-on-input trigger (R11 to R14). Nothing else changes. -/
def Obligations.KeyPressIsRouted : Prop :=
  ∀ (s : State) (k : Byte), KeysHeld s [] → UsableKey k → s.hkm = .normal → k ≠ s.tables.leadKey → s.chordFor k = none →
    let pressed : State := { s with ciu := { s.ciu with keys := [k] } }
    let report := Instr.keyboardReport (pressReport s.ciu.mods k)
    let suppressed : State := { pressed with fc := { s.fc with held := holdKey k .suppressed s.fc.held } }
    (s.candidate k = none → exec report s = .next suppressed) ∧
    ∀ n, s.candidate k = some n →
      ((s.access n).inputAllowed = false → exec report s = .next suppressed) ∧
      ((s.access n).inputAllowed = true → s.link n = .off → exec report s = .next (suppressed.wakeOnInput n)) ∧
      ((s.access n).inputAllowed = true → s.link n ≠ .off → s.isBlocked n k = true →
        exec report s = .next (suppressed.raiseEvent .keyBlocked)) ∧
      ((s.access n).inputAllowed = true → s.link n ≠ .off → s.isBlocked n k = false → (s.port n).queue.length < 16 →
        let image : KeyImage := ⟨(s.sent n).mods, insertKey k (s.sent n).keys⟩
        let delivered : State := State.appended { pressed with fc := { s.fc with
          held := holdKey k (.slot n) s.fc.held, sent := s.fc.sent.put n image } } n (.keyboard image)
        exec report s = .next (delivered.wakeOnInput n) ∧ (s.link n = .active → exec report s = .next delivered))

/-- A release goes to the destination recorded at its press: that slot's sent image loses the key and, with room in its queue, one
image is queued, unless the slot is OFF; a consumed, suppressed or unknown key delivers nothing. The held-key entry is dropped, and nothing else
changes (R15). -/
def Obligations.KeyReleaseFollowsItsPress : Prop :=
  ∀ (s : State) (k : Byte), KeysHeld s [k] →
    let released : State := { s with ciu := { s.ciu with keys := [] } }
    let report := Instr.keyboardReport (releaseReport s.ciu.mods)
    let dropped := dropKey k s.fc.held
    (heldKey k s.fc.held = none ∨ heldKey k s.fc.held = some .consumed ∨ heldKey k s.fc.held = some .suppressed →
      exec report s = .next { released with fc := { s.fc with held := dropped } }) ∧
    ∀ n, heldKey k s.fc.held = some (.slot n) →
      let image : KeyImage := ⟨(s.sent n).mods, (s.sent n).keys.filter (· ≠ k)⟩
      let told : State := { released with fc := { s.fc with held := dropped, sent := s.fc.sent.put n image } }
      (s.link n = .off → exec report s = .next told) ∧
      (s.link n ≠ .off → (s.port n).queue.length < 16 → exec report s = .next (told.appended n (.keyboard image)))

/-- A modifier change: what it releases leaves the suppressed set, and what it presses joins the set while the focus is not
deliverable. The focus slot's sent modifiers become the physical ones less the suppressed ones, and one image is queued, where its
queue has room, exactly when that changes them (R16). Nothing else changes. -/
def Obligations.ModifierChangeReachesTheFocus : Prop :=
  ∀ (s : State) (m : Modifiers), KeysHeld s [] → m ≠ s.ciu.mods →
    let report := Instr.keyboardReport (releaseReport m)
    let changed : State := { s with ciu := { s.ciu with mods := m } }
    let kept := s.fc.suppressed &&& ~~~(s.ciu.mods &&& ~~~m)
    (s.fc.focus = none →
      exec report s = .next { changed with fc := { s.fc with suppressed := kept ||| (m &&& ~~~s.ciu.mods) } }) ∧
    ∀ n, s.fc.focus = some n →
      (s.canReceive n = false → (s.sent n).mods = 0 →
        exec report s = .next { changed with fc := { s.fc with suppressed := kept ||| (m &&& ~~~s.ciu.mods) } }) ∧
      (s.canReceive n = true → m &&& ~~~kept = (s.sent n).mods →
        exec report s = .next { changed with fc := { s.fc with suppressed := kept } }) ∧
      (s.canReceive n = true → m &&& ~~~kept ≠ (s.sent n).mods → (s.port n).queue.length < 16 →
        exec report s = .next (State.appended { changed with fc := { s.fc with
          suppressed := kept, sent := s.fc.sent.put n ⟨m &&& ~~~kept, (s.sent n).keys⟩ } } n
          (.keyboard ⟨m &&& ~~~kept, (s.sent n).keys⟩)))

/-- With no other key held, a press of the lead key in NORMAL state with pass-next off, whatever modifiers are held with it, is
consumed; the state becomes LEAD_ONE and T0 starts, and nothing else changes. While the lead key stays held, a report that
holds it again, with whatever modifiers, is no press: neither the command state nor T0 changes (R29, R32). -/
def Obligations.LeadPressEntersLeadOne : Prop :=
  (∀ s : State, KeysHeld s [] → UsableKey s.tables.leadKey → s.hkm = .normal → s.fc.passNext = false →
    exec (.keyboardReport (pressReport s.ciu.mods s.tables.leadKey)) s = .next { s with
      ciu := { s.ciu with keys := [s.tables.leadKey] }
      fc := { s.fc with held := holdKey s.tables.leadKey .consumed s.fc.held }
      hkm := .leadOne
      bank := { s.bank with t0 := .running (s.tables.timing.get 0).duration 0 } }) ∧
  (∀ (s : State) (m : Modifiers), KeysHeld s [] → UsableKey s.tables.leadKey → s.hkm = .normal → s.fc.passNext = false →
    ∃ t, exec (.keyboardReport (pressReport m s.tables.leadKey)) s = .next t ∧ t.hkm = .leadOne ∧
      t.bank.t0 = .running (s.tables.timing.get 0).duration 0 ∧
      heldKey s.tables.leadKey t.fc.held = some .consumed ∧ t.ciu.keys = [s.tables.leadKey]) ∧
  ∀ (s : State) (m : Modifiers), KeysHeld s [s.tables.leadKey] → UsableKey s.tables.leadKey →
    ∃ t, exec (.keyboardReport (pressReport m s.tables.leadKey)) s = .next t ∧ t.hkm = s.hkm ∧ t.bank.t0 = s.bank.t0 ∧
      t.ciu.keys = [s.tables.leadKey]

/-- In LEAD_ONE a second lead press enters COMMAND, with T0 stopped and T1 started; any other press stops T0, returns the state
to NORMAL and is then taken as a press in NORMAL state (R33; that a press of the lead key with pass-next on is such a press is
the model's choice, L24). In COMMAND every press is consumed: Escape and the lead key return to NORMAL and stop T1, the key of no
enabled COMMAND entry restarts T1, and that of an entry runs the entry's action, in COMMAND with T1 restarted when the entry has
stay set, otherwise in NORMAL with T1 stopped (R34). -/
def Obligations.CommandModeTakesPresses : Prop :=
  ∀ (s : State) (k : Byte), KeysHeld s [] → UsableKey k →
    let report := Instr.keyboardReport (pressReport s.ciu.mods k)
    let consumed : State := { s with
      ciu := { s.ciu with keys := [k] }, fc := { s.fc with held := holdKey k .consumed s.fc.held } }
    let left : State := State.updateLeds { consumed with hkm := .normal, bank := { s.bank with t1 := .stopped } }
    let restarted (x : State) : State := { x with bank := { x.bank with t1 := .running (s.tables.timing.get 1).duration 0 } }
    (s.hkm = .leadOne → k = s.tables.leadKey → s.fc.passNext = false →
      exec report s = .next (restarted
        (State.updateLeds { consumed with hkm := .command, bank := { s.bank with t0 := .stopped } }))) ∧
    (s.hkm = .leadOne → k ≠ s.tables.leadKey ∨ s.fc.passNext = true →
      exec report s = exec report { s with hkm := .normal, bank := { s.bank with t0 := .stopped } }) ∧
    (s.hkm = .command →
      (k = 41 ∨ k = s.tables.leadKey → exec report s = .next left) ∧
      (k ≠ 41 → k ≠ s.tables.leadKey → s.commandFor k = none → exec report s = .next (restarted consumed)) ∧
      ∀ e, k ≠ 41 → k ≠ s.tables.leadKey → s.commandFor k = some e →
        exec report s = .next
          (if e.stay then restarted (consumed.runAction e.action e.argument) else left.runAction e.action e.argument))

/-- R28, whole: an enabled CHORD entry matches a press of a key code with the physical modifiers `m` exactly when its key code is
that code and its modifiers fit `m`: without side-free when they are the same set, with side-free when CTRL, SHIFT, ALT and
GUI, each taken from either side, are held exactly where the entry names them. The match reads the whole physical set: the
suppressed modifiers, the focus and its slot take no part. -/
def Obligations.ChordsMatchByFoldedModifiers : Prop :=
  (∀ (e : Hotkey) (k : Byte) (m : Modifiers),
    e.matchesChord k m = true ↔ e.enabled = true ∧ e.kind = .chord ∧ e.key = k ∧
      ((e.sideFree = false ∧ m = e.mods) ∨ (e.sideFree = true ∧ ∀ i < 4,
        (m.getLsbD i || m.getLsbD (i + 4)) = (e.mods.getLsbD i || e.mods.getLsbD (i + 4))))) ∧
  (∀ (s : State) (k : Byte) (e : Hotkey), s.chordFor k = some e →
    e ∈ s.tables.hotkeys.toList ∧ e.matchesChord k s.ciu.mods = true) ∧
  (∀ (s : State) (k : Byte), s.chordFor k = none →
    ∀ e ∈ s.tables.hotkeys.toList, e.matchesChord k s.ciu.mods = false) ∧
  ∀ (s : State) (k : Byte) (fc : Fc), ({ s with fc := fc } : State).chordFor k = s.chordFor k

/-- A press that matches a chord in NORMAL state is consumed and its action runs; with pass-next on the press uses it up and is
routed as an ordinary key (R29). What each action does, wherever a hotkey runs it (R37): SELECT is what a management FOCUS does
(R19), which for the focus itself in SEPARATE mode is a wake-on-focus trigger where its record asks for one; NEXT and PREVIOUS
are SELECT of the next slot upward or downward, with wrap, that can receive, and nothing when there is none (R20); ATTEND takes the
first showing alert in pending order, pushes the focus and P, selects the slot, gives it an ATTEND trigger unless it is ACTIVE, and
raises ALERT_ATTENDED (R117, R119); DISMISS pops the stack and restores the saved focus and, in FOLLOW mode, the saved P, or the
focus slot's home tile where P's place is on no display (R120, R121); WAKE and WAKE_ALL trigger (R39, R40, R100); PRESET replaces the
pending layout and commits all four displays (R41, R150); SHARE requests a selection (R41, R158); GLIDE_LOCK and FOLLOW toggle
their own flag, PASS_NEXT sets its own, and each changes nothing else (R38). -/
def Obligations.ChordPressRunsItsAction : Prop :=
  (∀ (s : State) (k : Byte) (e : Hotkey), KeysHeld s [] → UsableKey k → s.hkm = .normal → k ≠ s.tables.leadKey →
    s.chordFor k = some e →
    let report := Instr.keyboardReport (pressReport s.ciu.mods k)
    let pressed : State := { s with ciu := { s.ciu with keys := [k] } }
    let consumed : State := { pressed with fc := { s.fc with held := holdKey k .consumed s.fc.held } }
    (s.fc.passNext = true → exec report s = .next (State.routePress { pressed with fc := { s.fc with passNext := false } } k)) ∧
    (s.fc.passNext = false → exec report s = .next (consumed.runAction e.action e.argument) ∧
      (e.action = .glideLock →
        exec report s = .next { consumed with gu := { s.gu with glideLock := !s.gu.glideLock } }) ∧
      (e.action = .passNext → exec report s = .next { consumed with fc := { consumed.fc with passNext := true } }) ∧
      (e.action = .follow → exec report s = .next { consumed with
        fc := { consumed.fc with follow := if s.fc.follow = .follow then .separate else .follow } }))) ∧
  ∀ x : State,
    let select (n : Slot) : State := x.runAction .select (.number n)
    let can (n : Slot) : Prop := x.link n ≠ .off ∧ (x.access n).inputAllowed = true
    let showing (a : Alert) : Prop := ∀ e, x.atu.stack.head? = some e → e.level < a.level
    (∀ m n, OpenTo x m → (x.access m).manageActions = true →
      exec (.focus m (requestBytes 0 0 0 [byte n.val])) x = .next ((select n).respond m ⟨.done, 4, 0, 0, []⟩)) ∧
    (∀ n, x.fc.focus = some n → x.fc.follow = .separate → select n =
      if x.link n ≠ .active ∧ (x.slotRecord n).wakeOnFocus = true then (x.trigger n .focus).1 else x) ∧
    (∀ f i arg, x.fc.focus = some f → i ≠ 0 →
      (can (f + i) → (∀ j, j ≠ 0 → j < i → ¬can (f + j)) → x.runAction .next arg = select (f + i)) ∧
      (can (f - i) → (∀ j, j ≠ 0 → j < i → ¬can (f - j)) → x.runAction .previous arg = select (f - i))) ∧
    (∀ n arg, x.fc.focus = none → can n →
      ((∀ m, m < n → ¬can m) → x.runAction .next arg = select n) ∧
      ((∀ m, n < m → ¬can m) → x.runAction .previous arg = select n)) ∧
    (∀ arg, (∀ n, x.fc.focus ≠ some n → ¬can n) → x.runAction .next arg = x ∧ x.runAction .previous arg = x) ∧
    (∀ arg, (∀ a ∈ x.atu.alerts, ¬showing a) → x.runAction .attend arg = x) ∧
    (∀ arg p a q, x.atu.alerts = p ++ a :: q → (∀ b ∈ p, ¬showing b) → showing a →
      let pushed : State := { x with atu := {
        alerts := x.atu.alerts.filter fun b => decide (b.slot ≠ a.slot)
        stack := ⟨a.slot, a.level, x.fc.focus, x.gu.px, x.gu.py⟩ :: x.atu.stack } }
      let selected := pushed.runAction .select (.number a.slot)
      x.runAction .attend arg = State.raiseEvent
        (if selected.link a.slot = .active then selected else (selected.trigger a.slot .attend).1) .alertAttended) ∧
    (∀ arg, x.atu.stack = [] → x.runAction .dismiss arg = x) ∧
    (∀ arg top rest, x.atu.stack = top :: rest →
      let restored := State.focusChange { x with atu := { x.atu with stack := rest } } top.savedFocus
      (x.fc.follow = .separate → x.runAction .dismiss arg = restored) ∧
      (x.fc.follow = .follow →
        (∀ d, x.cmp.active.displayAt top.savedX top.savedY = some d →
          x.runAction .dismiss arg = restored.relocate top.savedX top.savedY) ∧
        (x.cmp.active.displayAt top.savedX top.savedY = none →
          (∀ n i r, top.savedFocus = some n → x.tileSlot i = some n → x.cmp.active.placed i = some r →
            (∀ j, j < i → x.tileSlot j = some n → x.cmp.active.placed j = none) →
            x.runAction .dismiss arg = restored.relocate (r.x + r.w / 2) (r.y + r.h / 2)) ∧
          ((∀ n i, top.savedFocus = some n → x.tileSlot i = some n → x.cmp.active.placed i = none) →
            x.runAction .dismiss arg = restored)))) ∧
    (∀ n, x.runAction .wake (.number n) = (x.trigger n .wake).1 ∧
      (x.fc.focus = some n → x.runAction .wake .focus = (x.trigger n .wake).1)) ∧
    (x.fc.focus = none → x.runAction .wake .focus = x) ∧
    (∀ m arg, OpenTo x m → (x.access m).manageActions = true →
      ∃ r, exec (.wake m (requestBytes 0 0 0 [0xFF])) x = .next ((x.runAction .wakeAll arg).respond m r)) ∧
    (∀ (p : Fin 4) m, OpenTo x m → (x.access m).manageActions = true →
      ∃ r, exec (.commit m (requestBytes 0 0 0 [0x0F])) { x with cmp := { x.cmp with layout := x.tables.presets.get p } } =
        .next ((x.runAction .preset (.number ⟨p.val, by omega⟩)).respond m r)) ∧
    (∀ d : DisplayIx, x.runAction .share (.number ⟨d.val, by omega⟩) = { x with cmp :=
      if x.cmp.ds.running = true then { x.cmp with requested := some d }
      else { x.cmp with requested := some d, selection := some d } }) ∧
    x.runAction .share .off = { x with cmp :=
      if x.cmp.ds.running = true then { x.cmp with requested := none } else { x.cmp with requested := none, selection := none } }

/-- A focus change from slot `a` to slot `b` (R18), asked for by a management FOCUS of `b` (R175) in SEPARATE mode (so that no
relocation follows, R58): every held-key entry that named `a` is SUPPRESSED, `a` and only `a` is queued one empty image,
the held modifiers join the suppressed set, pass-next is off, and FOCUS_CHANGED is raised. A FOCUS of NONE is such a change with no
relocation in either mode. In FOLLOW mode the FOCUS of a slot is followed by a relocation to the centre of its home tile, the
lowest-numbered tile on the desk bound to it (R58). A relocation to a place (R57): P is there, both residues are 0, the tile, the
display and the pointer slot are recomputed, every held button is suppressed, the old pointer slot is handed the release entry of
its delivered buttons, the accumulators of a pointer slot entered are 0, and a tile that delivers in ABSOLUTE mode is handed one
ABS entry at P's translated place. Nothing else is handed over, and no focus changes. -/
def Obligations.FocusRequestChangesTheFocus : Prop :=
  (∀ (s : State) (n a b : Slot), OpenTo s n → (s.access n).manageActions = true → s.fc.follow = .separate →
    s.fc.focus = some a → a ≠ b → s.link a = .active → s.link b = .active → (s.port a).queue.length < 16 →
    ∃ t, exec (.focus n (requestBytes 0 0 0 [byte b.val])) s = .next t ∧ t.fc.focus = some b ∧
      t.fc.suppressed = s.fc.suppressed ||| s.ciu.mods ∧ t.fc.passNext = false ∧ t.fc.follow = .separate ∧
      t.sent a = KeyImage.empty ∧ (∀ m, m ≠ a → t.sent m = s.sent m) ∧
      (t.port a).queue = (s.port a).queue ++ [.keyboard KeyImage.empty] ∧
      (∀ k, heldKey k t.fc.held = (heldKey k s.fc.held).map fun d => if d = .slot a then .suppressed else d) ∧
      (∀ m, m ≠ a → (t.port m).queue = (s.port m).queue) ∧ (∀ m, m ≠ a → m ≠ n → t.port m = s.port m) ∧
      (t.port n).responses = (s.port n).responses ++ [⟨.done, 4, 0, 0, []⟩] ∧
      (∀ m, t.mgi.events.get m = if (s.access m).events = true then s.mgi.events.get m ||| 2 else s.mgi.events.get m) ∧
      t.gu = s.gu ∧ t.wakes = s.wakes ∧ t.atu = s.atu ∧ t.cmp = s.cmp ∧ t.hkm = s.hkm ∧ t.outer = s.outer) ∧
  (∀ (s : State) (n : Slot), OpenTo s n → (s.access n).manageActions = true →
    let answered (x : State) : Host.Outcome State Fault Refusal := .next (x.respond n ⟨.done, 4, 0, 0, []⟩)
    exec (.focus n (requestBytes 0 0 0 [0xFF])) s = answered (s.focusChange none) ∧
    (s.fc.focus = none → s.focusChange none = s) ∧
    ∀ b : Slot,
      let request := Instr.focus n (requestBytes 0 0 0 [byte b.val])
      (s.fc.focus ≠ some b → s.fc.follow = .separate → exec request s = answered (s.focusChange (some b))) ∧
      (s.fc.focus ≠ some b → s.fc.follow = .follow →
        (∀ i r, s.tileSlot i = some b → s.cmp.active.placed i = some r →
          (∀ j, j < i → s.tileSlot j = some b → s.cmp.active.placed j = none) →
          exec request s = answered ((s.focusChange (some b)).relocate (r.x + r.w / 2) (r.y + r.h / 2))) ∧
        ((∀ i, s.tileSlot i = some b → s.cmp.active.placed i = none) →
          exec request s = answered (s.focusChange (some b))))) ∧
  ∀ (s : State) (x y : Int),
    let t := s.relocate x y
    let i := s.cmp.active.tileAt x y
    let entered := i.bind s.tileSlot
    let handed (n : Slot) : Option (List Entry) :=
      (if s.gu.pointerSlot = some n ∧ s.delivered n ≠ 0 then takeEntry (s.port n).lastButtons (s.port n).queue (.rel 0 0 0 0)
        else some (s.port n).queue).bind fun q =>
        match i with
        | some j =>
          if entered = some n ∧ (s.access n).inputAllowed = true ∧ s.tileMode j = .absolute then
            takeEntry (s.port n).lastButtons q (.abs 0 (s.translate j x y).1 (s.translate j x y).2 0)
          else some q
        | none => some q
    t.gu.px = x ∧ t.gu.py = y ∧ t.gu.rx = 0 ∧ t.gu.ry = 0 ∧ t.gu.tile = i ∧ t.gu.display = s.cmp.active.displayAt x y ∧
    t.gu.pointerSlot = entered ∧ t.gu.glideLock = s.gu.glideLock ∧ s.ciu.buttons &&& ~~~t.gu.suppressed = 0 ∧
    (∀ n, s.gu.pointerSlot = some n → t.delivered n = 0) ∧
    (∀ n, entered = some n → s.gu.pointerSlot ≠ some n → t.gu.accX.get n = 0 ∧ t.gu.accY.get n = 0) ∧
    (∀ n, entered ≠ some n ∨ s.gu.pointerSlot = some n →
      t.gu.accX.get n = s.gu.accX.get n ∧ t.gu.accY.get n = s.gu.accY.get n) ∧
    (∀ n, s.link n = .off ∨ (s.gu.pointerSlot ≠ some n ∧ entered ≠ some n) → t.port n = s.port n) ∧
    (∀ n q, s.link n ≠ .off → handed n = some q → t.port n = { s.port n with queue := q }) ∧
    ((∀ n, handed n ≠ none) → t.fc = s.fc ∧ t.mgi = s.mgi ∧ t.gu.suppressed = s.gu.suppressed ||| s.ciu.buttons) ∧
    t.fc.focus = s.fc.focus ∧ t.wakes = s.wakes ∧ t.atu = s.atu ∧ t.cmp = s.cmp ∧ t.consoleSide = s.consoleSide ∧
    t.outer = s.outer

/-! ### The pointer -/

/-- A pointer arrival moves P by the computed moves of its deltas at desk speed, the candidate clamped into the desk plane. With
glide lock on, P becomes the candidate clamped into the current tile, or without one into the current display, whatever other
display contains it (R48, R50). Otherwise, where the pointer slot's delivered buttons less
those released are not empty and the candidate lies in no tile, in another slot's tile or one bound to no slot, or in another tile of
the slot whose mode is NONE, P becomes the candidate clamped into the current tile (the drag rule, R49); a candidate in the current
tile, or in a delivering tile of the slot, is not so held. Where nothing holds it, P becomes the candidate if an enabled display
contains it, and otherwise the candidate clamped into the current display. An axis's residue is the computation's where P moved by
the whole computed move, and 0 where it was clamped (R47 to R50, R62 to R64). -/
def Obligations.PointerMotionMovesP : Prop :=
  ∀ (s : State) (b dx dy : Byte) (rest : List Byte) (first : Rect), s.taking = true → s.ciu.pointerPort = .ready →
    s.cmp.active.firstRect = some first →
    let cx := computedMove (delta dx) s.tables.deskSpeed s.gu.rx
    let cy := computedMove (delta dy) s.tables.deskSpeed s.gu.ry
    let x := clampInto (-4096) 4095 (s.gu.px + cx)
    let y := clampInto (-4096) 4095 (s.gu.py + cy)
    let released := s.ciu.buttons &&& ~~~b.setWidth 5
    let dragged (n : Slot) : Prop := s.gu.pointerSlot = some n ∧ s.delivered n &&& ~~~released ≠ 0
    let clampedInto (t : State) (r : Rect) : Prop :=
      t.gu.px = clampInto r.x (r.x + r.w - 1) x ∧ t.gu.py = clampInto r.y (r.y + r.h - 1) y
    let held : Prop := ∃ n, dragged n ∧ ∀ j, s.cmp.active.tileAt x y = some j →
      s.gu.tile ≠ some j ∧ (s.tileSlot j ≠ some n ∨ s.tileMode j = .none)
    ∃ t, exec (.pointerReport (b :: dx :: dy :: rest)) s = .next t ∧ t.ciu.buttons = b.setWidth 5 ∧
      (s.gu.glideLock = false → ¬held → (s.cmp.active.displayAt x y).isSome = true →
        t.gu.px = x ∧ t.gu.py = y) ∧
      (s.gu.glideLock = false → ¬held → s.cmp.active.displayAt x y = none →
        ∀ d r, s.gu.display = some d → (s.cmp.active.displays.get d).rect = some r → clampedInto t r) ∧
      (s.gu.glideLock = true ∨ held → ∀ i r, s.gu.tile = some i → s.cmp.active.placed i = some r → clampedInto t r) ∧
      (s.gu.glideLock = true → s.gu.tile = none →
        ∀ d r, s.gu.display = some d → (s.cmp.active.displays.get d).rect = some r → clampedInto t r) ∧
      t.gu.rx = (if t.gu.px - s.gu.px = cx then delta dx * s.tables.deskSpeed + s.gu.rx - 16 * cx else 0) ∧
      t.gu.ry = (if t.gu.py - s.gu.py = cy then delta dy * s.tables.deskSpeed + s.gu.ry - 16 * cy else 0) ∧
      t.ciu.mods = s.ciu.mods ∧ t.ciu.keys = s.ciu.keys ∧ t.hkm = s.hkm ∧ t.outer = s.outer

/-- What an arrival delivers. Within the tiles of one slot that is not OFF, with room in its queue: an ABSOLUTE tile is handed one ABS entry
at P's translated place, with the deliverable buttons, when P moved, the wheel turned or those buttons changed (R53, R65), and a
RELATIVE tile passes the applied move through the slot's accumulators and is handed one REL entry when their output, the wheel or a
button change calls for it (R54, R56, R69), an output from motion of before among them (R70); an arrival with all deltas zero and no button
change makes no entry and leaves the accumulators and the delivered buttons (R47), but that whether a full accumulator is then paid
out, as R54, R69 and R70 say, is the model's free value (L35). An entry that adds a button gives a slot that is not ACTIVE the
wake-on-input trigger where its record asks for one (R55). Nothing else changes hands. In a place that does not deliver, what the arrival pressed joins the suppressed set, nothing is handed over, and a
press in a delivering tile of an OFF slot with INPUT_ALLOWED gives the wake-on-input trigger where its record asks for one (R55).
Crossing from one pointer slot to another (R52): buttons held on are suppressed, the slot left is handed the release entry of its
delivered buttons, the slot entered starts from accumulators of 0, and in FOLLOW mode takes the focus; a tile entered that delivers
to a slot not OFF, where the focus change gives no trigger of its own, is handed its entry with the buttons just pressed and the
trigger it calls for, in ABSOLUTE mode always, unless the arrival has no delta and no button change. -/
def Obligations.PointerMotionIsDelivered : Prop :=
  ∀ (s t : State) (b dx dy w : Byte), s.taking = true → s.ciu.pointerPort = .ready → s.cmp.active.firstRect.isSome = true →
    exec (.pointerReport [b, dx, dy, w]) s = .next t →
    let released := s.ciu.buttons &&& ~~~b.setWidth 5
    let pressed := b.setWidth 5 &&& ~~~s.ciu.buttons
    let kept := s.gu.suppressed &&& ~~~released
    let now := s.cmp.active.tileAt t.gu.px t.gu.py
    let mx := t.gu.px - s.gu.px
    let my := t.gu.py - s.gu.py
    let still := dx = 0 ∧ dy = 0 ∧ delta w = 0 ∧ pressed = 0 ∧ released = 0
    let gain (n : Slot) : Int := (s.slotRecord n).gain
    let handed (n : Slot) (e : Entry) : Port := { s.port n with
      queue := (takeEntry (s.port n).lastButtons (s.port n).queue e).getD (s.port n).queue }
    let place (i : TileIx) (r : Rect) : Int × Int :=
      let c := s.source (s.cmp.active.tiles.get i).source
      (translateAxis (t.gu.px - r.x) r.w c.ax0 c.ax1, translateAxis (t.gu.py - r.y) r.h c.ay0 c.ay1)
    -- within the tiles of one slot
    (∀ i n r, now = some i → s.cmp.active.placed i = some r → s.tileSlot i = some n → s.gu.pointerSlot = some n →
      s.link n ≠ .off → (s.access n).inputAllowed = true → s.tileMode i ≠ .none → (s.port n).queue.length < 16 →
      let buttons := b.setWidth 5 &&& ~~~kept
      let ox := relativeOutput (s.gu.accX.get n) mx (gain n)
      let oy := relativeOutput (s.gu.accY.get n) my (gain n)
      let paid := s.tileMode i = .relative ∧ (16 ≤ (s.gu.accX.get n).natAbs ∨ 16 ≤ (s.gu.accY.get n).natAbs) ∧
        Config.stillArrivalPays = true
      let idle := still ∧ ¬paid
      ∃ u : State,
        t = (if ¬idle ∧ s.link n ≠ .active ∧ buttons &&& ~~~s.delivered n ≠ 0 ∧ (s.slotRecord n).wakeOnInput = true
          then (u.trigger n .input).1 else u) ∧
        (s.tileMode i = .absolute → u.port n = if idle ∨ mx = 0 ∧ my = 0 ∧ buttons = s.delivered n ∧ delta w = 0 then s.port n
          else handed n (.abs buttons (place i r).1 (place i r).2 (delta w))) ∧
        (s.tileMode i = .relative →
          u.port n = (if idle ∨ ox = 0 ∧ oy = 0 ∧ buttons = s.delivered n ∧ delta w = 0 then s.port n
            else handed n (.rel buttons ox oy (delta w))) ∧
          u.gu.accX.get n = (if idle then s.gu.accX.get n else newAccumulator (s.gu.accX.get n) mx (gain n)) ∧
          u.gu.accY.get n = (if idle then s.gu.accY.get n else newAccumulator (s.gu.accY.get n) my (gain n))) ∧
        u.delivered n = (if idle then s.delivered n else buttons) ∧ u.gu.suppressed = kept ∧
        (∀ m, m ≠ n → u.port m = s.port m) ∧ (∀ j, j ≠ .t6 n → u.timer j = s.timer j) ∧ u.fc = s.fc ∧
        u.wakes = s.wakes ∧ u.tables = s.tables ∧ u.cmp = s.cmp ∧ u.atu = s.atu ∧ u.mgi = s.mgi) ∧
    -- a place of the same pointer slot that does not deliver
    (now.bind s.tileSlot = s.gu.pointerSlot →
      (∀ i n, now = some i → s.tileSlot i = some n →
        s.tileMode i = .none ∨ (s.access n).inputAllowed = false ∨ s.link n = .off) →
      ∃ u : State, u.gu.suppressed = kept ||| pressed ∧ u.ports = s.ports ∧ u.fc = s.fc ∧ u.wakes = s.wakes ∧
        u.tables = s.tables ∧ u.atu = s.atu ∧ u.cmp = s.cmp ∧ u.mgi = s.mgi ∧
        (∀ i n, now = some i → s.tileSlot i = some n → pressed ≠ 0 → s.tileMode i ≠ .none → (s.access n).inputAllowed = true →
          s.link n = .off → (s.slotRecord n).wakeOnInput = true → t = (u.trigger n .input).1) ∧
        ((pressed = 0 ∨ ∀ i n, now = some i → s.tileSlot i = some n → s.tileMode i = .none ∨ (s.access n).inputAllowed = false ∨
          (s.slotRecord n).wakeOnInput = false) → t = u)) ∧
    -- a crossing
    (now.bind s.tileSlot ≠ s.gu.pointerSlot →
      t.gu.pointerSlot = now.bind s.tileSlot ∧ b.setWidth 5 &&& ~~~pressed &&& ~~~t.gu.suppressed = 0 ∧
      (∀ a, s.gu.pointerSlot = some a → t.delivered a = 0) ∧
      (s.fc.follow = .separate ∨ now.bind s.tileSlot = none → t.fc.focus = s.fc.focus) ∧
      (∀ n, now.bind s.tileSlot = some n → s.fc.follow = .follow → t.fc.focus = some n) ∧
      (∀ n, now.bind s.tileSlot = some n → (∀ i, now = some i → s.tileMode i ≠ .relative) →
        t.gu.accX.get n = 0 ∧ t.gu.accY.get n = 0) ∧
      ∀ i n r, now = some i → s.cmp.active.placed i = some r → s.tileSlot i = some n → s.link n ≠ .off →
        (s.link n = .active ∨ s.fc.follow = .separate ∨ s.fc.focus = some n ∨ (s.slotRecord n).wakeOnFocus = false) →
        (s.access n).inputAllowed = true → s.tileMode i ≠ .none → (∀ m, (s.port m).queue.length < 15) →
        let buttons := pressed &&& ~~~kept
        let ox := relativeOutput 0 mx (gain n)
        let oy := relativeOutput 0 my (gain n)
        ∃ u : State,
          t = (if ¬still ∧ s.link n ≠ .active ∧ buttons &&& ~~~s.delivered n ≠ 0 ∧ (s.slotRecord n).wakeOnInput = true
            then (u.trigger n .input).1 else u) ∧
          (s.tileMode i = .absolute → u.port n = if still then s.port n
            else handed n (.abs buttons (place i r).1 (place i r).2 (delta w))) ∧
          (s.tileMode i = .relative →
            u.port n = (if still ∨ ox = 0 ∧ oy = 0 ∧ buttons = s.delivered n ∧ delta w = 0 then s.port n
              else handed n (.rel buttons ox oy (delta w))) ∧
            u.gu.accX.get n = (if still then 0 else newAccumulator 0 mx (gain n)) ∧
            u.gu.accY.get n = (if still then 0 else newAccumulator 0 my (gain n))) ∧
          u.delivered n = (if still then s.delivered n else buttons) ∧ u.wakes = s.wakes ∧ u.tables = s.tables ∧
          ∀ m, m ≠ n → u.port m = if s.link m = .off then s.port m else
            let left : Port := if s.gu.pointerSlot = some m ∧ s.delivered m ≠ 0 then handed m (.rel 0 0 0 0) else s.port m
            if s.fc.follow = .follow ∧ s.fc.focus = some m then { left with queue := left.queue ++ [.keyboard KeyImage.empty] }
            else left)

/-- A pointer report shorter than 3 bytes is ignored whole (R189), and one without a wheel byte has wheel 0. A report with all
deltas zero and no button change moves nothing and makes no entry (R47): where the residues are in range and the tile, display and
pointer slot are those of P, it changes nothing, but that where a RELATIVE tile's accumulators store an output of 16 or more
whether they are paid out is the model's free value (L35). With no display
enabled P stays, both residues become 0, the pointer slot is NONE and what the arrival pressed joins the suppressed set (R51). -/
def Obligations.PointerReportsWithoutEffectOnP : Prop :=
  ∀ s : State, s.taking = true →
    (∀ bytes, s.ciu.pointerPort ≠ .ready → exec (.pointerReport bytes) s = .next s) ∧
    (∀ bytes : List Byte, bytes.length < 3 → exec (.pointerReport bytes) s = .next s) ∧
    (∀ b dx dy : Byte, exec (.pointerReport [b, dx, dy]) s = exec (.pointerReport [b, dx, dy, 0]) s) ∧
    (∀ b : Byte, s.ciu.pointerPort = .ready → b.setWidth 5 = s.ciu.buttons → s.gu.display.isSome = true →
      s.gu.display = s.cmp.active.displayAt s.gu.px s.gu.py → s.gu.tile = s.cmp.active.tileAt s.gu.px s.gu.py →
      s.gu.pointerSlot = s.slotOfTile s.gu.tile → -4096 ≤ s.gu.px → s.gu.px ≤ 4095 → -4096 ≤ s.gu.py → s.gu.py ≤ 4095 →
      -15 ≤ s.gu.rx → s.gu.rx ≤ 15 → -15 ≤ s.gu.ry → s.gu.ry ≤ 15 →
      (Config.stillArrivalPays = false ∨ ∀ i n, s.gu.tile = some i → s.gu.pointerSlot = some n → s.tileMode i = .relative →
        (s.gu.accX.get n).natAbs < 16 ∧ (s.gu.accY.get n).natAbs < 16) →
      exec (.pointerReport [b, 0, 0, 0]) s = .next s) ∧
    ∀ (b dx dy : Byte) (rest : List Byte), s.ciu.pointerPort = .ready → s.cmp.active.firstRect = none →
      let buttons : Buttons := b.setWidth 5
      exec (.pointerReport (b :: dx :: dy :: rest)) s = .next { s with
        ciu := { s.ciu with buttons := buttons }
        gu := { s.gu with
          rx := 0, ry := 0, tile := none, display := none, pointerSlot := none
          suppressed := (s.gu.suppressed &&& ~~~(s.ciu.buttons &&& ~~~buttons)) ||| (buttons &&& ~~~s.ciu.buttons) } }

/-- The GU's arithmetic: a computed move from a console delta at a desk speed of 1 to 64 lies within -508..508, its residue
within -15..15 with the sign of the total or 0, and 16 times the move plus the new residue is the total, so desk motion gains and
loses nothing (R63); a relative output lies within -127..127 and its accumulator within -2047..2047, and without a clamp 16
times the output plus the new accumulator is the sum (R69, R70); and the absolute translation of a column of a tile at least 2
wide sends the ends of the tile to the ends of the span, never decreases, and stays within the span (R65, R66). -/
def Obligations.MotionArithmeticLosesNothing : Prop :=
  (∀ d v r : Int, -127 ≤ d → d ≤ 127 → 1 ≤ v → v ≤ 64 → -15 ≤ r → r ≤ 15 →
    -508 ≤ computedMove d v r ∧ computedMove d v r ≤ 508 ∧ -15 ≤ newResidue d v r ∧ newResidue d v r ≤ 15 ∧
    16 * computedMove d v r + newResidue d v r = d * v + r ∧ 0 ≤ newResidue d v r * (d * v + r) ∧
    computedMove (-d) v (-r) = -computedMove d v r) ∧
  (∀ acc m g : Int, -127 ≤ relativeOutput acc m g ∧ relativeOutput acc m g ≤ 127 ∧ -2047 ≤ newAccumulator acc m g ∧
    newAccumulator acc m g ≤ 2047) ∧
  (∀ acc m g : Int, -2047 ≤ acc + m * g → acc + m * g ≤ 2047 →
    16 * relativeOutput acc m g + newAccumulator acc m g = acc + m * g ∧ -15 ≤ newAccumulator acc m g ∧
    newAccumulator acc m g ≤ 15) ∧
  ∀ w a0 a1 : Int, 2 ≤ w → a0 < a1 →
    translateAxis 0 w a0 a1 = a0 ∧ translateAxis (w - 1) w a0 a1 = a1 ∧
    (∀ u v : Int, u ≤ v → translateAxis u w a0 a1 ≤ translateAxis v w a0 a1) ∧
    ∀ u : Int, 0 ≤ u → u < w → a0 ≤ translateAxis u w a0 a1 ∧ translateAxis u w a0 a1 ≤ a1

/-! ### LED transfers and the single timers -/

/-- A completed LED output transfer makes the value it carried the LED state sent, and a new transfer starts at once when a
re-send is marked or the composed state differs; a failed one sets the retry hold, or starts a new transfer when a re-send is
marked (R7). That the end of a transfer changes nothing while none is outstanding is the model's choice (L4). -/
def Obligations.LedTransfersEnd : Prop :=
  ∀ s : State, s.taking = true →
    (s.ciu.transfer = none → exec .ledTransferComplete s = .next s ∧ exec .ledTransferFailed s = .next s) ∧
    ∀ v, s.ciu.transfer = some v →
      (s.ciu.resend = false → s.ciu.composed = v →
        exec .ledTransferComplete s = .next { s with ciu := { s.ciu with ledSent := some v, transfer := none } }) ∧
      (s.ciu.resend = true ∨ s.ciu.composed ≠ v →
        exec .ledTransferComplete s = .next { s with ciu := { s.ciu with
          ledSent := some v, transfer := some s.ciu.composed, retryHold := false, resend := false } }) ∧
      (s.ciu.resend = false →
        exec .ledTransferFailed s = .next { s with ciu := { s.ciu with transfer := none, retryHold := true } }) ∧
      (s.ciu.resend = true →
        exec .ledTransferFailed s = .next { s with ciu := { s.ciu with
          transfer := some s.ciu.composed, retryHold := false, resend := false } })

/-- A T0 expiry in LEAD_ONE and a T1 expiry in COMMAND return the command state to NORMAL, the latter restoring the LEDs (R33,
R35, R36); a T2 expiry toggles the blink phase, reloads T2 from its entry and composes the LEDs anew (R154, R164, R6).
An expiry is taken where its instance has reached its duration; of a stopped instance nothing comes, nor of one restarted before its
new duration has elapsed (R162, R163; that such an expiry changes nothing is the model's choice, L3). -/
def Obligations.SingleTimersExpire : Prop :=
  ∀ s : State, s.taking = true →
    (s.bank.t0.due = true → s.hkm = .leadOne →
      exec .leadWindowExpiry s = .next { s with hkm := .normal, bank := { s.bank with t0 := .stopped } }) ∧
    (s.bank.t0.due = false → exec .leadWindowExpiry s = .next s) ∧
    (s.bank.t1.due = true → s.hkm = .command →
      exec .commandIdleExpiry s = .next { s with
        hkm := .normal, bank := { s.bank with t1 := .stopped }, ciu := s.ciu.compose s.focusLeds }) ∧
    (s.bank.t1.due = false → exec .commandIdleExpiry s = .next s) ∧
    (s.bank.t2.due = true →
      exec .blinkExpiry s = .next { s with
        cmp := { s.cmp with blink := !s.cmp.blink }
        bank := { s.bank with t2 := .running (s.tables.timing.get 2).duration 0 }
        ciu := s.ciu.compose (if s.hkm = .command then
          (if s.cmp.blink then s.focusLeds &&& ~~~scrollLock else s.focusLeds ||| scrollLock) else s.focusLeds) }) ∧
    (s.bank.t2.due = false → exec .blinkExpiry s = .next s)

/-! ### Slot links and report queues -/

/-- Bus power on an OFF slot brings its link to ATTACHED with every other item at its power-on value (R76, R80); a bus idle for
3 ms suspends an ACTIVE slot, T6 starting when entries wait (R77, R110). Nothing else changes, and in every other link state
neither changes anything (R75; that an event that cannot arise changes nothing is the model's choice, L4). -/
def Obligations.BusPowerAndIdle : Prop :=
  ∀ (s : State) (n : Slot), s.taking = true →
    (s.link n = .off → exec (.busPowerSensed n) s = .next { s with
      ports := s.ports.put n { Port.reset with link := .attached }, bank := s.bank.setTimer (.t6 n) .stopped }) ∧
    (s.link n ≠ .off → exec (.busPowerSensed n) s = .next s) ∧
    (s.link n = .active → exec (.busIdle n) s = .next { s with
      ports := s.ports.put n { s.port n with link := .suspended }
      bank := s.bank.setTimer (.t6 n)
        (if (s.port n).queue = [] then .stopped else .running (s.tables.timing.get 6).duration 0) }) ∧
    (s.link n ≠ .active → exec (.busIdle n) s = .next s)

/-- A loss of bus power on a slot that is not OFF: its port takes every power-on value, its sent image and delivered buttons
are empty, its accumulators 0, its held keys SUPPRESSED, its alert, stack entry and snapshot gone, the focus off it, its T6
stopped; in SIGNAL or AWAIT its wake sequence goes on to LINE_PULSE where the wake line is wired and otherwise to FAILED, and in
any other phase it stays (R21, R60, R80, R108, R122, R180). At the top of the attended stack, with another saved focus than the slot
itself, it gives way to a restore of that focus and, in FOLLOW mode, of the saved P; otherwise P stays and the focus goes from the
slot to NONE (R123). That an OFF slot takes none is the model's choice (L4); the order of the
blocks' parts, which decides the case of a slot both attended and waking, is the model's too (L5). -/
def Obligations.BusPowerLostResetsTheSlot : Prop :=
  ∀ (s : State) (n : Slot), s.taking = true →
    (s.link n = .off → exec (.busPowerLost n) s = .next s) ∧
    (s.link n ≠ .off → AttentionLaw s →
      ∃ t, exec (.busPowerLost n) s = .next t ∧ t.port n = Port.reset ∧ t.sent n = KeyImage.empty ∧ t.delivered n = 0 ∧
        t.gu.accX.get n = 0 ∧ t.gu.accY.get n = 0 ∧ t.fc.focus ≠ some n ∧ t.timer (.t6 n) = .stopped ∧
        (∀ k, heldKey k s.fc.held = some (.slot n) → heldKey k t.fc.held = some .suppressed) ∧
        t.mgi.snapshots.get n = none ∧ t.atu.isPending n = false ∧ t.atu.isStacked n = false ∧
        (t.wake n).attempts = (s.wake n).attempts ∧ (t.wake n).cause = (s.wake n).cause ∧
        (t.wake n).phase = (if (s.wake n).phase = .signal ∨ (s.wake n).phase = .await then
          (if (s.slotRecord n).wakeLineWired = true then .linePulse else .failed) else (s.wake n).phase) ∧
        t.consoleSide = s.consoleSide ∧ t.outer = s.outer ∧ LeavesTheStack s t n ∧
        (∀ e rest, s.atu.stack = e :: rest → e.slot = n → e.savedFocus ≠ some n → RestoresSaved s t e) ∧
        ((∀ e rest, s.atu.stack = e :: rest → e.slot = n → e.savedFocus = some n) →
          t.gu.px = s.gu.px ∧ t.gu.py = s.gu.py ∧ t.fc.focus = if s.fc.focus = some n then none else s.fc.focus))

/-- A bus reset of a slot that is not OFF, without a restore: its port is ATTACHED with every other
item at its power-on value, the focus, P and every other slot's port stay, and a wake sequence in SIGNAL, AWAIT or LINE_PULSE goes
to LINE_AWAIT with T5 started (R60, R79, R107, R122, R180). At the top of the attended stack with another saved focus than the slot
itself, the reset goes with a restore of that focus and, in FOLLOW mode, of the saved P (R123), which may hand entries to ports
again; all else is as without it. Configuration 0 selected in ACTIVE is exactly a bus reset (R76). That an
OFF slot takes no bus reset, and that configuration 0 changes nothing in another link state, is the model's choice (L4). -/
def Obligations.BusResetResetsTheSlot : Prop :=
  ∀ (s : State) (n : Slot), s.taking = true →
    (s.link n = .off → exec (.busReset n) s = .next s) ∧
    (s.link n = .active → exec (.configuration0Selected n) s = exec (.busReset n) s) ∧
    (s.link n ≠ .active → exec (.configuration0Selected n) s = .next s) ∧
    (s.link n ≠ .off → AttentionLaw s → (∀ e rest, s.atu.stack = e :: rest → e.slot = n → e.savedFocus = some n) →
      ∃ t, exec (.busReset n) s = .next t ∧ t.port n = { Port.reset with link := .attached } ∧
        (∀ m, m ≠ n → t.port m = s.port m) ∧ t.sent n = KeyImage.empty ∧ (∀ m, m ≠ n → t.sent m = s.sent m) ∧
        t.delivered n = 0 ∧ t.gu.accX.get n = 0 ∧ t.gu.accY.get n = 0 ∧ t.gu.px = s.gu.px ∧ t.gu.py = s.gu.py ∧
        t.fc.focus = s.fc.focus ∧ (∀ k, heldKey k s.fc.held = some (.slot n) → heldKey k t.fc.held = some .suppressed) ∧
        t.mgi.snapshots.get n = none ∧ t.atu.isPending n = false ∧ t.timer (.t6 n) = .stopped ∧
        (if (s.wake n).phase = .signal ∨ (s.wake n).phase = .await ∨ (s.wake n).phase = .linePulse then
          (t.wake n).phase = .lineAwait ∧ (t.wake n).line = false ∧
            t.timer (.t5 n) = .running (s.tables.timing.get 5).duration 0
        else t.wake n = s.wake n) ∧
        t.consoleSide = s.consoleSide ∧ t.outer = s.outer ∧ t.atu.isStacked n = false ∧ LeavesTheStack s t n) ∧
    ∀ e rest, s.link n ≠ .off → AttentionLaw s → s.atu.stack = e :: rest → e.slot = n → e.savedFocus ≠ some n →
      ∃ t, exec (.busReset n) s = .next t ∧ RestoresSaved s t e ∧ LeavesTheStack s t n ∧ t.link n = .attached ∧
        t.sent n = KeyImage.empty ∧ t.delivered n = 0 ∧
        (∀ k, heldKey k s.fc.held = some (.slot n) → heldKey k t.fc.held = some .suppressed) ∧
        t.mgi.snapshots.get n = none ∧ t.atu.isPending n = false ∧ t.atu.isStacked n = false ∧
        (if (s.wake n).phase = .signal ∨ (s.wake n).phase = .await ∨ (s.wake n).phase = .linePulse then
          (t.wake n).phase = .lineAwait ∧ (t.wake n).line = false ∧
            t.timer (.t5 n) = .running (s.tables.timing.get 5).duration 0
        else t.wake n = s.wake n) ∧
        t.consoleSide = s.consoleSide ∧ t.outer = s.outer

/-- Configuration 1 in ATTACHED, and resume signalling from the computer in SUSPENDED or RESUMING, make the link ACTIVE: what
waits is kept, signalling ends and T6 stops; a wake sequence or FAILED ends in IDLE with its line deasserted, T3 to T5 stopped
and WAKE_DONE raised, and IDLE stays (R76, R77, R78, R106, R110). In every other link state neither changes anything (R75, L4). -/
def Obligations.LinksBecomeActive : Prop :=
  ∀ (s : State) (n : Slot), s.taking = true →
    let port : Port := { s.port n with link := .active, signalling := .stopped }
    let active : State := { s with ports := s.ports.put n port, bank := s.bank.setTimer (.t6 n) .stopped }
    let next : State := if (s.wake n).phase = .idle then active else
      State.raiseEvent { active with
        wakes := s.wakes.put n { s.wake n with phase := .idle, line := false }
        bank := ((active.bank.setTimer (.t3 n) .stopped).setTimer (.t4 n) .stopped).setTimer (.t5 n) .stopped } .wakeDone
    (s.link n = .attached → exec (.configuration1Selected n) s = .next next) ∧
    (s.link n ≠ .attached → exec (.configuration1Selected n) s = .next s) ∧
    (s.link n = .suspended ∨ s.link n = .resuming → exec (.resumeSignalling n) s = .next next) ∧
    (s.link n ≠ .suspended → s.link n ≠ .resuming → exec (.resumeSignalling n) s = .next s)

/-- The requests to set and to clear the remote wakeup feature, taken in ATTACHED and ACTIVE, leave remote-wake-permitted on
and off (R82); an LED output report, taken in ACTIVE, becomes the slot's LED state from its low five bits, and the
focus slot's is composed for the console (R83, R6, R190). That in another link state they change nothing is the model's choice
(L4). Composing (R7): a composed state that stays, and one that changes, clearing any retry hold, start an LED output transfer that
carries it exactly where the keyboard port is READY, no transfer is outstanding, no retry hold is then set and the LED state sent
differs; the transfer ends any re-send mark. That a change back to the LED state sent clears the hold and starts no transfer is the
model's choice (L34). -/
def Obligations.ComputerSetsFlagsAndLeds : Prop :=
  ∀ (s : State) (n : Slot) (b : Byte), s.taking = true →
    (s.link n = .attached ∨ s.link n = .active →
      exec (.setRemoteWakeupFeature n) s = .next { s with ports := s.ports.put n { s.port n with remoteWake := true } } ∧
      exec (.clearRemoteWakeupFeature n) s = .next { s with ports := s.ports.put n { s.port n with remoteWake := false } }) ∧
    (s.link n ≠ .attached → s.link n ≠ .active →
      exec (.setRemoteWakeupFeature n) s = .next s ∧ exec (.clearRemoteWakeupFeature n) s = .next s) ∧
    (s.link n = .active →
      let lit : State := { s with ports := s.ports.put n { s.port n with leds := b.setWidth 5 } }
      (s.fc.focus ≠ some n → exec (.slotLedReport n b) s = .next lit) ∧
      (s.fc.focus = some n → s.hkm ≠ .command →
        exec (.slotLedReport n b) s = .next { lit with ciu := s.ciu.compose (b.setWidth 5) }) ∧
      (s.fc.focus = some n → s.hkm = .command → exec (.slotLedReport n b) s = .next { lit with
        ciu := s.ciu.compose (if s.cmp.blink then b.setWidth 5 ||| scrollLock else b.setWidth 5 &&& ~~~scrollLock) })) ∧
    (s.link n ≠ .active → exec (.slotLedReport n b) s = .next s) ∧
    ∀ (c : Ciu) (x : Leds),
      let ready : Prop := c.keyboardPort = .ready ∧ c.transfer = none ∧ c.ledSent ≠ some x
      (c.composed = x → c.retryHold = true ∨ ¬ready → c.compose x = c) ∧
      (c.composed ≠ x → ¬ready → c.compose x = { c with composed := x, retryHold := false }) ∧
      (c.composed ≠ x ∨ c.retryHold = false → ready →
        c.compose x = { c with composed := x, transfer := some x, retryHold := false, resend := false })

/-- An IN poll of an ACTIVE slot with no report in hand takes the oldest entry of its queue into the hand: a KEYBOARD entry
becomes the last delivered image, a POINTER entry's buttons the last delivered set. With a report in hand, or with nothing queued,
it changes nothing, and an acknowledgement empties the hand (R90). The management interface's polls treat the response queue
and the response in hand in the same way (R94). That polls and acknowledgements of a slot that is not ACTIVE change nothing is the
model's choice (L4). -/
def Obligations.PollsDeliverTheOldest : Prop :=
  ∀ (s : State) (n : Slot), s.taking = true →
    (s.link n ≠ .active → exec (.inPoll n) s = .next s ∧ exec (.reportAcknowledged n) s = .next s ∧
      exec (.managementInPoll n) s = .next s ∧ exec (.responseAcknowledged n) s = .next s) ∧
    (s.link n = .active →
      exec (.reportAcknowledged n) s = .next { s with ports := s.ports.put n { s.port n with hand := none } } ∧
      (∀ e, (s.port n).hand = some e → exec (.inPoll n) s = .next s) ∧
      ((s.port n).queue = [] → exec (.inPoll n) s = .next s) ∧
      exec (.responseAcknowledged n) s = .next { s with ports := s.ports.put n { s.port n with responseHand := none } } ∧
      (∀ r, (s.port n).responseHand = some r → exec (.managementInPoll n) s = .next s) ∧
      ((s.port n).responses = [] → exec (.managementInPoll n) s = .next s) ∧
      (∀ r rest, (s.port n).responseHand = none → (s.port n).responses = r :: rest →
        exec (.managementInPoll n) s = .next { s with
          ports := s.ports.put n { s.port n with responses := rest, responseHand := some r } }) ∧
      ∀ e rest, (s.port n).hand = none → (s.port n).queue = e :: rest →
        exec (.inPoll n) s = .next { s with
          ports := s.ports.put n { s.port n with
            queue := rest
            hand := some e
            lastKeyboard := (match e with | .keyboard k => k | _ => (s.port n).lastKeyboard)
            lastButtons := (match e with
              | .keyboard _ => (s.port n).lastButtons | .abs b _ _ _ => b | .rel b _ _ _ => b) }
          bank := s.bank.setTimer (.t6 n) .stopped })

/-- Hand-over of an entry to a report queue (R84 to R88). The newest entry merges with a new one exactly when both are ABS entries
of one button set, their wheels summing within -127..127, or REL entries of one button set with every sum so (R86, R87). An entry
that does not merge is appended where there is room; a full queue drops an entry of pure motion, one whose buttons are those of the
newest POINTER entry or else of the last delivered set (R85), and for any other evicts its oldest entry of pure motion; with no such
entry it is refused. The queue never exceeds its 16. A port that is OFF is handed nothing; a hand-over taken changes that queue and
its T6 alone (R110); one refused is a release flush of the slot, with QUEUE_OVERFLOW raised (R88, R89). -/
def Obligations.QueuesTakeEntries : Prop :=
  ((∀ (k : KeyImage) (e : Entry), Entry.merge? (.keyboard k) e = none ∧ e.merge? (.keyboard k) = none) ∧
    (∀ (b b' : Buttons) (x y w x' y' w' : Int),
      Entry.merge? (.abs b x y w) (.rel b' x' y' w') = none ∧ Entry.merge? (.rel b x y w) (.abs b' x' y' w') = none ∧
      Entry.merge? (.abs b x y w) (.abs b' x' y' w') =
        (if b = b' ∧ -127 ≤ w + w' ∧ w + w' ≤ 127 then some (.abs b x' y' (w + w')) else none) ∧
      Entry.merge? (.rel b x y w) (.rel b' x' y' w') =
        (if b = b' ∧ (-127 ≤ x + x' ∧ x + x' ≤ 127) ∧ (-127 ≤ y + y' ∧ y + y' ≤ 127) ∧ (-127 ≤ w + w' ∧ w + w' ≤ 127)
          then some (.rel b (x + x') (y + y') (w + w')) else none))) ∧
  (∀ (last : Buttons) (q : List Entry) (a e : Entry), takeEntry last [] e = some [e] ∧
    (∀ m, a.merge? e = some m → takeEntry last (q ++ [a]) e = some (q ++ [m])) ∧
    (a.merge? e = none → q.length < 15 → takeEntry last (q ++ [a]) e = some (q ++ [a, e])) ∧
    (a.merge? e = none → 15 ≤ q.length →
      (pureMotion last (q ++ [a]) e = true → takeEntry last (q ++ [a]) e = some (q ++ [a])) ∧
      (pureMotion last (q ++ [a]) e = false →
        (∀ q', evictOldest last (q ++ [a]) = some q' → takeEntry last (q ++ [a]) e = some (q' ++ [e])) ∧
        (evictOldest last (q ++ [a]) = none → takeEntry last (q ++ [a]) e = none)))) ∧
  (∀ (last : Buttons) (q : List Entry) (k : KeyImage) (b : Buttons) (x y w : Int), pureMotion last q (.keyboard k) = false ∧
    (pureMotion last q (.abs b x y w) = true ↔ b = newestButtons last q) ∧
    (pureMotion last q (.rel b x y w) = true ↔ b = newestButtons last q) ∧ newestButtons last [] = last ∧
    newestButtons last (q ++ [.keyboard k]) = newestButtons last q ∧ newestButtons last (q ++ [.abs b x y w]) = b ∧
    newestButtons last (q ++ [.rel b x y w]) = b) ∧
  (∀ (last : Buttons) (p q : List Entry) (e : Entry), pureMotion last p e = true → evictOldest last p = none →
    evictOldest last (p ++ e :: q) = some (p ++ q)) ∧
  (∀ (last : Buttons) (q : List Entry), evictOldest last q = none ↔
    ∀ p e r, q = p ++ e :: r → pureMotion last p e = false) ∧
  (∀ (last : Buttons) (q q' : List Entry) (e : Entry), q.length ≤ 16 → takeEntry last q e = some q' → q'.length ≤ 16) ∧
  ∀ (s : State) (n : Slot) (e : Entry), (s.link n = .off → s.handOver n e = s) ∧
    (s.link n ≠ .off → ∀ q, takeEntry (s.port n).lastButtons (s.port n).queue e = some q →
      s.handOver n e = { s with
        ports := s.ports.put n { s.port n with queue := q }
        bank := if s.link n = .active then s.bank.setTimer (.t6 n) .stopped
          else if (s.port n).queue = [] then s.bank.setTimer (.t6 n) (.running (s.tables.timing.get 6).duration 0)
          else s.bank }) ∧
    (s.link n ≠ .off → takeEntry (s.port n).lastButtons (s.port n).queue e = none →
      let t := s.handOver n e
      t.port n = { s.port n with queue :=
        (if (s.port n).lastKeyboard = KeyImage.empty then [] else [.keyboard KeyImage.empty]) ++
        (if (s.port n).lastButtons = 0 then [] else [.rel 0 0 0 0]) } ∧
      (∀ m, m ≠ n → t.port m = s.port m ∧ t.sent m = s.sent m ∧ t.delivered m = s.delivered m) ∧
      t.sent n = KeyImage.empty ∧ t.delivered n = 0 ∧ t.gu.suppressed = s.gu.suppressed ||| s.delivered n ∧
      t.fc.suppressed = (if s.fc.focus = some n then s.fc.suppressed ||| s.ciu.mods else s.fc.suppressed) ∧
      (∀ k, heldKey k t.fc.held = (heldKey k s.fc.held).map fun d => if d = .slot n then .suppressed else d) ∧
      (∀ m, t.mgi.events.get m = if (s.access m).events = true then s.mgi.events.get m ||| 256 else s.mgi.events.get m) ∧
      t.timer (.t6 n) = (if s.link n = .active ∨ (t.port n).queue = [] then .stopped
        else .running (s.tables.timing.get 6).duration 0) ∧
      t.fc.focus = s.fc.focus ∧ t.wakes = s.wakes ∧ t.atu = s.atu ∧ t.cmp = s.cmp ∧ t.consoleSide = s.consoleSide ∧
      t.outer = s.outer)

/-! ### Wake sequences -/

/-- A trigger of any cause is taken by where the slot stands (R99): ignored while ACTIVE, in a running sequence or RESUMING;
otherwise attempts become 0, the cause is set, and the sequence starts in SIGNAL, LINE_PULSE, LINE_AWAIT or FAILED by the link, the
permission and the wake line. A management WAKE of a slot gives it one trigger of cause WAKE, and a WAKE of ALL one of cause
WAKE_ALL to each slot from 0 to 7 in turn (R100, R176). The response carries the outcomes, 0 STARTED, 1 RUNNING, 2 ACTIVE and 3
FAILED, and its status is STARTED when one started, else BUSY when one was running, else DONE. Another value is refused with
BAD_VALUE, and a slot without MANAGE_ACTIONS with DENIED, with nothing changed (R168, R175). -/
def Obligations.WakeRequestTriggersTheSlot : Prop :=
  (∀ (s : State) (m : Slot) (c : Cause),
    let begun : State := { s with wakes := s.wakes.put m { s.wake m with attempts := 0, cause := c } }
    (s.link m = .active → s.trigger m c = (s, .active)) ∧
    (s.link m ≠ .active → (s.wake m).phase.inSequence = true ∨ s.link m = .resuming → s.trigger m c = (s, .running)) ∧
    (s.link m ≠ .active → s.link m ≠ .resuming → (s.wake m).phase = .idle ∨ (s.wake m).phase = .failed →
      (s.link m = .attached → s.trigger m c = (begun.enterLineAwait m, .started)) ∧
      (s.link m = .suspended → (s.port m).remoteWake = true → s.trigger m c = (begun.enterSignal m, .started)) ∧
      (s.link m = .off ∨ (s.link m = .suspended ∧ (s.port m).remoteWake = false) →
        s.trigger m c = if (s.slotRecord m).wakeLineWired = true then (begun.enterLinePulse m, .started)
          else (begun.enterFailed m, .failed)))) ∧
  ∀ (s : State) (n : Slot), OpenTo s n →
    let request (b : Byte) := Instr.wake n (requestBytes 0 0 0 [b])
    let answered (x : State) (st : Status) (codes : List Byte) : Host.Outcome State Fault Refusal :=
      .next (x.respond n ⟨st, 5, 0, 0, codes⟩)
    let code : WakeOutcome → Byte := fun o => match o with | .started => 0 | .running => 1 | .active => 2 | .failed => 3
    let status : List WakeOutcome → Status := fun l => if .started ∈ l then .started else if .running ∈ l then .busy else .done
    ((s.access n).manageActions = false → ∀ b, exec (request b) s = answered s .denied []) ∧
    ((s.access n).manageActions = true →
      (∀ m : Slot, exec (request (byte m.val)) s =
        answered (s.trigger m .wake).1 (status [(s.trigger m .wake).2]) [code (s.trigger m .wake).2]) ∧
      (∀ b : Byte, 7 < b.toNat → b ≠ 0xFF → exec (request b) s = answered s .badValue []) ∧
      let r0 := s.trigger 0 .wakeAll
      let r1 := r0.1.trigger 1 .wakeAll
      let r2 := r1.1.trigger 2 .wakeAll
      let r3 := r2.1.trigger 3 .wakeAll
      let r4 := r3.1.trigger 4 .wakeAll
      let r5 := r4.1.trigger 5 .wakeAll
      let r6 := r5.1.trigger 6 .wakeAll
      let r7 := r6.1.trigger 7 .wakeAll
      let outcomes := [r0.2, r1.2, r2.2, r3.2, r4.2, r5.2, r6.2, r7.2]
      exec (request 0xFF) s = answered r7.1 (status outcomes) (outcomes.map code))

/-- What each start phase does (R101, R103, R105, R109): SIGNAL on a SUSPENDED link that permits it makes the link RESUMING
with 10 ms of signalling; LINE_PULSE asserts the wake line and starts T4; LINE_AWAIT deasserts it and starts T5; FAILED
deasserts it, stops the wake timers, raises WAKE_FAILED and, under KEEP, does nothing more, and under DISCARD flushes the slot: its
queue holds an empty image and a release entry exactly as the last delivered values call for, its sent image and delivered buttons
are empty, its held keys and buttons suppressed, and T6 starts anew where entries wait (R89, R110). A SIGNAL that the port refuses
is taken as the link becoming ACTIVE where it is, and otherwise goes on to LINE_PULSE or FAILED (R101, R106). -/
def Obligations.WakePhasesBegin : Prop :=
  ∀ (s : State) (n : Slot),
    let stopped := ((s.bank.setTimer (.t3 n) .stopped).setTimer (.t4 n) .stopped).setTimer (.t5 n) .stopped
    (s.link n = .suspended → (s.port n).remoteWake = true →
      ∃ t, s.enterSignal n = t ∧ t.port n = { s.port n with link := .resuming, signalling := .running 10 0 } ∧
        t.wake n = { s.wake n with phase := .signal, line := false } ∧ (∀ m, m ≠ n → t.port m = s.port m ∧ t.wake m = s.wake m) ∧
        t.outer = s.outer ∧ t.consoleSide = s.consoleSide) ∧
    s.enterLinePulse n = { s with
      wakes := s.wakes.put n { s.wake n with phase := .linePulse, line := true }
      bank := stopped.setTimer (.t4 n) (.running (s.tables.timing.get 4).duration 0) } ∧
    s.enterLineAwait n = { s with
      wakes := s.wakes.put n { s.wake n with phase := .lineAwait, line := false }
      bank := stopped.setTimer (.t5 n) (.running (s.tables.timing.get 5).duration 0) } ∧
    ((s.slotRecord n).policy = .keep → s.enterFailed n = State.raiseEvent { s with
      wakes := s.wakes.put n { s.wake n with phase := .failed, line := false }, bank := stopped } .wakeFailed) ∧
    ((s.slotRecord n).policy = .discard → ∃ t, s.enterFailed n = t ∧
      t.port n = { s.port n with queue :=
        (if (s.port n).lastKeyboard = KeyImage.empty then [] else [.keyboard KeyImage.empty]) ++
        (if (s.port n).lastButtons = 0 then [] else [.rel 0 0 0 0]) } ∧
      (∀ m, m ≠ n → t.port m = s.port m) ∧ t.sent n = KeyImage.empty ∧ t.delivered n = 0 ∧
      t.gu.suppressed = s.gu.suppressed ||| s.delivered n ∧ t.fc.focus = s.fc.focus ∧
      (∀ k, heldKey k t.fc.held = (heldKey k s.fc.held).map fun d => if d = .slot n then .suppressed else d) ∧
      t.wakes = s.wakes.put n { s.wake n with phase := .failed, line := false } ∧ t.mgi = (s.raiseEvent .wakeFailed).mgi ∧
      t.timer (.t6 n) = (if (t.port n).queue = [] ∨ s.link n = .active then .stopped
        else .running (s.tables.timing.get 6).duration 0) ∧
      (∀ i, i ≠ .t6 n → t.timer i = stopped.timer i) ∧ t.outer = s.outer ∧ t.consoleSide = s.consoleSide) ∧
    (s.link n = .active → s.enterSignal n = State.raiseEvent { s with
      wakes := s.wakes.put n { s.wake n with phase := .idle, line := false }, bank := stopped } .wakeDone) ∧
    (s.link n ≠ .active → s.link n ≠ .suspended ∨ (s.port n).remoteWake = false →
      s.enterSignal n = if (s.slotRecord n).wakeLineWired = true then s.enterLinePulse n else s.enterFailed n)

/-- The end of a slot's 10 ms of signalling in SIGNAL enters AWAIT and starts T3 (R78, R101); a T3 expiry in AWAIT ends the
remote wakeup, a RESUMING link returning to SUSPENDED with what waits kept (R78), counts the attempt and signals again while
attempts remain, otherwise pulses the wake line or fails (R102); a T4 expiry enters LINE_AWAIT (R103) and a T5 expiry FAILED
(R104). An expiry is taken where its wait has reached its duration; of a stopped wait nothing comes, nor of one started anew before
its new duration has elapsed (R162, R163; that such an expiry changes nothing is the model's choice, L3). -/
def Obligations.WakeTimersExpire : Prop :=
  ∀ (s : State) (n : Slot), s.taking = true →
    ((s.port n).signalling.due = true → (s.wake n).phase = .signal →
      exec (.resumeSignallingEnd n) s = .next { s with
        ports := s.ports.put n { s.port n with signalling := .stopped }
        wakes := s.wakes.put n { s.wake n with phase := .await, line := false }
        bank := s.bank.setTimer (.t3 n) (.running (s.tables.timing.get 3).duration 0) }) ∧
    ((s.port n).signalling.due = false → exec (.resumeSignallingEnd n) s = .next s) ∧
    ((s.timer (.t3 n)).due = true → (s.wake n).phase = .await →
      let stopped := s.bank.setTimer (.t3 n) .stopped
      let ended : State := if s.link n = .resuming then { s with
          ports := s.ports.put n { s.port n with link := .suspended, signalling := .stopped }
          bank := if (s.port n).queue = [] then stopped.setTimer (.t6 n) .stopped else stopped }
        else { s with bank := stopped }
      let counted : State := { ended with wakes := s.wakes.put n { s.wake n with attempts := (s.wake n).attempts + 1 } }
      exec (.wakeResponseExpiry n) s = .next
        (if (s.wake n).attempts + 1 < (s.slotRecord n).retries then counted.enterSignal n
        else if (s.slotRecord n).wakeLineWired = true then counted.enterLinePulse n else counted.enterFailed n)) ∧
    ((s.timer (.t3 n)).due = false → exec (.wakeResponseExpiry n) s = .next s) ∧
    ((s.timer (.t4 n)).due = true → (s.wake n).phase = .linePulse →
      exec (.wakePulseExpiry n) s = .next ((s.stopTimer (.t4 n)).enterLineAwait n)) ∧
    ((s.timer (.t4 n)).due = false → exec (.wakePulseExpiry n) s = .next s) ∧
    ((s.timer (.t5 n)).due = true → (s.wake n).phase = .lineAwait →
      exec (.powerUpWaitExpiry n) s = .next ((s.stopTimer (.t5 n)).enterFailed n)) ∧
    ((s.timer (.t5 n)).due = false → exec (.powerUpWaitExpiry n) s = .next s)

/-- A T6 expiry applies the queue hold policy: KEEP changes nothing and T6 starts again while entries wait; DISCARD flushes the
slot, its queue then holding an empty image and a release entry exactly as the last delivered values call for, its sent image and
delivered buttons empty (R89, R111). An expiry is taken where T6 has reached its duration (R162, R163); that another changes nothing
is the model's choice (L3). -/
def Obligations.QueueHoldExpires : Prop :=
  ∀ (s : State) (n : Slot), s.taking = true →
    ((s.timer (.t6 n)).due = false → exec (.queueHoldExpiry n) s = .next s) ∧
    ((s.timer (.t6 n)).due = true → s.link n ≠ .active → (s.port n).queue ≠ [] →
      ((s.slotRecord n).policy = .keep → exec (.queueHoldExpiry n) s = .next { s with
        bank := s.bank.setTimer (.t6 n) (.running (s.tables.timing.get 6).duration 0) }) ∧
      ((s.slotRecord n).policy = .discard → ∃ t, exec (.queueHoldExpiry n) s = .next t ∧
        t.port n = { s.port n with queue :=
          (if (s.port n).lastKeyboard = KeyImage.empty then [] else [.keyboard KeyImage.empty]) ++
          (if (s.port n).lastButtons = 0 then [] else [.rel 0 0 0 0]) } ∧
        (∀ m, m ≠ n → t.port m = s.port m) ∧ t.sent n = KeyImage.empty ∧ t.delivered n = 0 ∧
        t.gu.suppressed = s.gu.suppressed ||| s.delivered n ∧ t.wakes = s.wakes ∧ t.fc.focus = s.fc.focus ∧
        (∀ k, heldKey k t.fc.held = (heldKey k s.fc.held).map fun d => if d = .slot n then .suppressed else d) ∧
        t.timer (.t6 n) = (if (t.port n).queue = [] then .stopped else .running (s.tables.timing.get 6).duration 0) ∧
        t.outer = s.outer ∧ t.consoleSide = s.consoleSide))

/-! ### Channels, heads and layouts -/

/-- A frame start marker takes a channel from NO_SIGNAL to MEASURING with its loss timer at 200 ms; a later one completes a
frame: a usable size that repeats locks a measuring channel or, in LOCKED, compares signatures, counting equal frames up to 4095
and setting STILL at the threshold, SOURCE_STILL being raised exactly as STILL goes from clear to set; another size measures again,
and an unusable frame measures with size 0 (R126 to R132). An expiry of the loss timer that has reached its 200 ms returns the channel
to NO_SIGNAL with every value 0, raising SOURCE_LOST from LOCKED (R130). That another expiry changes nothing, and that a marker
brings the whole frame and its period with it, is the model's choice (L3, L16). -/
def Obligations.ChannelsMeasureLockAndLose : Prop :=
  ∀ (s : State) (n : SourceIx) (period : Fin 200000) (f : Frame), s.taking = true →
    ∃ t, exec (.frameStart n period f) s = .next t ∧ t.pending = s.pending ∧ t.tables = s.tables ∧
      (∀ m, m ≠ n → t.channel m = s.channel m) ∧ (t.channel n).lossTimer = .running 200 0 ∧
      (let taken : State := { s with channels := s.channels.put n (t.channel n) }
       t = if (t.channel n).still = true ∧ (s.channel n).still = false then taken.raiseEvent .sourceStill else taken) ∧
      ((s.channel n).lock = .noSignal →
        t.channel n = { s.channel n with lock := .measuring, lossTimer := .running 200 0 }) ∧
      ((s.channel n).lock ≠ .noSignal → (t.channel n).period = period.val ∧ (t.channel n).signature = frameSignature f) ∧
      ((s.channel n).lock ≠ .noSignal → frameSize f = none →
        (t.channel n).lock = .measuring ∧ (t.channel n).width = 0 ∧ (t.channel n).height = 0 ∧ (t.channel n).still = false) ∧
      (∀ w h, frameSize f = some (w, h) → (s.channel n).lock = .measuring → (s.channel n).width = w → (s.channel n).height = h →
        (t.channel n).lock = .locked ∧ (t.channel n).stillCount = 0 ∧ (t.channel n).still = false) ∧
      (∀ w h, frameSize f = some (w, h) → (s.channel n).lock ≠ .noSignal → (s.channel n).width ≠ w ∨ (s.channel n).height ≠ h →
        (t.channel n).lock = .measuring ∧ (t.channel n).width = w ∧ (t.channel n).height = h ∧ (t.channel n).still = false) ∧
      (∀ w h, frameSize f = some (w, h) → (s.channel n).lock = .locked → (s.channel n).width = w → (s.channel n).height = h →
        (t.channel n).lock = .locked ∧
        (t.channel n).stillCount =
          (if frameSignature f = (s.channel n).signature then min ((s.channel n).stillCount + 1) 4095 else 0) ∧
        ((t.channel n).still = true ↔
          (s.source n).stillThreshold ≠ 0 ∧ (s.source n).stillThreshold ≤ (t.channel n).stillCount)) ∧
      ((s.channel n).lossTimer.due = true → ∃ t', exec (.lossTimerExpiry n) s = .next t' ∧
        t'.channel n = Channel.reset ∧ (∀ m, m ≠ n → t'.channel m = s.channel m) ∧
        t' = (if (s.channel n).lock = .locked then State.raiseEvent { s with channels := s.channels.put n Channel.reset } .sourceLost
          else { s with channels := s.channels.put n Channel.reset })) ∧
      ((s.channel n).lossTimer.due = false → exec (.lossTimerExpiry n) s = .next s)

/-- A vertical blanking of a running display head with nothing armed takes new samples at the values the head runs at, and
changes nothing else; one of running DS takes the requested selection, and the values of a share head record written since (R139,
R157, R158); a head that does not run has none, which the part leaves unchanged (the model's choice, L17). A sample holds the active
layout, every source and slot, the focus, the blink phase, the appearance, P, and the overlay cursor's sprite (R139, R117, R155; that
it holds sources not shown too is the model's choice, L29). The picture a head sends is composed from its sample: the cursor over a
tile's border or content, or BACKGROUND (R151 to R155), and DS's picture is the selected display's scaled, its withheld tiles PRIVACY,
its cursor drawn only with the share-cursor flag set (R158, R159). -/
def Obligations.HeadsSampleAtTheirBlanking : Prop :=
  (∀ s : State, s.taking = true →
    (∀ d, (s.cmp.heads.get d).running = false → exec (.verticalBlanking (.display d)) s = .next s) ∧
    (s.cmp.ds.running = false → exec (.verticalBlanking .share) s = .next s) ∧
    (∀ d, (s.cmp.heads.get d).running = true → s.cmp.armed.get d = none →
      let head : Head := ⟨true, (s.cmp.active.displays.get d).values, (s.cmp.heads.get d).values, some (s.sample (some d))⟩
      exec (.verticalBlanking (.display d)) s = .next { s with cmp := { s.cmp with heads := s.cmp.heads.put d head } }) ∧
    (s.cmp.ds.running = true →
      let values := if s.cmp.shareWritten = true then
        (match s.tables.shareRecord with | some p => s.tables.profiles.get p | none => s.cmp.ds.values) else s.cmp.ds.values
      ∃ t, exec (.verticalBlanking .share) s = .next t ∧ t.cmp.selection = s.cmp.requested ∧ t.cmp.shareWritten = false ∧
        t.cmp.ds = ⟨true, values, s.cmp.ds.values, some (t.sample s.cmp.requested)⟩ ∧
        t = { s with cmp := { s.cmp with selection := s.cmp.requested, shareWritten := false, ds := t.cmp.ds } })) ∧
  -- samples
  (∀ (s : State) (shown : Option DisplayIx),
    let p := s.sample shown
    p.layout = s.cmp.active ∧ p.focus = s.fc.focus ∧ p.blink = s.cmp.blink ∧ p.colors = s.tables.colors ∧
    p.sprites = s.tables.sprites ∧ p.hotSpots = s.tables.hotSpots ∧ p.shareCursor = s.tables.shareCursor ∧ p.px = s.gu.px ∧
    p.py = s.gu.py ∧ p.selection = shown ∧
    (∀ n, (p.sources.get n).bound = (s.source n).bound ∧
      ((p.sources.get n).locked = true ↔ (s.channel n).lock = .locked) ∧ (p.sources.get n).width = (s.channel n).width ∧
      (p.sources.get n).height = (s.channel n).height ∧ (p.sources.get n).still = (s.channel n).still ∧
      (p.sources.get n).frame = (s.channel n).frame) ∧
    (∀ n, (p.slots.get n).link = s.link n ∧ (p.slots.get n).inputAllowed = (s.access n).inputAllowed ∧
      (p.slots.get n).shareAllowed = (s.access n).shareAllowed ∧
      ((p.slots.get n).mark = .attended ↔ ∃ top rest, s.atu.stack = top :: rest ∧ top.slot = n) ∧
      ((p.slots.get n).mark = .showing ↔ (∀ top rest, s.atu.stack = top :: rest → top.slot ≠ n) ∧
        ∃ a ∈ s.atu.alerts, a.slot = n ∧ ∀ top rest, s.atu.stack = top :: rest → top.level < a.level)) ∧
    (shown = none → p.cursor = none) ∧
    ∀ d, shown = some d →
      let within : Prop := ∃ r, (s.cmp.active.displays.get d).rect = some r ∧ r.holds s.gu.px s.gu.py = true
      (¬within → p.cursor = none) ∧
      (within → (s.cmp.active.tileAt s.gu.px s.gu.py = none → p.cursor = some .gap) ∧
        ∀ i, s.cmp.active.tileAt s.gu.px s.gu.py = some i →
          (s.tileSlot i = none → p.cursor = some .blocked) ∧
          ∀ n, s.tileSlot i = some n →
            let barred : Prop := s.tileMode i = .none ∨ (s.access n).inputAllowed = false
            (barred → p.cursor = some .blocked) ∧ (¬barred → s.link n ≠ .active → p.cursor = some .waiting) ∧
            (¬barred → s.link n = .active →
              ((s.cmp.active.tiles.get i).cursorMode = .overlay → p.cursor = some .normal) ∧
              ((s.cmp.active.tiles.get i).cursorMode = .own → p.cursor = none)))) ∧
  -- pictures
  (∀ (p : Sample) (d : DisplayIx) (col row : Nat),
    let covers (i : TileIx) : Prop :=
      let t := p.layout.tiles.get i
      t.enabled = true ∧ t.display = d ∧ t.x ≤ col ∧ col < t.x + t.w ∧ t.y ≤ row ∧ row < t.y + t.h
    ((∀ i, ¬covers i) → ∀ f, p.tileColor d f col row = p.colors.get 0) ∧
    (∀ i, covers i → (∀ j, j < i → ¬covers j) →
      let t := p.layout.tiles.get i
      let source := p.sources.get t.source
      let x := col - t.x
      let y := row - t.y
      let inBorder : Prop := x < t.border ∨ y < t.border ∨ t.w < x + 1 + t.border ∨ t.h < y + 1 + t.border
      let withheld : Prop := ∀ n, source.bound = some n → (p.slots.get n).shareAllowed = false
      let marked (m : Mark) : Prop := ∃ n, source.bound = some n ∧ (p.slots.get n).mark = m
      (withheld → p.tileColor d true col row = p.colors.get 7) ∧
      (¬withheld → p.tileColor d true col row = p.tileColor d false col row) ∧
      (inBorder →
        (marked .attended → p.tileColor d false col row = p.colors.get 4) ∧
        (marked .showing → p.tileColor d false col row = p.colors.get (if p.blink = true then 3 else 1)) ∧
        (¬marked .attended → ¬marked .showing →
          (source.still = true → p.tileColor d false col row = p.colors.get 5) ∧
          (source.still = false → p.tileColor d false col row =
            p.colors.get (if source.bound.isSome = true ∧ source.bound = p.focus then 2 else 1)))) ∧
      (¬inBorder →
        (source.locked = false → p.tileColor d false col row = p.colors.get 6) ∧
        (source.locked = true → p.tileColor d false col row =
          ((source.frame.getD (y * source.height / t.h) []).getD (x * source.width / t.w) ⟨0, 0, 0⟩)))) ∧
    (p.cursor = none → p.displayPixel d col row = p.tileColor d false col row) ∧
    (∀ k, p.cursor = some k →
      let number : Nat := match k with | .normal => 0 | .waiting => 1 | .blocked => 2 | .gap => 3
      let spot := p.hotSpots.get k.number
      let c : Int := col - (p.px - (p.layout.displays.get d).record.ox - spot.hx)
      let r : Int := row - (p.py - (p.layout.displays.get d).record.oy - spot.hy)
      k.number.val = number ∧
      (¬(0 ≤ c ∧ c < 32 ∧ 0 ≤ r ∧ r < 32) → p.displayPixel d col row = p.tileColor d false col row) ∧
      ∀ (u v : Nat) (group byteAt : Fin 32), c = u → r = v → u < 32 → v < 32 → group.val = 8 * number + v / 4 →
        byteAt.val = 8 * (v % 4) + u / 4 → p.displayPixel d col row =
          match ((p.sprites.get group).get byteAt).toNat / 4 ^ (u % 4) % 4 with
          | 1 => p.colors.get 8
          | 2 => p.colors.get 9
          | 3 => p.colors.get 10
          | _ => p.tileColor d false col row)) ∧
  (∀ (p : Sample) (v : FrameValues) (col row : Nat),
    (p.selection = none → p.sharePixel v col row = p.colors.get 0) ∧
    ∀ d, p.selection = some d →
      let shown := (p.layout.displays.get d).values
      let x := col * shown.width / v.width
      let y := row * shown.height / v.height
      ((p.layout.displays.get d).record.profile = none → p.sharePixel v col row = p.colors.get 0) ∧
      ((p.layout.displays.get d).record.profile ≠ none →
        (p.shareCursor = false ∨ p.cursor = none → p.sharePixel v col row = p.tileColor d true x y) ∧
        (p.shareCursor = true → (p.cursorColor d x y = none → p.sharePixel v col row = p.tileColor d true x y) ∧
          ∀ c, p.cursorColor d x y = some c → p.sharePixel v col row = c ∧ p.displayPixel d x y = c))) ∧
  ∀ (s : State) (col row : Nat),
    (∀ d p, (s.cmp.heads.get d).running = true → (s.cmp.heads.get d).sample = some p →
      col < (s.cmp.heads.get d).values.width → row < (s.cmp.heads.get d).values.height →
      s.headPixel (.display d) col row = some (p.displayPixel d col row)) ∧
    (∀ d, (s.cmp.heads.get d).running = false → s.headPixel (.display d) col row = none) ∧
    (∀ p, s.cmp.ds.running = true → s.cmp.ds.sample = some p → col < s.cmp.ds.values.width → row < s.cmp.ds.values.height →
      s.headPixel .share col row = some (p.sharePixel s.cmp.ds.values col row)) ∧
    (s.cmp.ds.running = false → s.headPixel .share col row = none)

/-- A vertical blanking of a running head whose display holds an armed layout activates, in one step, the armed layouts of its
group: the least set with the display (or with the displays that one COMMIT activates at once) that holds every display whose
active rectangle the new rectangle of another member would overlap (R148). Each such display's record, and the values its COMMIT read, become active, the tiles they claim take the armed
records, the enabled tiles they do not claim are disabled, the armed layouts end and LAYOUT_APPLIED is raised once; each such head goes
on, or starts, at the new values, blanking for the ones it had, or stops where the record is NONE (R139, R140, R147). Then, once for
each display activated, P is re-evaluated (R149; the number and order are the model's choice, L6): it is relocated to its place, or
to the centre of the lowest-numbered enabled display where one is enabled and P lies in none, and in FOLLOW mode the focus follows a
changed pointer slot (R59). -/
def Obligations.ArmedLayoutsApplyAtTheirBlanking : Prop :=
  (∀ (s : State) (d : DisplayIx) (a : ArmedLayout), s.taking = true → (s.cmp.heads.get d).running = true →
    s.cmp.armed.get d = some a →
    let group := s.cmp.group [d]
    ∃ u, exec (.verticalBlanking (.display d)) s =
        .next (State.reevaluate^[(group.filter fun e => (s.cmp.armed.get e).isSome).length] u) ∧ ActivatesGroup s u group) ∧
  (∀ (c : Cmp) (start : List DisplayIx),
    let rect (e : DisplayIx) : Option Rect := (c.active.displays.get e).rect
    let renewed (e : DisplayIx) : Option Rect := match c.armed.get e with | some a => a.display.rect | none => rect e
    let overlapped (g : List DisplayIx) (e : DisplayIx) : Prop := ∃ f ∈ g, f ≠ e ∧ ∃ p q x y, renewed f = some p ∧
      rect e = some q ∧ p.holds x y = true ∧ q.holds x y = true
    (∀ d ∈ start, d ∈ c.group start) ∧ (∀ e, overlapped (c.group start) e → e ∈ c.group start) ∧ (c.group start).Nodup ∧
    ∀ g : List DisplayIx, (∀ d ∈ start, d ∈ g) → (∀ e, overlapped g e → e ∈ g) → ∀ e ∈ c.group start, e ∈ g) ∧
  ∀ s : State,
    let relocated (x y : Int) : State :=
      let t := s.relocate x y
      if t.fc.follow = .follow ∧ t.gu.pointerSlot ≠ s.gu.pointerSlot ∧ t.gu.pointerSlot ≠ none
      then t.focusChange t.gu.pointerSlot else t
    (∀ d, s.cmp.active.displayAt s.gu.px s.gu.py = some d → s.reevaluate = relocated s.gu.px s.gu.py) ∧
    (∀ d r, s.cmp.active.displayAt s.gu.px s.gu.py = none → (s.cmp.active.displays.get d).rect = some r →
      (∀ e, e < d → (s.cmp.active.displays.get e).rect = none) → s.reevaluate = relocated (r.x + r.w / 2) (r.y + r.h / 2)) ∧
    ((∀ d, (s.cmp.active.displays.get d).rect = none) → s.reevaluate = relocated s.gu.px s.gu.py)

/-! ### Management requests -/

/-- What a slot's port does not take changes nothing: a request of any kind while the slot is not ACTIVE or its response queue
holds 4 (R93), and one too short for its header (R167; L19). An unknown kind, and a payload length that exceeds the report, are
answered with BAD_REQUEST and no other effect (R167, R168); that this holds of a WRITE that names no record too is the model's
choice (L15). -/
def Obligations.RequestsNotTakenOrRefused : Prop :=
  (∀ (c : Instr) (n : Slot) (s : State), c.sender = some n → s.link n ≠ .active ∨ 4 ≤ (s.port n).responses.length →
    exec c s = .next s) ∧
  (∀ (n : Slot) (kind : Byte) (report : List Byte) (s : State), report.length < 5 →
    exec (.unknownKind n kind report) s = .next s ∧ ∀ k ∈ requestKinds n, exec (k.2 report) s = .next s) ∧
  (∀ (n : Slot) (kind code view : Byte) (index : Half) (payload : List Byte) (s : State), OpenTo s n → payload.length < 256 →
    exec (.unknownKind n kind (requestBytes code index view payload)) s =
      .next (s.respond n ⟨.badRequest, kind, code, index, []⟩)) ∧
  ∀ (n : Slot) (code lo hi view len : Byte) (rest : List Byte) (s : State), OpenTo s n → rest.length < len.toNat →
    ∀ k ∈ requestKinds n, exec (k.2 (code :: lo :: hi :: view :: len :: rest)) s =
      .next (s.respond n ⟨.badRequest, k.1, code, hi ++ lo, []⟩)

/-- READ answers DONE with the record's bytes as it stands to a slot that holds the section's read right, or that reads
its own ACCESS or SLOTS record, and DENIED to any other; a section code above 7, an index that names no record and a bad
view are refused by name; no READ changes anything but the response queue (R168, R171, R172). -/
def Obligations.ReadAnswersTheRecord : Prop :=
  ∀ (s : State) (n : Slot) (code view : Byte) (index : Half), OpenTo s n →
    let request := Instr.read n (requestBytes code index view [])
    let answered (st : Status) (payload : List Byte) : Host.Outcome State Fault Refusal :=
      .next (s.respond n ⟨st, 1, code, index, payload⟩)
    (1 < view.toNat → exec request s = answered .badRequest []) ∧
    (view.toNat ≤ 1 → 7 < code.toNat → exec request s = answered .badSection []) ∧
    (view.toNat ≤ 1 → code.toNat ≤ 7 → recordAt code index.toNat = none → exec request s = answered .badIndex []) ∧
    ∀ x, view.toNat ≤ 1 → code.toNat ≤ 7 → recordAt code index.toNat = some x →
      let allowed := (s.access n).readRights.getLsbD code.toNat = true ∨
        ((code = 0 ∨ code = 1) ∧ index.toNat = n.val)
      (allowed → exec request s = answered .done (s.readRecord (view = 1) x)) ∧
      (¬allowed → exec request s = answered .denied [])

/-- R161, whole: a timing entry's duration is its unit, 1, 16 or 256 ms by prescale code 0, 1, or 2 and 3, times its count, a
constant of 0 counting 256, and lies within 1..65536, both reached; a WRITE of an entry of the TIMING section is not refused for
its value, replaces both fields of that one entry as written, and touches no running instance; READ returns both as
written; the end of a load and a desk restart install the loaded or defaulted entries; a link reset changes none. -/
def Obligations.TimingEntriesHoldUnitAndCount : Prop :=
  (∀ e : TimingEntry,
    e.duration = (match e.prescale.toNat with | 0 => 1 | 1 => 16 | _ => 256) *
      (if e.constant.toNat = 0 then 256 else e.constant.toNat) ∧ 1 ≤ e.duration ∧ e.duration ≤ 65536) ∧
  (TimingEntry.duration ⟨0, 1⟩ = 1 ∧ TimingEntry.duration ⟨2, 0⟩ = 65536 ∧ TimingEntry.duration ⟨3, 0⟩ = 65536) ∧
  (∀ (s : State) (n : Slot) (i : Fin 7) (p : BitVec 2) (c : Byte), OpenTo s n → (s.access n).writeRights.getLsbD 7 = true →
    exec (.write n (requestBytes 7 (BitVec.ofNat 16 i.val) 0 [p.setWidth 8, c])) s =
      .next (State.respond { s with tables := { s.tables with timing := s.tables.timing.put i ⟨p, c⟩ } } n
        ⟨.done, 2, 7, BitVec.ofNat 16 i.val, []⟩)) ∧
  (∀ (s : State) (n : Slot) (i : Fin 7), OpenTo s n → (s.access n).readRights.getLsbD 7 = true →
    exec (.read n (requestBytes 7 (BitVec.ofNat 16 i.val) 0 [])) s =
      .next (s.respond n ⟨.done, 1, 7, BitVec.ofNat 16 i.val,
        [(s.tables.timing.get i).prescale.setWidth 8, (s.tables.timing.get i).constant]⟩)) ∧
  (∀ (s : State) (img : Option (List Byte)), (s.powerOn img).tables.timing = (loadImage img).1.timing ∧
    s.deskRestart.tables.timing = (loadImage (judged s.pl.loadCopy)).1.timing ∧
    (loadImage none).1.timing = defaultTiming) ∧
  ∀ (s t : State) (n : Slot), exec (.busReset n) s = .next t ∨ exec (.busPowerLost n) s = .next t →
    t.tables.timing = s.tables.timing

/-- A WRITE with a bad view, a section code above 7, an index that names no record, a payload of another length, a missing write
right, or a payload that the record's rule refuses, is refused by its own status, with nothing changed (R168, R173). Otherwise it
stores one record, as its rule checks and clamps it, and answers DONE, with these effects beside: a slot's level moves its pending
alert (R118); a source shown in the current tile re-evaluates P (R59, R135; at every such write, the model's choice, L36); display and
tile records go to the pending layout (R141); a share head record of NONE stops DS, and one of a profile starts a stopped DS or is
taken at its next blanking (R157); a hotkey entry with the lead key is BAD_VALUE and one that collides CONFLICT (R26, R27); a lead key
that an entry holds is CONFLICT, and a change of it ends command mode (R27). A profile is clamped into its ranges, its width down to a
multiple of 8 (R138). A hotkey entry is normalised, and refused for a key code outside 4 to 223, Escape in a COMMAND entry, an unknown
action or an argument the action does not take (R25, R26). Which status answers a write that is wrong in two ways, and that a record
without a second view is written in either view, is read from R171 (L15). -/
def Obligations.WriteChecksAndStores : Prop :=
  (∀ (s : State) (n : Slot) (code view : Byte) (index : Half) (payload : List Byte), OpenTo s n → payload.length ≤ 58 →
    let request := Instr.write n (requestBytes code index view payload)
    let answered (x : State) (st : Status) : Host.Outcome State Fault Refusal := .next (x.respond n ⟨st, 2, code, index, []⟩)
    let refused := answered s .badValue
    (1 < view.toNat → exec request s = answered s .badRequest) ∧
    (view.toNat ≤ 1 → 7 < code.toNat → exec request s = answered s .badSection) ∧
    (view.toNat ≤ 1 → code.toNat ≤ 7 → recordAt code index.toNat = none → exec request s = answered s .badIndex) ∧
    ∀ x, code.toNat ≤ 7 → recordAt code index.toNat = some x →
      let staged : Prop := (∃ d, x = .display d) ∨ ∃ i, x = .tile i
      (view = 1 → staged → exec request s = answered s .badRequest) ∧
      (view.toNat ≤ 1 → payload.length ≠ x.size → exec request s = answered s .badRequest) ∧
      (view = 0 ∨ view = 1 ∧ ¬staged →
        (payload.length = x.size → (s.access n).writeRights.getLsbD code.toNat = false → exec request s = answered s .denied) ∧
        (payload.length = x.size → (s.access n).writeRights.getLsbD code.toNat = true →
          (∀ w w' h h' r p, payload = [w, w', h, h', r] → x = .profile p →
            let values : FrameValues :=
              ⟨(max 640 (min 3840 (half w w'))) / 8 * 8, max 480 (min 2160 (half h h')), max 24 (min 144 r.toNat)⟩
            exec request s = answered { s with
              tables := { s.tables with profiles := s.tables.profiles.put p values } } .done) ∧
          (∀ k e, x = .hotkey k → hotkeyOf payload = some e →
            (e.key = s.tables.leadKey → exec request s = refused) ∧
            (e.key ≠ s.tables.leadKey → anyCollision (s.tables.hotkeys.put k e).toList = true →
              exec request s = answered s .conflict) ∧
            (e.key ≠ s.tables.leadKey → anyCollision (s.tables.hotkeys.put k e).toList = false →
              exec request s = answered { s with tables := { s.tables with hotkeys := s.tables.hotkeys.put k e } } .done)) ∧
          (∀ k, x = .hotkey k → hotkeyOf payload = none → exec request s = refused) ∧
          (∀ c r g b, x = .color c → payload = [r, g, b] → exec request s = answered { s with
            tables := { s.tables with colors := s.tables.colors.put c ⟨r, g, b⟩ } } .done) ∧
          (∀ m, x = .slot m → (slotRecordOf payload = none → exec request s = refused) ∧
            ∀ r, slotRecordOf payload = some r → ∃ alerts, exec request s = answered { s with
                tables := { s.tables with slots := s.tables.slots.put m r }, atu := { s.atu with alerts := alerts } } .done ∧
              (s.atu.isPending m = false → alerts = s.atu.alerts) ∧
              (s.atu.isPending m = true → ∀ a, a ∈ alerts ↔ (a ∈ s.atu.alerts ∧ a.slot ≠ m) ∨ a = ⟨m, r.level⟩) ∧
              (s.atu.alerts.Pairwise (fun a b => a.before b = true) → alerts.Pairwise fun a b => a.before b = true)) ∧
          (∀ m, x = .source m → (sourceRecordOf payload = none → exec request s = refused) ∧
            ∀ r, sourceRecordOf payload = some r →
              let stored : State := { s with tables := { s.tables with sources := s.tables.sources.put m r } }
              let moved := stored.relocate s.gu.px s.gu.py
              ((∀ i, s.gu.tile = some i → (s.cmp.active.tiles.get i).source ≠ m) → exec request s = answered stored .done) ∧
              (∀ i, s.gu.tile = some i → (s.cmp.active.tiles.get i).source = m → exec request s = answered
                (if moved.fc.follow = .follow ∧ moved.gu.pointerSlot ≠ s.gu.pointerSlot ∧ moved.gu.pointerSlot ≠ none
                  then moved.focusChange moved.gu.pointerSlot else moved) .done)) ∧
          (∀ d, x = .display d → (displayRecordOf payload = none → exec request s = refused) ∧
            ∀ r, displayRecordOf payload = some r → exec request s = answered { s with
              cmp := { s.cmp with layout := { s.cmp.layout with displays := s.cmp.layout.displays.put d r } } } .done) ∧
          (∀ i, x = .tile i → (tileRecordOf payload = none → exec request s = refused) ∧
            ∀ r, tileRecordOf payload = some r → exec request s = answered { s with
              cmp := { s.cmp with layout := { s.cmp.layout with tiles := s.cmp.layout.tiles.put i r } } } .done) ∧
          (x = .shareHead → (shareRecordOf payload = none → exec request s = refused) ∧
            ∀ r, shareRecordOf payload = some r →
              let stored : State := { s with tables := { s.tables with shareRecord := r } }
              (r = none → exec request s = answered { stored with
                cmp := { s.cmp with ds := Head.stopped, shareWritten := false } } .done) ∧
              (r ≠ none → s.cmp.ds.running = true →
                exec request s = answered { stored with cmp := { s.cmp with shareWritten := true } } .done) ∧
              (∀ p, r = some p → s.cmp.ds.running = false → exec request s = answered { stored with cmp := { s.cmp with
                selection := s.cmp.requested
                shareWritten := false
                ds := ⟨true, s.tables.profiles.get p, s.tables.profiles.get p, some (s.sample s.cmp.requested)⟩ } } .done)) ∧
          (∀ p d, x = .presetDisplay p d → (displayRecordOf payload = none → exec request s = refused) ∧
            ∀ r, displayRecordOf payload = some r → exec request s = answered { s with
              tables := { s.tables with presets := s.tables.presets.put p { s.tables.presets.get p with
                displays := (s.tables.presets.get p).displays.put d r } } } .done) ∧
          (∀ p i, x = .presetTile p i → (tileRecordOf payload = none → exec request s = refused) ∧
            ∀ r, tileRecordOf payload = some r → exec request s = answered { s with
              tables := { s.tables with presets := s.tables.presets.put p { s.tables.presets.get p with
                tiles := (s.tables.presets.get p).tiles.put i r } } } .done) ∧
          (∀ k, x = .window k → (windowOf payload = none → exec request s = refused) ∧
            ∀ r, windowOf payload = some r → exec request s = answered { s with
              tables := { s.tables with windows := s.tables.windows.put k r } } .done) ∧
          (x = .general → (generalOf payload = none → exec request s = refused) ∧
            ∀ g, generalOf payload = some g →
              let stored (y : State) : State := { y with
                tables := { s.tables with leadKey := g.leadKey, deskSpeed := g.deskSpeed, startSlot := g.startSlot }
                fc := { s.fc with follow := g.follow } }
              ((∃ e ∈ s.tables.hotkeys.toList, e.key = g.leadKey) → exec request s = answered s .conflict) ∧
              ((∀ e ∈ s.tables.hotkeys.toList, e.key ≠ g.leadKey) →
                (g.leadKey = s.tables.leadKey → exec request s = answered (stored s) .done) ∧
                (g.leadKey ≠ s.tables.leadKey → exec request s = answered (stored { s with
                  hkm := .normal
                  bank := { s.bank with t0 := .stopped, t1 := .stopped }
                  ciu := s.ciu.compose s.focusLeds }) .done))) ∧
          (∀ g r, x = .spriteRows g → payload = Vector.toList r → exec request s = answered { s with
            tables := { s.tables with sprites := s.tables.sprites.put g r } } .done) ∧
          (∀ k a b, x = .hotSpot k → payload = [a, b] → exec request s = answered { s with
            tables := { s.tables with hotSpots := s.tables.hotSpots.put k ⟨min 31 a.toNat, min 31 b.toNat⟩ } } .done) ∧
          (∀ b, x = .shareCursor → payload = [b] → exec request s = answered { s with
            tables := { s.tables with shareCursor := b.getLsbD 0 } } .done)))) ∧
  ∀ f m k a g : Byte,
    let command : Prop := f.getLsbD 1 = true
    let taken : Prop := (a = 0 ∧ g.toNat < 8) ∨ (a = 5 ∧ (g.toNat < 8 ∨ g = 0xFE)) ∨ (a = 7 ∧ g.toNat < 4) ∨
      (a = 10 ∧ (g.toNat < 4 ∨ g = 0xFF)) ∨ (a ≠ 0 ∧ a ≠ 5 ∧ a ≠ 7 ∧ a ≠ 10 ∧ a.toNat < 12)
    (hotkeyOf [f, m, k, a, g] = none ↔ ¬taken ∨ ¬UsableKey k ∨ (command ∧ k = 41)) ∧
    ∀ e, hotkeyOf [f, m, k, a, g] = some e →
      e.enabled = f.getLsbD 0 ∧ e.key = k ∧ (command → e.kind = .command ∧ e.mods = 0 ∧ e.sideFree = false ∧ e.stay = f.getLsbD 3) ∧
      (¬command → e.kind = .chord ∧ e.mods = m ∧ e.sideFree = f.getLsbD 2 ∧ e.stay = false) ∧
      [Action.select, .next, .previous, .attend, .dismiss, .wake, .wakeAll, .preset, .glideLock, .follow, .share,
        .passNext][a.toNat]? = some e.action ∧
      (a = 0 ∨ a = 5 ∨ a = 7 ∨ a = 10 →
        (∀ i : Fin 8, g.toNat = i.val → e.argument = .number i) ∧ (g = 0xFE → e.argument = .focus) ∧
          (g = 0xFF → e.argument = .off)) ∧
      (a ≠ 0 → a ≠ 5 → a ≠ 7 → a ≠ 10 → e.argument = .none)

/-- A WRITE of an access entry is refused with CONFLICT when no slot would then hold the ACCESS write right; otherwise the whole
entry is replaced and no other table: where INPUT_ALLOWED is not removed, nothing else changes but the slot's event set, emptied
when EVENTS is granted or removed (R170); where it is removed, the slot's sent image and delivered buttons become empty (R23,
R60). -/
def Obligations.AccessWritesKeepAWriter : Prop :=
  ∀ (s : State) (n m : Slot) (r w f : Byte), OpenTo s n → (s.access n).writeRights.getLsbD 0 = true →
    let request := Instr.write n (requestBytes 0 (BitVec.ofNat 16 m.val) 0 [r, w, f])
    let answered (x : State) (st : Status) : Host.Outcome State Fault Refusal :=
      .next (x.respond n ⟨st, 2, 0, BitVec.ofNat 16 m.val, []⟩)
    let entry : AccessEntry := ⟨r, w, f.getLsbD 0, f.getLsbD 1, f.getLsbD 2, f.getLsbD 3, f.getLsbD 4⟩
    let stored : State := { s with tables := { s.tables with access := s.tables.access.put m entry } }
    ((∀ i, (if i = m then w else (s.access i).writeRights).getLsbD 0 = false) → exec request s = answered s .conflict) ∧
    ((∃ i, (if i = m then w else (s.access i).writeRights).getLsbD 0 = true) →
      (s.access m).inputAllowed = false ∨ f.getLsbD 1 = true →
      exec request s = answered (if (s.access m).events = f.getLsbD 4 then stored
        else { stored with mgi := { s.mgi with events := s.mgi.events.put m 0 } }) .done) ∧
    ((∃ i, (if i = m then w else (s.access i).writeRights).getLsbD 0 = true) →
      (s.access m).inputAllowed = true → f.getLsbD 1 = false →
      ∃ t, exec request s = answered t .done ∧ t.tables = stored.tables ∧ t.sent m = KeyImage.empty ∧ t.delivered m = 0)

/-- COMMIT of an empty mask changes nothing and answers DONE; one whose future layout would overlap answers CONFLICT and changes
nothing; otherwise it arms each masked display with its pending record, the profile's values read now and the pending tiles that name
it as clipped, takes those claims from the other armed layouts, and writes clips and moves back (R142, R144 to R146, R174). With every
masked display enabled in the active layout and in the pending one, it answers ARMED, activates nothing and leaves the active layout.
The masked displays that are NONE in the active layout or in the pending one are activated at once, in one step with the group they
begin, their heads starting or stopping and LAYOUT_APPLIED raised once, and a re-evaluation of P follows for each display activated
(R140, R146 to R149; their order, ascending, cannot show, and that samples come before them is the model's choice, L6); it then
answers ARMED when a masked display is left waiting for its blanking, and DONE when none is. Without MANAGE_ACTIONS it is DENIED. -/
def Obligations.CommitArmsTheMaskedDisplays : Prop :=
  ∀ (s : State) (n : Slot) (b : Byte), OpenTo s n →
    let request := Instr.commit n (requestBytes 0 0 0 [b])
    let answered (x : State) (st : Status) : Host.Outcome State Fault Refusal := .next (x.respond n ⟨st, 3, 0, 0, []⟩)
    let mask : DisplayIx → Bool := fun d => b.getLsbD d.val
    let clipped := clipLayout s.tables.profiles mask s.cmp.layout
    let armed : Table (Option ArmedLayout) 4 := Table.tab fun d =>
      if mask d then some ⟨⟨clipped.displays.get d, profileValues s.tables.profiles (clipped.displays.get d)⟩,
        Table.tab fun i => if (clipped.tiles.get i).display = d then some (clipped.tiles.get i) else none⟩
      else (s.cmp.armed.get d).map fun a =>
        { a with claims := Table.tab fun i => if mask (clipped.tiles.get i).display then none else a.claims.get i }
    let ready : State := { s with cmp := { s.cmp with layout := clipped, armed := armed } }
    let atOnce (d : DisplayIx) : Prop := mask d = true ∧
      ((s.cmp.active.displays.get d).record.profile = none ∨ (s.cmp.layout.displays.get d).profile = none)
    ((s.access n).manageActions = false → exec request s = answered s .denied) ∧
    ((s.access n).manageActions = true →
      ((s.cmp.future s.tables.profiles mask clipped).conflicts = true → exec request s = answered s .conflict) ∧
      ((s.cmp.future s.tables.profiles mask clipped).conflicts = false →
        ((∀ d, mask d = false) → exec request s = answered s .done) ∧
        ((∃ d, mask d = true) → (∀ d, ¬atOnce d) → exec request s = answered ready .armed) ∧
        ((∃ d, atOnce d) → ∃ (start : List DisplayIx) (u : State), (∀ d, d ∈ start ↔ atOnce d) ∧
          let group := ready.cmp.group start
          let after := State.reevaluate^[(group.filter fun e => (armed.get e).isSome).length] u
          ActivatesGroup ready u group ∧
          ((∃ d, mask d = true ∧ d ∉ group) → exec request s = answered after .armed) ∧
          ((∀ d, mask d = true → d ∈ group) → exec request s = answered after .done))))

/-- SHARE of a display, or of OFF, sets the requested selection while DS runs, and the selection at once while it does not, and
answers DONE; a value that is neither is refused with BAD_VALUE, and a slot without MANAGE_ACTIONS with DENIED (R158, R175). -/
def Obligations.ShareRequestsASelection : Prop :=
  ∀ (s : State) (n : Slot), OpenTo s n →
    let answered (x : State) (st : Status) : Host.Outcome State Fault Refusal := .next (x.respond n ⟨st, 6, 0, 0, []⟩)
    let shared (d : Option DisplayIx) : State := { s with cmp :=
      if s.cmp.ds.running = true then { s.cmp with requested := d } else { s.cmp with requested := d, selection := d } }
    (∀ b, (s.access n).manageActions = false → exec (.share n (requestBytes 0 0 0 [b])) s = answered s .denied) ∧
    ((s.access n).manageActions = true →
      (∀ d : DisplayIx, exec (.share n (requestBytes 0 0 0 [byte d.val])) s = answered (shared (some d)) .done) ∧
      exec (.share n (requestBytes 0 0 0 [0xFF])) s = answered (shared none) .done ∧
      ∀ b : Byte, 3 < b.toNat → b ≠ 0xFF → exec (.share n (requestBytes 0 0 0 [b])) s = answered s .badValue)

/-- R177, whole: RAISE acts on the sending slot's own alert as R115 says and answers DENIED, HELD or DONE; WITHDRAW removes
its own pending entry as R116 says and answers DONE; neither takes a payload, a request that carries one being refused, and
neither can name another slot: whatever its section, index and view fields hold, they are ignored and it touches no other alert. -/
def Obligations.RaiseAndWithdrawActOnTheSender : Prop :=
  ∀ (s : State) (n : Slot) (code view : Byte) (index : Half), OpenTo s n →
    let answered (x : State) (kind : Byte) (st : Status) : Host.Outcome State Fault Refusal :=
      .next (x.respond n ⟨st, kind, code, index, []⟩)
    let raised := exec (.raise n (requestBytes code index view [])) s
    let withdrawn : State := { s with atu := { s.atu with alerts := removeAlert n s.atu.alerts } }
    ((s.access n).attentionAllowed = false → raised = answered s 7 .denied) ∧
    ((s.access n).attentionAllowed = true → s.atu.isStacked n = true → raised = answered s 7 .held) ∧
    ((s.access n).attentionAllowed = true → s.atu.isStacked n = false → s.atu.isPending n = true →
      raised = answered s 7 .done) ∧
    ((s.access n).attentionAllowed = true → s.atu.isStacked n = false → s.atu.isPending n = false →
      ∃ t, raised = answered t 7 .done ∧
        (∀ a, a ∈ t.atu.alerts ↔ a ∈ s.atu.alerts ∨ a = ⟨n, (s.slotRecord n).level⟩) ∧
        (s.atu.alerts.Pairwise (fun a b => a.before b = true) → t.atu.alerts.Pairwise (fun a b => a.before b = true)) ∧
        t = State.raiseEvent { s with atu := { s.atu with alerts := t.atu.alerts } } .alertRaised) ∧
    exec (.withdraw n (requestBytes code index view [])) s = answered withdrawn 8 .done ∧
    (∀ a, a ∈ withdrawn.atu.alerts ↔ a ∈ s.atu.alerts ∧ a.slot ≠ n) ∧
    ∀ (b : Byte) (l : List Byte), (b :: l).length ≤ 58 →
      exec (.raise n (requestBytes code index view (b :: l))) s = answered s 7 .badRequest ∧
      exec (.withdraw n (requestBytes code index view (b :: l))) s = answered s 8 .badRequest

/-- STATUS of page 0 takes a new snapshot of the state, answers with its 17 bytes, the slot's event set first, and empties
that set; pages 1 to 3 answer from the snapshot held, or from one taken now without touching the event set; another page is
BAD_INDEX, and a channel group above 3 BAD_VALUE (R180, R192). That page 0 shows an empty delivered button set where the pointer
slot is NONE, for which the rules give no value, is the model's choice (L37). -/
def Obligations.StatusAnswersFromASnapshot : Prop :=
  ∀ (s : State) (n : Slot) (view : Byte) (page : Half), OpenTo s n →
    let request := Instr.status n (requestBytes 0 page view [])
    let answered (x : State) (st : Status) (payload : List Byte) : Host.Outcome State Fault Refusal :=
      .next (x.respond n ⟨st, 9, 0, page, payload⟩)
    let held : State := { s with mgi := { s.mgi with snapshots := s.mgi.snapshots.put n (some (s.snapshot n)) } }
    let current := (s.mgi.snapshots.get n).getD (s.snapshot n)
    let kept := if (s.mgi.snapshots.get n).isSome then s else held
    let low (k : Nat) : Byte := BitVec.ofNat 8 (k % 256)
    let high (k : Nat) : Byte := BitVec.ofNat 8 (k / 256 % 256)
    let number {k : Nat} (x : Option (Fin k)) : Byte := match x with | some i => low i.val | none => 0xFF
    let bit (b : Bool) (k : Nat) : Nat := if b = true then k else 0
    let px := s.gu.px % 65536
    let py := s.gu.py % 65536
    let armed (d : DisplayIx) : Nat := bit (s.cmp.armed.get d).isSome (2 ^ d.val)
    (page.toNat = 0 → exec request s = answered { s with mgi := { held.mgi with events := s.mgi.events.put n 0 } } .done
      [low (s.mgi.events.get n).toNat, high (s.mgi.events.get n).toNat, low s.mgi.startCount.toNat, high s.mgi.startCount.toNat,
        low n.val, number s.fc.focus,
        low (bit (decide (s.fc.follow = .separate)) 1 + bit s.fc.passNext 2 + bit s.gu.glideLock 4 +
          match s.pl.loader with | .saving _ => 8 | .loading | .idle => 0),
        (match s.hkm with | .normal => 0 | .leadOne => 1 | .command => 2),
        low px.toNat, high px.toNat, low py.toNat, high py.toNat, number s.gu.pointerSlot,
        (match s.gu.pointerSlot with | some p => low (s.delivered p).toNat | none => 0), number s.cmp.selection,
        low (armed 0 + armed 1 + armed 2 + armed 3), s.pl.defaulted]) ∧
    (page.toNat = 1 → exec request s = answered kept .done current.slotPage ∧ current.slotPage.length = 40) ∧
    (page.toNat = 2 → exec request s = answered kept .done current.attention) ∧
    (page.toNat = 3 → view.toNat ≤ 3 →
      exec request s = answered kept .done (current.channelPage view.toNat) ∧
        (current.channelPage view.toNat).length = 56) ∧
    (page.toNat = 3 → 3 < view.toNat → exec request s = answered s .badValue []) ∧
    (3 < page.toNat → exec request s = answered s .badIndex [])

/-- SAVE takes a copy of the sections and answers STARTED, and BUSY while a save runs; RESTART carries out the desk restart and
answers DONE, and BUSY while a save runs: the desk start count goes up by 1, every snapshot and event is gone but a
PROFILE_DEFAULTED, the focus is the start slot loaded, every response queue is empty but for the sender's one answer, and
every channel has no signal; the links that are not RESUMING, the console's image, the flash and the load copy stay (R95, R178,
R186, R188). Without MANAGE_ACTIONS both are DENIED. -/
def Obligations.SaveAndRestartAreTaken : Prop :=
  ∀ (s : State) (n : Slot), OpenTo s n →
    let saveRequest := Instr.save n (requestBytes 0 0 0 [])
    let restartRequest := Instr.restart n (requestBytes 0 0 0 [])
    let answered (x : State) (kind : Byte) (st : Status) : Host.Outcome State Fault Refusal :=
      .next (x.respond n ⟨st, kind, 0, 0, []⟩)
    ((s.access n).manageActions = false →
      exec saveRequest s = answered s 10 .denied ∧ exec restartRequest s = answered s 11 .denied) ∧
    ((s.access n).manageActions = true → ∀ x, s.pl.loader = .saving x →
      exec saveRequest s = answered s 10 .busy ∧ exec restartRequest s = answered s 11 .busy) ∧
    ((s.access n).manageActions = true → s.pl.loader = .idle →
      exec saveRequest s = answered { s with pl := { s.pl with loader := .saving .erase, saveBuffer := s.buildImage } } 10 .started ∧
      ∃ t, exec restartRequest s = .next t ∧ t.mgi.startCount = s.mgi.startCount + 1 ∧
        (∀ m, t.mgi.snapshots.get m = none) ∧
        (∀ m, t.mgi.events.get m = if t.pl.defaulted ≠ 0 ∧ (t.access m).events = true then 4096 else 0) ∧
        t.tables = tablesOf (loadImage (judged s.pl.loadCopy)).1 ∧
        t.fc.focus = some t.tables.startSlot ∧ t.fc.held = [] ∧ t.hkm = .normal ∧
        (∀ m, (t.port m).responses = if m = n then [⟨.done, 11, 0, 0, []⟩] else []) ∧
        (∀ m, t.link m = if s.link m = .resuming then .suspended else s.link m) ∧
        (∀ m, t.wake m = WakeRecord.reset ∧ t.sent m = KeyImage.empty ∧ t.delivered m = 0) ∧
        t.atu.alerts = [] ∧ t.atu.stack = [] ∧ (∀ c, t.channel c = Channel.reset) ∧
        t.ciu.mods = s.ciu.mods ∧ t.ciu.keys = s.ciu.keys ∧ t.ciu.buttons = s.ciu.buttons ∧
        t.flash = s.flash ∧ t.pl.loadCopy = s.pl.loadCopy ∧ t.pl.loader = .idle ∧ t.pending = s.pending)

/-- Access, slot, source, display, tile, profile, hotkey, window, general, hot spot and timing records read back as they are
written: decoding a record's bytes gives the record, for every value its fields admit (R189, R191). -/
def Obligations.RecordsReadBackAsWritten : Prop :=
  (∀ e : AccessEntry, accessOf e.bytes = some e) ∧
  (∀ r : SlotRecord, 1 ≤ r.gain → r.gain ≤ 64 → r.blocked.length ≤ 4 →
    (∀ c ∈ r.blocked, 4 ≤ c.key.toNat ∧ c.key.toNat ≤ 223) → slotRecordOf r.bytes = some r) ∧
  (∀ r : SourceRecord, r.ax0 < r.ax1 → r.ax1 ≤ 32767 → r.ay0 < r.ay1 → r.ay1 ≤ 32767 → r.stillThreshold ≤ 4095 →
    sourceRecordOf r.bytes = some r) ∧
  (∀ r : DisplayRecord, -4096 ≤ r.ox → r.ox ≤ 4095 → -4096 ≤ r.oy → r.oy ≤ 4095 → displayRecordOf r.bytes = some r) ∧
  (∀ t : TileRecord, t.x ≤ 4095 → t.y ≤ 4095 → 1 ≤ t.w → t.w ≤ 4096 → 1 ≤ t.h → t.h ≤ 4096 → t.border ≤ 8 →
    tileRecordOf t.bytes = some t) ∧
  (∀ v : FrameValues, 640 ≤ v.width → v.width ≤ 3840 → v.width % 8 = 0 → 480 ≤ v.height → v.height ≤ 2160 →
    24 ≤ v.refresh → v.refresh ≤ 144 → profileOf v.bytes = some v) ∧
  (∀ w : KeyWindow, windowOf w.bytes = some w) ∧
  (∀ g : GeneralInput, 4 ≤ g.leadKey.toNat → g.leadKey.toNat ≤ 223 → 1 ≤ g.deskSpeed → g.deskSpeed ≤ 64 →
    generalOf g.bytes = some g) ∧
  (∀ h : HotSpot, h.hx ≤ 31 → h.hy ≤ 31 → hotSpotOf h.bytes = some h) ∧
  (∀ t : TimingEntry, timingOf t.bytes = some t) ∧
  ∀ (b : List Byte) (e : Hotkey), hotkeyOf b = some e → hotkeyOf e.bytes = some e

/-! ### Laws that every step keeps -/

/-- Every step keeps the canonical form of the flash's image area, the model's own (a sorted list of cells in which an unlisted byte
reads FFh: L7), keeps what a save programs within that area (R181, R193), and keeps at most 4 blocked chords in a slot record
(R17). -/
def Obligations.StepsKeepTheFlash : Prop := ∀ s t : State, FlashLaw s → step s = .next t → FlashLaw t

/-- Every step keeps the capacities of the queues, an OFF port at its power-on values (R80, R84, R93), and each slot's newest
KEYBOARD image equal to its sent image (R91). -/
def Obligations.StepsKeepPortsAndImages : Prop :=
  ∀ s t : State, PortLaw s → step s = .next t → PortLaw t ∧ (ImageLaw s → ImageLaw t)

/-- Every step keeps the laws of the held keys and of the sent modifiers (R10, R16). -/
def Obligations.StepsKeepKeysAndModifiers : Prop :=
  ∀ s t : State, step s = .next t → (KeyLaw s → KeyLaw t) ∧ (ModifierLaw s → ModifierLaw t)

/-- Every step keeps the wake records lawful by their links (R102, R106, R109), and each wait running exactly while its owner
waits (R33, R35, R101 to R104, R110, R127, R130). -/
def Obligations.StepsKeepWakesAndTimers : Prop :=
  ∀ s t : State, WakeLaw s → TimerLaw s → step s = .next t → WakeLaw t ∧ TimerLaw t

/-- Every step keeps the pending set in order, the levels of the stack strictly rising, and no slot twice (R113, R114). -/
def Obligations.StepsKeepTheAttention : Prop := ∀ s t : State, AttentionLaw s → step s = .next t → AttentionLaw t

/-- Every step keeps the part still while RESET is asserted or a load runs (R183) and T2 running at all other times (R164). -/
def Obligations.StepsKeepQuietAndBlink : Prop :=
  ∀ s t : State, QuietLaw s → BlinkLaw s → step s = .next t → QuietLaw t ∧ BlinkLaw t

/-- Every step keeps an ACCESS writer in the access table (R170), and the hotkey table free of collisions and of the lead key
(R26, R27). -/
def Obligations.StepsKeepAccessAndHotkeys : Prop :=
  ∀ s t : State, AccessLaw s → HotkeyLaw s → step s = .next t → AccessLaw t ∧ HotkeyLaw t

/-- Every step keeps the residues and the accumulators in their ranges (R63, R70), and each channel's values lawful by its lock
state (R125, R126, R128, R130, R132). -/
def Obligations.StepsKeepResiduesAndChannels : Prop :=
  ∀ s t : State, step s = .next t → (ResidueLaw s → ResidueLaw t) ∧ (ChannelLaw s → ChannelLaw t)

/-- The state after reset holds every one of these laws, and asserts RESET with every link OFF. -/
def Obligations.ResetHoldsTheLaws : Prop :=
  FlashLaw State.reset ∧ PortLaw State.reset ∧ ImageLaw State.reset ∧ KeyLaw State.reset ∧ ModifierLaw State.reset ∧
  WakeLaw State.reset ∧ TimerLaw State.reset ∧ AttentionLaw State.reset ∧ QuietLaw State.reset ∧ BlinkLaw State.reset ∧
  AccessLaw State.reset ∧ HotkeyLaw State.reset ∧ ResidueLaw State.reset ∧ ChannelLaw State.reset ∧
  State.reset.resetLine = true ∧ State.reset.pending = []
end

