-- ==== Sys2Proof/Laws/State.lean ====
section
/-! SUPPORT. One lemma for each field of State under each update, true by definition, and the reading of one place of a
table after a write. -/

namespace Sys2Proof

/-! ### Tables -/

theorem Table.get_put {α : Type} {n : Nat} (t : Table α n) (i j : Fin n) (x : α) :
    (t.put i x).get j = if j = i then x else t.get j := by
  simp only [Table.get, Table.put, Vector.getElem_set, Fin.ext_iff, eq_comm]

@[simp] theorem Table.get_put_same {α : Type} {n : Nat} (t : Table α n) (i : Fin n) (x : α) : (t.put i x).get i = x := by
  simp [Table.get_put]

theorem Table.get_put_ne {α : Type} {n : Nat} (t : Table α n) {i j : Fin n} (x : α) (h : j ≠ i) :
    (t.put i x).get j = t.get j := by
  simp [Table.get_put, h]

@[simp] theorem Table.get_tab {α : Type} {n : Nat} (f : Fin n → α) (i : Fin n) : (Table.tab f).get i = f i := by
  simp [Table.get, Table.tab]

@[simp] theorem Table.get_all {α : Type} {n : Nat} (x : α) (i : Fin n) : (Table.all n x).get i = x := by
  simp [Table.get, Table.all]

@[simp] theorem Table.get_each {α β : Type} {n : Nat} (f : α → β) (t : Table α n) (i : Fin n) :
    (t.each f).get i = f (t.get i) := by
  simp [Table.each]

theorem Table.ext_get {α : Type} {n : Nat} {t u : Table α n} (h : ∀ i, t.get i = u.get i) : t = u := by
  apply Vector.ext
  intro i hi
  exact h ⟨i, hi⟩

@[simp] theorem Table.put_get {α : Type} {n : Nat} (t : Table α n) (i : Fin n) : t.put i (t.get i) = t := by
  apply Table.ext_get
  intro j
  rw [Table.get_put]
  split
  · simp [*]
  · rfl

end Sys2Proof

namespace Sys2Proof.Machine

/-! ### Fields under updates -/

@[simp] theorem State.setPending_pending (s : State) (x : List Instr) : (s.setPending x).pending = x := rfl
@[simp] theorem State.setPending_resetLine (s : State) (x : List Instr) : (s.setPending x).resetLine = s.resetLine := rfl
@[simp] theorem State.setPending_tables (s : State) (x : List Instr) : (s.setPending x).tables = s.tables := rfl
@[simp] theorem State.setPending_ciu (s : State) (x : List Instr) : (s.setPending x).ciu = s.ciu := rfl
@[simp] theorem State.setPending_fc (s : State) (x : List Instr) : (s.setPending x).fc = s.fc := rfl
@[simp] theorem State.setPending_hkm (s : State) (x : List Instr) : (s.setPending x).hkm = s.hkm := rfl
@[simp] theorem State.setPending_gu (s : State) (x : List Instr) : (s.setPending x).gu = s.gu := rfl
@[simp] theorem State.setPending_ports (s : State) (x : List Instr) : (s.setPending x).ports = s.ports := rfl
@[simp] theorem State.setPending_wakes (s : State) (x : List Instr) : (s.setPending x).wakes = s.wakes := rfl
@[simp] theorem State.setPending_atu (s : State) (x : List Instr) : (s.setPending x).atu = s.atu := rfl
@[simp] theorem State.setPending_channels (s : State) (x : List Instr) : (s.setPending x).channels = s.channels := rfl
@[simp] theorem State.setPending_cmp (s : State) (x : List Instr) : (s.setPending x).cmp = s.cmp := rfl
@[simp] theorem State.setPending_bank (s : State) (x : List Instr) : (s.setPending x).bank = s.bank := rfl
@[simp] theorem State.setPending_mgi (s : State) (x : List Instr) : (s.setPending x).mgi = s.mgi := rfl
@[simp] theorem State.setPending_pl (s : State) (x : List Instr) : (s.setPending x).pl = s.pl := rfl
@[simp] theorem State.setPending_flash (s : State) (x : List Instr) : (s.setPending x).flash = s.flash := rfl
@[simp] theorem State.setPending_cuts (s : State) (x : List Instr) : (s.setPending x).cuts = s.cuts := rfl

@[simp] theorem State.setReset_pending (s : State) (x : Bool) : (s.setReset x).pending = s.pending := rfl
@[simp] theorem State.setReset_resetLine (s : State) (x : Bool) : (s.setReset x).resetLine = x := rfl
@[simp] theorem State.setReset_tables (s : State) (x : Bool) : (s.setReset x).tables = s.tables := rfl
@[simp] theorem State.setReset_ciu (s : State) (x : Bool) : (s.setReset x).ciu = s.ciu := rfl
@[simp] theorem State.setReset_fc (s : State) (x : Bool) : (s.setReset x).fc = s.fc := rfl
@[simp] theorem State.setReset_hkm (s : State) (x : Bool) : (s.setReset x).hkm = s.hkm := rfl
@[simp] theorem State.setReset_gu (s : State) (x : Bool) : (s.setReset x).gu = s.gu := rfl
@[simp] theorem State.setReset_ports (s : State) (x : Bool) : (s.setReset x).ports = s.ports := rfl
@[simp] theorem State.setReset_wakes (s : State) (x : Bool) : (s.setReset x).wakes = s.wakes := rfl
@[simp] theorem State.setReset_atu (s : State) (x : Bool) : (s.setReset x).atu = s.atu := rfl
@[simp] theorem State.setReset_channels (s : State) (x : Bool) : (s.setReset x).channels = s.channels := rfl
@[simp] theorem State.setReset_cmp (s : State) (x : Bool) : (s.setReset x).cmp = s.cmp := rfl
@[simp] theorem State.setReset_bank (s : State) (x : Bool) : (s.setReset x).bank = s.bank := rfl
@[simp] theorem State.setReset_mgi (s : State) (x : Bool) : (s.setReset x).mgi = s.mgi := rfl
@[simp] theorem State.setReset_pl (s : State) (x : Bool) : (s.setReset x).pl = s.pl := rfl
@[simp] theorem State.setReset_flash (s : State) (x : Bool) : (s.setReset x).flash = s.flash := rfl
@[simp] theorem State.setReset_cuts (s : State) (x : Bool) : (s.setReset x).cuts = s.cuts := rfl

@[simp] theorem State.setTables_pending (s : State) (x : Tables) : (s.setTables x).pending = s.pending := rfl
@[simp] theorem State.setTables_resetLine (s : State) (x : Tables) : (s.setTables x).resetLine = s.resetLine := rfl
@[simp] theorem State.setTables_tables (s : State) (x : Tables) : (s.setTables x).tables = x := rfl
@[simp] theorem State.setTables_ciu (s : State) (x : Tables) : (s.setTables x).ciu = s.ciu := rfl
@[simp] theorem State.setTables_fc (s : State) (x : Tables) : (s.setTables x).fc = s.fc := rfl
@[simp] theorem State.setTables_hkm (s : State) (x : Tables) : (s.setTables x).hkm = s.hkm := rfl
@[simp] theorem State.setTables_gu (s : State) (x : Tables) : (s.setTables x).gu = s.gu := rfl
@[simp] theorem State.setTables_ports (s : State) (x : Tables) : (s.setTables x).ports = s.ports := rfl
@[simp] theorem State.setTables_wakes (s : State) (x : Tables) : (s.setTables x).wakes = s.wakes := rfl
@[simp] theorem State.setTables_atu (s : State) (x : Tables) : (s.setTables x).atu = s.atu := rfl
@[simp] theorem State.setTables_channels (s : State) (x : Tables) : (s.setTables x).channels = s.channels := rfl
@[simp] theorem State.setTables_cmp (s : State) (x : Tables) : (s.setTables x).cmp = s.cmp := rfl
@[simp] theorem State.setTables_bank (s : State) (x : Tables) : (s.setTables x).bank = s.bank := rfl
@[simp] theorem State.setTables_mgi (s : State) (x : Tables) : (s.setTables x).mgi = s.mgi := rfl
@[simp] theorem State.setTables_pl (s : State) (x : Tables) : (s.setTables x).pl = s.pl := rfl
@[simp] theorem State.setTables_flash (s : State) (x : Tables) : (s.setTables x).flash = s.flash := rfl
@[simp] theorem State.setTables_cuts (s : State) (x : Tables) : (s.setTables x).cuts = s.cuts := rfl

@[simp] theorem State.setCiu_pending (s : State) (x : Ciu) : (s.setCiu x).pending = s.pending := rfl
@[simp] theorem State.setCiu_resetLine (s : State) (x : Ciu) : (s.setCiu x).resetLine = s.resetLine := rfl
@[simp] theorem State.setCiu_tables (s : State) (x : Ciu) : (s.setCiu x).tables = s.tables := rfl
@[simp] theorem State.setCiu_ciu (s : State) (x : Ciu) : (s.setCiu x).ciu = x := rfl
@[simp] theorem State.setCiu_fc (s : State) (x : Ciu) : (s.setCiu x).fc = s.fc := rfl
@[simp] theorem State.setCiu_hkm (s : State) (x : Ciu) : (s.setCiu x).hkm = s.hkm := rfl
@[simp] theorem State.setCiu_gu (s : State) (x : Ciu) : (s.setCiu x).gu = s.gu := rfl
@[simp] theorem State.setCiu_ports (s : State) (x : Ciu) : (s.setCiu x).ports = s.ports := rfl
@[simp] theorem State.setCiu_wakes (s : State) (x : Ciu) : (s.setCiu x).wakes = s.wakes := rfl
@[simp] theorem State.setCiu_atu (s : State) (x : Ciu) : (s.setCiu x).atu = s.atu := rfl
@[simp] theorem State.setCiu_channels (s : State) (x : Ciu) : (s.setCiu x).channels = s.channels := rfl
@[simp] theorem State.setCiu_cmp (s : State) (x : Ciu) : (s.setCiu x).cmp = s.cmp := rfl
@[simp] theorem State.setCiu_bank (s : State) (x : Ciu) : (s.setCiu x).bank = s.bank := rfl
@[simp] theorem State.setCiu_mgi (s : State) (x : Ciu) : (s.setCiu x).mgi = s.mgi := rfl
@[simp] theorem State.setCiu_pl (s : State) (x : Ciu) : (s.setCiu x).pl = s.pl := rfl
@[simp] theorem State.setCiu_flash (s : State) (x : Ciu) : (s.setCiu x).flash = s.flash := rfl
@[simp] theorem State.setCiu_cuts (s : State) (x : Ciu) : (s.setCiu x).cuts = s.cuts := rfl

@[simp] theorem State.setFc_pending (s : State) (x : Fc) : (s.setFc x).pending = s.pending := rfl
@[simp] theorem State.setFc_resetLine (s : State) (x : Fc) : (s.setFc x).resetLine = s.resetLine := rfl
@[simp] theorem State.setFc_tables (s : State) (x : Fc) : (s.setFc x).tables = s.tables := rfl
@[simp] theorem State.setFc_ciu (s : State) (x : Fc) : (s.setFc x).ciu = s.ciu := rfl
@[simp] theorem State.setFc_fc (s : State) (x : Fc) : (s.setFc x).fc = x := rfl
@[simp] theorem State.setFc_hkm (s : State) (x : Fc) : (s.setFc x).hkm = s.hkm := rfl
@[simp] theorem State.setFc_gu (s : State) (x : Fc) : (s.setFc x).gu = s.gu := rfl
@[simp] theorem State.setFc_ports (s : State) (x : Fc) : (s.setFc x).ports = s.ports := rfl
@[simp] theorem State.setFc_wakes (s : State) (x : Fc) : (s.setFc x).wakes = s.wakes := rfl
@[simp] theorem State.setFc_atu (s : State) (x : Fc) : (s.setFc x).atu = s.atu := rfl
@[simp] theorem State.setFc_channels (s : State) (x : Fc) : (s.setFc x).channels = s.channels := rfl
@[simp] theorem State.setFc_cmp (s : State) (x : Fc) : (s.setFc x).cmp = s.cmp := rfl
@[simp] theorem State.setFc_bank (s : State) (x : Fc) : (s.setFc x).bank = s.bank := rfl
@[simp] theorem State.setFc_mgi (s : State) (x : Fc) : (s.setFc x).mgi = s.mgi := rfl
@[simp] theorem State.setFc_pl (s : State) (x : Fc) : (s.setFc x).pl = s.pl := rfl
@[simp] theorem State.setFc_flash (s : State) (x : Fc) : (s.setFc x).flash = s.flash := rfl
@[simp] theorem State.setFc_cuts (s : State) (x : Fc) : (s.setFc x).cuts = s.cuts := rfl

@[simp] theorem State.setHkm_pending (s : State) (x : CommandState) : (s.setHkm x).pending = s.pending := rfl
@[simp] theorem State.setHkm_resetLine (s : State) (x : CommandState) : (s.setHkm x).resetLine = s.resetLine := rfl
@[simp] theorem State.setHkm_tables (s : State) (x : CommandState) : (s.setHkm x).tables = s.tables := rfl
@[simp] theorem State.setHkm_ciu (s : State) (x : CommandState) : (s.setHkm x).ciu = s.ciu := rfl
@[simp] theorem State.setHkm_fc (s : State) (x : CommandState) : (s.setHkm x).fc = s.fc := rfl
@[simp] theorem State.setHkm_hkm (s : State) (x : CommandState) : (s.setHkm x).hkm = x := rfl
@[simp] theorem State.setHkm_gu (s : State) (x : CommandState) : (s.setHkm x).gu = s.gu := rfl
@[simp] theorem State.setHkm_ports (s : State) (x : CommandState) : (s.setHkm x).ports = s.ports := rfl
@[simp] theorem State.setHkm_wakes (s : State) (x : CommandState) : (s.setHkm x).wakes = s.wakes := rfl
@[simp] theorem State.setHkm_atu (s : State) (x : CommandState) : (s.setHkm x).atu = s.atu := rfl
@[simp] theorem State.setHkm_channels (s : State) (x : CommandState) : (s.setHkm x).channels = s.channels := rfl
@[simp] theorem State.setHkm_cmp (s : State) (x : CommandState) : (s.setHkm x).cmp = s.cmp := rfl
@[simp] theorem State.setHkm_bank (s : State) (x : CommandState) : (s.setHkm x).bank = s.bank := rfl
@[simp] theorem State.setHkm_mgi (s : State) (x : CommandState) : (s.setHkm x).mgi = s.mgi := rfl
@[simp] theorem State.setHkm_pl (s : State) (x : CommandState) : (s.setHkm x).pl = s.pl := rfl
@[simp] theorem State.setHkm_flash (s : State) (x : CommandState) : (s.setHkm x).flash = s.flash := rfl
@[simp] theorem State.setHkm_cuts (s : State) (x : CommandState) : (s.setHkm x).cuts = s.cuts := rfl

@[simp] theorem State.setGu_pending (s : State) (x : Gu) : (s.setGu x).pending = s.pending := rfl
@[simp] theorem State.setGu_resetLine (s : State) (x : Gu) : (s.setGu x).resetLine = s.resetLine := rfl
@[simp] theorem State.setGu_tables (s : State) (x : Gu) : (s.setGu x).tables = s.tables := rfl
@[simp] theorem State.setGu_ciu (s : State) (x : Gu) : (s.setGu x).ciu = s.ciu := rfl
@[simp] theorem State.setGu_fc (s : State) (x : Gu) : (s.setGu x).fc = s.fc := rfl
@[simp] theorem State.setGu_hkm (s : State) (x : Gu) : (s.setGu x).hkm = s.hkm := rfl
@[simp] theorem State.setGu_gu (s : State) (x : Gu) : (s.setGu x).gu = x := rfl
@[simp] theorem State.setGu_ports (s : State) (x : Gu) : (s.setGu x).ports = s.ports := rfl
@[simp] theorem State.setGu_wakes (s : State) (x : Gu) : (s.setGu x).wakes = s.wakes := rfl
@[simp] theorem State.setGu_atu (s : State) (x : Gu) : (s.setGu x).atu = s.atu := rfl
@[simp] theorem State.setGu_channels (s : State) (x : Gu) : (s.setGu x).channels = s.channels := rfl
@[simp] theorem State.setGu_cmp (s : State) (x : Gu) : (s.setGu x).cmp = s.cmp := rfl
@[simp] theorem State.setGu_bank (s : State) (x : Gu) : (s.setGu x).bank = s.bank := rfl
@[simp] theorem State.setGu_mgi (s : State) (x : Gu) : (s.setGu x).mgi = s.mgi := rfl
@[simp] theorem State.setGu_pl (s : State) (x : Gu) : (s.setGu x).pl = s.pl := rfl
@[simp] theorem State.setGu_flash (s : State) (x : Gu) : (s.setGu x).flash = s.flash := rfl
@[simp] theorem State.setGu_cuts (s : State) (x : Gu) : (s.setGu x).cuts = s.cuts := rfl

@[simp] theorem State.setPorts_pending (s : State) (x : Table Port 8) : (s.setPorts x).pending = s.pending := rfl
@[simp] theorem State.setPorts_resetLine (s : State) (x : Table Port 8) : (s.setPorts x).resetLine = s.resetLine := rfl
@[simp] theorem State.setPorts_tables (s : State) (x : Table Port 8) : (s.setPorts x).tables = s.tables := rfl
@[simp] theorem State.setPorts_ciu (s : State) (x : Table Port 8) : (s.setPorts x).ciu = s.ciu := rfl
@[simp] theorem State.setPorts_fc (s : State) (x : Table Port 8) : (s.setPorts x).fc = s.fc := rfl
@[simp] theorem State.setPorts_hkm (s : State) (x : Table Port 8) : (s.setPorts x).hkm = s.hkm := rfl
@[simp] theorem State.setPorts_gu (s : State) (x : Table Port 8) : (s.setPorts x).gu = s.gu := rfl
@[simp] theorem State.setPorts_ports (s : State) (x : Table Port 8) : (s.setPorts x).ports = x := rfl
@[simp] theorem State.setPorts_wakes (s : State) (x : Table Port 8) : (s.setPorts x).wakes = s.wakes := rfl
@[simp] theorem State.setPorts_atu (s : State) (x : Table Port 8) : (s.setPorts x).atu = s.atu := rfl
@[simp] theorem State.setPorts_channels (s : State) (x : Table Port 8) : (s.setPorts x).channels = s.channels := rfl
@[simp] theorem State.setPorts_cmp (s : State) (x : Table Port 8) : (s.setPorts x).cmp = s.cmp := rfl
@[simp] theorem State.setPorts_bank (s : State) (x : Table Port 8) : (s.setPorts x).bank = s.bank := rfl
@[simp] theorem State.setPorts_mgi (s : State) (x : Table Port 8) : (s.setPorts x).mgi = s.mgi := rfl
@[simp] theorem State.setPorts_pl (s : State) (x : Table Port 8) : (s.setPorts x).pl = s.pl := rfl
@[simp] theorem State.setPorts_flash (s : State) (x : Table Port 8) : (s.setPorts x).flash = s.flash := rfl
@[simp] theorem State.setPorts_cuts (s : State) (x : Table Port 8) : (s.setPorts x).cuts = s.cuts := rfl

@[simp] theorem State.setWakes_pending (s : State) (x : Table WakeRecord 8) : (s.setWakes x).pending = s.pending := rfl
@[simp] theorem State.setWakes_resetLine (s : State) (x : Table WakeRecord 8) : (s.setWakes x).resetLine = s.resetLine := rfl
@[simp] theorem State.setWakes_tables (s : State) (x : Table WakeRecord 8) : (s.setWakes x).tables = s.tables := rfl
@[simp] theorem State.setWakes_ciu (s : State) (x : Table WakeRecord 8) : (s.setWakes x).ciu = s.ciu := rfl
@[simp] theorem State.setWakes_fc (s : State) (x : Table WakeRecord 8) : (s.setWakes x).fc = s.fc := rfl
@[simp] theorem State.setWakes_hkm (s : State) (x : Table WakeRecord 8) : (s.setWakes x).hkm = s.hkm := rfl
@[simp] theorem State.setWakes_gu (s : State) (x : Table WakeRecord 8) : (s.setWakes x).gu = s.gu := rfl
@[simp] theorem State.setWakes_ports (s : State) (x : Table WakeRecord 8) : (s.setWakes x).ports = s.ports := rfl
@[simp] theorem State.setWakes_wakes (s : State) (x : Table WakeRecord 8) : (s.setWakes x).wakes = x := rfl
@[simp] theorem State.setWakes_atu (s : State) (x : Table WakeRecord 8) : (s.setWakes x).atu = s.atu := rfl
@[simp] theorem State.setWakes_channels (s : State) (x : Table WakeRecord 8) : (s.setWakes x).channels = s.channels := rfl
@[simp] theorem State.setWakes_cmp (s : State) (x : Table WakeRecord 8) : (s.setWakes x).cmp = s.cmp := rfl
@[simp] theorem State.setWakes_bank (s : State) (x : Table WakeRecord 8) : (s.setWakes x).bank = s.bank := rfl
@[simp] theorem State.setWakes_mgi (s : State) (x : Table WakeRecord 8) : (s.setWakes x).mgi = s.mgi := rfl
@[simp] theorem State.setWakes_pl (s : State) (x : Table WakeRecord 8) : (s.setWakes x).pl = s.pl := rfl
@[simp] theorem State.setWakes_flash (s : State) (x : Table WakeRecord 8) : (s.setWakes x).flash = s.flash := rfl
@[simp] theorem State.setWakes_cuts (s : State) (x : Table WakeRecord 8) : (s.setWakes x).cuts = s.cuts := rfl

@[simp] theorem State.setAtu_pending (s : State) (x : Atu) : (s.setAtu x).pending = s.pending := rfl
@[simp] theorem State.setAtu_resetLine (s : State) (x : Atu) : (s.setAtu x).resetLine = s.resetLine := rfl
@[simp] theorem State.setAtu_tables (s : State) (x : Atu) : (s.setAtu x).tables = s.tables := rfl
@[simp] theorem State.setAtu_ciu (s : State) (x : Atu) : (s.setAtu x).ciu = s.ciu := rfl
@[simp] theorem State.setAtu_fc (s : State) (x : Atu) : (s.setAtu x).fc = s.fc := rfl
@[simp] theorem State.setAtu_hkm (s : State) (x : Atu) : (s.setAtu x).hkm = s.hkm := rfl
@[simp] theorem State.setAtu_gu (s : State) (x : Atu) : (s.setAtu x).gu = s.gu := rfl
@[simp] theorem State.setAtu_ports (s : State) (x : Atu) : (s.setAtu x).ports = s.ports := rfl
@[simp] theorem State.setAtu_wakes (s : State) (x : Atu) : (s.setAtu x).wakes = s.wakes := rfl
@[simp] theorem State.setAtu_atu (s : State) (x : Atu) : (s.setAtu x).atu = x := rfl
@[simp] theorem State.setAtu_channels (s : State) (x : Atu) : (s.setAtu x).channels = s.channels := rfl
@[simp] theorem State.setAtu_cmp (s : State) (x : Atu) : (s.setAtu x).cmp = s.cmp := rfl
@[simp] theorem State.setAtu_bank (s : State) (x : Atu) : (s.setAtu x).bank = s.bank := rfl
@[simp] theorem State.setAtu_mgi (s : State) (x : Atu) : (s.setAtu x).mgi = s.mgi := rfl
@[simp] theorem State.setAtu_pl (s : State) (x : Atu) : (s.setAtu x).pl = s.pl := rfl
@[simp] theorem State.setAtu_flash (s : State) (x : Atu) : (s.setAtu x).flash = s.flash := rfl
@[simp] theorem State.setAtu_cuts (s : State) (x : Atu) : (s.setAtu x).cuts = s.cuts := rfl

@[simp] theorem State.setChannels_pending (s : State) (x : Table Channel 16) : (s.setChannels x).pending = s.pending := rfl
@[simp] theorem State.setChannels_resetLine (s : State) (x : Table Channel 16) : (s.setChannels x).resetLine = s.resetLine := rfl
@[simp] theorem State.setChannels_tables (s : State) (x : Table Channel 16) : (s.setChannels x).tables = s.tables := rfl
@[simp] theorem State.setChannels_ciu (s : State) (x : Table Channel 16) : (s.setChannels x).ciu = s.ciu := rfl
@[simp] theorem State.setChannels_fc (s : State) (x : Table Channel 16) : (s.setChannels x).fc = s.fc := rfl
@[simp] theorem State.setChannels_hkm (s : State) (x : Table Channel 16) : (s.setChannels x).hkm = s.hkm := rfl
@[simp] theorem State.setChannels_gu (s : State) (x : Table Channel 16) : (s.setChannels x).gu = s.gu := rfl
@[simp] theorem State.setChannels_ports (s : State) (x : Table Channel 16) : (s.setChannels x).ports = s.ports := rfl
@[simp] theorem State.setChannels_wakes (s : State) (x : Table Channel 16) : (s.setChannels x).wakes = s.wakes := rfl
@[simp] theorem State.setChannels_atu (s : State) (x : Table Channel 16) : (s.setChannels x).atu = s.atu := rfl
@[simp] theorem State.setChannels_channels (s : State) (x : Table Channel 16) : (s.setChannels x).channels = x := rfl
@[simp] theorem State.setChannels_cmp (s : State) (x : Table Channel 16) : (s.setChannels x).cmp = s.cmp := rfl
@[simp] theorem State.setChannels_bank (s : State) (x : Table Channel 16) : (s.setChannels x).bank = s.bank := rfl
@[simp] theorem State.setChannels_mgi (s : State) (x : Table Channel 16) : (s.setChannels x).mgi = s.mgi := rfl
@[simp] theorem State.setChannels_pl (s : State) (x : Table Channel 16) : (s.setChannels x).pl = s.pl := rfl
@[simp] theorem State.setChannels_flash (s : State) (x : Table Channel 16) : (s.setChannels x).flash = s.flash := rfl
@[simp] theorem State.setChannels_cuts (s : State) (x : Table Channel 16) : (s.setChannels x).cuts = s.cuts := rfl

@[simp] theorem State.setCmp_pending (s : State) (x : Cmp) : (s.setCmp x).pending = s.pending := rfl
@[simp] theorem State.setCmp_resetLine (s : State) (x : Cmp) : (s.setCmp x).resetLine = s.resetLine := rfl
@[simp] theorem State.setCmp_tables (s : State) (x : Cmp) : (s.setCmp x).tables = s.tables := rfl
@[simp] theorem State.setCmp_ciu (s : State) (x : Cmp) : (s.setCmp x).ciu = s.ciu := rfl
@[simp] theorem State.setCmp_fc (s : State) (x : Cmp) : (s.setCmp x).fc = s.fc := rfl
@[simp] theorem State.setCmp_hkm (s : State) (x : Cmp) : (s.setCmp x).hkm = s.hkm := rfl
@[simp] theorem State.setCmp_gu (s : State) (x : Cmp) : (s.setCmp x).gu = s.gu := rfl
@[simp] theorem State.setCmp_ports (s : State) (x : Cmp) : (s.setCmp x).ports = s.ports := rfl
@[simp] theorem State.setCmp_wakes (s : State) (x : Cmp) : (s.setCmp x).wakes = s.wakes := rfl
@[simp] theorem State.setCmp_atu (s : State) (x : Cmp) : (s.setCmp x).atu = s.atu := rfl
@[simp] theorem State.setCmp_channels (s : State) (x : Cmp) : (s.setCmp x).channels = s.channels := rfl
@[simp] theorem State.setCmp_cmp (s : State) (x : Cmp) : (s.setCmp x).cmp = x := rfl
@[simp] theorem State.setCmp_bank (s : State) (x : Cmp) : (s.setCmp x).bank = s.bank := rfl
@[simp] theorem State.setCmp_mgi (s : State) (x : Cmp) : (s.setCmp x).mgi = s.mgi := rfl
@[simp] theorem State.setCmp_pl (s : State) (x : Cmp) : (s.setCmp x).pl = s.pl := rfl
@[simp] theorem State.setCmp_flash (s : State) (x : Cmp) : (s.setCmp x).flash = s.flash := rfl
@[simp] theorem State.setCmp_cuts (s : State) (x : Cmp) : (s.setCmp x).cuts = s.cuts := rfl

@[simp] theorem State.setBank_pending (s : State) (x : Bank) : (s.setBank x).pending = s.pending := rfl
@[simp] theorem State.setBank_resetLine (s : State) (x : Bank) : (s.setBank x).resetLine = s.resetLine := rfl
@[simp] theorem State.setBank_tables (s : State) (x : Bank) : (s.setBank x).tables = s.tables := rfl
@[simp] theorem State.setBank_ciu (s : State) (x : Bank) : (s.setBank x).ciu = s.ciu := rfl
@[simp] theorem State.setBank_fc (s : State) (x : Bank) : (s.setBank x).fc = s.fc := rfl
@[simp] theorem State.setBank_hkm (s : State) (x : Bank) : (s.setBank x).hkm = s.hkm := rfl
@[simp] theorem State.setBank_gu (s : State) (x : Bank) : (s.setBank x).gu = s.gu := rfl
@[simp] theorem State.setBank_ports (s : State) (x : Bank) : (s.setBank x).ports = s.ports := rfl
@[simp] theorem State.setBank_wakes (s : State) (x : Bank) : (s.setBank x).wakes = s.wakes := rfl
@[simp] theorem State.setBank_atu (s : State) (x : Bank) : (s.setBank x).atu = s.atu := rfl
@[simp] theorem State.setBank_channels (s : State) (x : Bank) : (s.setBank x).channels = s.channels := rfl
@[simp] theorem State.setBank_cmp (s : State) (x : Bank) : (s.setBank x).cmp = s.cmp := rfl
@[simp] theorem State.setBank_bank (s : State) (x : Bank) : (s.setBank x).bank = x := rfl
@[simp] theorem State.setBank_mgi (s : State) (x : Bank) : (s.setBank x).mgi = s.mgi := rfl
@[simp] theorem State.setBank_pl (s : State) (x : Bank) : (s.setBank x).pl = s.pl := rfl
@[simp] theorem State.setBank_flash (s : State) (x : Bank) : (s.setBank x).flash = s.flash := rfl
@[simp] theorem State.setBank_cuts (s : State) (x : Bank) : (s.setBank x).cuts = s.cuts := rfl

@[simp] theorem State.setMgi_pending (s : State) (x : Mgi) : (s.setMgi x).pending = s.pending := rfl
@[simp] theorem State.setMgi_resetLine (s : State) (x : Mgi) : (s.setMgi x).resetLine = s.resetLine := rfl
@[simp] theorem State.setMgi_tables (s : State) (x : Mgi) : (s.setMgi x).tables = s.tables := rfl
@[simp] theorem State.setMgi_ciu (s : State) (x : Mgi) : (s.setMgi x).ciu = s.ciu := rfl
@[simp] theorem State.setMgi_fc (s : State) (x : Mgi) : (s.setMgi x).fc = s.fc := rfl
@[simp] theorem State.setMgi_hkm (s : State) (x : Mgi) : (s.setMgi x).hkm = s.hkm := rfl
@[simp] theorem State.setMgi_gu (s : State) (x : Mgi) : (s.setMgi x).gu = s.gu := rfl
@[simp] theorem State.setMgi_ports (s : State) (x : Mgi) : (s.setMgi x).ports = s.ports := rfl
@[simp] theorem State.setMgi_wakes (s : State) (x : Mgi) : (s.setMgi x).wakes = s.wakes := rfl
@[simp] theorem State.setMgi_atu (s : State) (x : Mgi) : (s.setMgi x).atu = s.atu := rfl
@[simp] theorem State.setMgi_channels (s : State) (x : Mgi) : (s.setMgi x).channels = s.channels := rfl
@[simp] theorem State.setMgi_cmp (s : State) (x : Mgi) : (s.setMgi x).cmp = s.cmp := rfl
@[simp] theorem State.setMgi_bank (s : State) (x : Mgi) : (s.setMgi x).bank = s.bank := rfl
@[simp] theorem State.setMgi_mgi (s : State) (x : Mgi) : (s.setMgi x).mgi = x := rfl
@[simp] theorem State.setMgi_pl (s : State) (x : Mgi) : (s.setMgi x).pl = s.pl := rfl
@[simp] theorem State.setMgi_flash (s : State) (x : Mgi) : (s.setMgi x).flash = s.flash := rfl
@[simp] theorem State.setMgi_cuts (s : State) (x : Mgi) : (s.setMgi x).cuts = s.cuts := rfl

@[simp] theorem State.setPl_pending (s : State) (x : Pl) : (s.setPl x).pending = s.pending := rfl
@[simp] theorem State.setPl_resetLine (s : State) (x : Pl) : (s.setPl x).resetLine = s.resetLine := rfl
@[simp] theorem State.setPl_tables (s : State) (x : Pl) : (s.setPl x).tables = s.tables := rfl
@[simp] theorem State.setPl_ciu (s : State) (x : Pl) : (s.setPl x).ciu = s.ciu := rfl
@[simp] theorem State.setPl_fc (s : State) (x : Pl) : (s.setPl x).fc = s.fc := rfl
@[simp] theorem State.setPl_hkm (s : State) (x : Pl) : (s.setPl x).hkm = s.hkm := rfl
@[simp] theorem State.setPl_gu (s : State) (x : Pl) : (s.setPl x).gu = s.gu := rfl
@[simp] theorem State.setPl_ports (s : State) (x : Pl) : (s.setPl x).ports = s.ports := rfl
@[simp] theorem State.setPl_wakes (s : State) (x : Pl) : (s.setPl x).wakes = s.wakes := rfl
@[simp] theorem State.setPl_atu (s : State) (x : Pl) : (s.setPl x).atu = s.atu := rfl
@[simp] theorem State.setPl_channels (s : State) (x : Pl) : (s.setPl x).channels = s.channels := rfl
@[simp] theorem State.setPl_cmp (s : State) (x : Pl) : (s.setPl x).cmp = s.cmp := rfl
@[simp] theorem State.setPl_bank (s : State) (x : Pl) : (s.setPl x).bank = s.bank := rfl
@[simp] theorem State.setPl_mgi (s : State) (x : Pl) : (s.setPl x).mgi = s.mgi := rfl
@[simp] theorem State.setPl_pl (s : State) (x : Pl) : (s.setPl x).pl = x := rfl
@[simp] theorem State.setPl_flash (s : State) (x : Pl) : (s.setPl x).flash = s.flash := rfl
@[simp] theorem State.setPl_cuts (s : State) (x : Pl) : (s.setPl x).cuts = s.cuts := rfl

@[simp] theorem State.setFlash_pending (s : State) (x : Memory) : (s.setFlash x).pending = s.pending := rfl
@[simp] theorem State.setFlash_resetLine (s : State) (x : Memory) : (s.setFlash x).resetLine = s.resetLine := rfl
@[simp] theorem State.setFlash_tables (s : State) (x : Memory) : (s.setFlash x).tables = s.tables := rfl
@[simp] theorem State.setFlash_ciu (s : State) (x : Memory) : (s.setFlash x).ciu = s.ciu := rfl
@[simp] theorem State.setFlash_fc (s : State) (x : Memory) : (s.setFlash x).fc = s.fc := rfl
@[simp] theorem State.setFlash_hkm (s : State) (x : Memory) : (s.setFlash x).hkm = s.hkm := rfl
@[simp] theorem State.setFlash_gu (s : State) (x : Memory) : (s.setFlash x).gu = s.gu := rfl
@[simp] theorem State.setFlash_ports (s : State) (x : Memory) : (s.setFlash x).ports = s.ports := rfl
@[simp] theorem State.setFlash_wakes (s : State) (x : Memory) : (s.setFlash x).wakes = s.wakes := rfl
@[simp] theorem State.setFlash_atu (s : State) (x : Memory) : (s.setFlash x).atu = s.atu := rfl
@[simp] theorem State.setFlash_channels (s : State) (x : Memory) : (s.setFlash x).channels = s.channels := rfl
@[simp] theorem State.setFlash_cmp (s : State) (x : Memory) : (s.setFlash x).cmp = s.cmp := rfl
@[simp] theorem State.setFlash_bank (s : State) (x : Memory) : (s.setFlash x).bank = s.bank := rfl
@[simp] theorem State.setFlash_mgi (s : State) (x : Memory) : (s.setFlash x).mgi = s.mgi := rfl
@[simp] theorem State.setFlash_pl (s : State) (x : Memory) : (s.setFlash x).pl = s.pl := rfl
@[simp] theorem State.setFlash_flash (s : State) (x : Memory) : (s.setFlash x).flash = x := rfl
@[simp] theorem State.setFlash_cuts (s : State) (x : Memory) : (s.setFlash x).cuts = s.cuts := rfl

@[simp] theorem State.setCuts_pending (s : State) (x : Nat) : (s.setCuts x).pending = s.pending := rfl
@[simp] theorem State.setCuts_resetLine (s : State) (x : Nat) : (s.setCuts x).resetLine = s.resetLine := rfl
@[simp] theorem State.setCuts_tables (s : State) (x : Nat) : (s.setCuts x).tables = s.tables := rfl
@[simp] theorem State.setCuts_ciu (s : State) (x : Nat) : (s.setCuts x).ciu = s.ciu := rfl
@[simp] theorem State.setCuts_fc (s : State) (x : Nat) : (s.setCuts x).fc = s.fc := rfl
@[simp] theorem State.setCuts_hkm (s : State) (x : Nat) : (s.setCuts x).hkm = s.hkm := rfl
@[simp] theorem State.setCuts_gu (s : State) (x : Nat) : (s.setCuts x).gu = s.gu := rfl
@[simp] theorem State.setCuts_ports (s : State) (x : Nat) : (s.setCuts x).ports = s.ports := rfl
@[simp] theorem State.setCuts_wakes (s : State) (x : Nat) : (s.setCuts x).wakes = s.wakes := rfl
@[simp] theorem State.setCuts_atu (s : State) (x : Nat) : (s.setCuts x).atu = s.atu := rfl
@[simp] theorem State.setCuts_channels (s : State) (x : Nat) : (s.setCuts x).channels = s.channels := rfl
@[simp] theorem State.setCuts_cmp (s : State) (x : Nat) : (s.setCuts x).cmp = s.cmp := rfl
@[simp] theorem State.setCuts_bank (s : State) (x : Nat) : (s.setCuts x).bank = s.bank := rfl
@[simp] theorem State.setCuts_mgi (s : State) (x : Nat) : (s.setCuts x).mgi = s.mgi := rfl
@[simp] theorem State.setCuts_pl (s : State) (x : Nat) : (s.setCuts x).pl = s.pl := rfl
@[simp] theorem State.setCuts_flash (s : State) (x : Nat) : (s.setCuts x).flash = s.flash := rfl
@[simp] theorem State.setCuts_cuts (s : State) (x : Nat) : (s.setCuts x).cuts = x := rfl

/-! ### Fields under an update of one place -/

@[simp] theorem State.setPort_pending (s : State) (n : Slot) (p : Port) : (s.setPort n p).pending = s.pending := rfl
@[simp] theorem State.setPort_resetLine (s : State) (n : Slot) (p : Port) : (s.setPort n p).resetLine = s.resetLine := rfl
@[simp] theorem State.setPort_tables (s : State) (n : Slot) (p : Port) : (s.setPort n p).tables = s.tables := rfl
@[simp] theorem State.setPort_ciu (s : State) (n : Slot) (p : Port) : (s.setPort n p).ciu = s.ciu := rfl
@[simp] theorem State.setPort_fc (s : State) (n : Slot) (p : Port) : (s.setPort n p).fc = s.fc := rfl
@[simp] theorem State.setPort_hkm (s : State) (n : Slot) (p : Port) : (s.setPort n p).hkm = s.hkm := rfl
@[simp] theorem State.setPort_gu (s : State) (n : Slot) (p : Port) : (s.setPort n p).gu = s.gu := rfl
@[simp] theorem State.setPort_wakes (s : State) (n : Slot) (p : Port) : (s.setPort n p).wakes = s.wakes := rfl
@[simp] theorem State.setPort_atu (s : State) (n : Slot) (p : Port) : (s.setPort n p).atu = s.atu := rfl
@[simp] theorem State.setPort_channels (s : State) (n : Slot) (p : Port) : (s.setPort n p).channels = s.channels := rfl
@[simp] theorem State.setPort_cmp (s : State) (n : Slot) (p : Port) : (s.setPort n p).cmp = s.cmp := rfl
@[simp] theorem State.setPort_bank (s : State) (n : Slot) (p : Port) : (s.setPort n p).bank = s.bank := rfl
@[simp] theorem State.setPort_mgi (s : State) (n : Slot) (p : Port) : (s.setPort n p).mgi = s.mgi := rfl
@[simp] theorem State.setPort_pl (s : State) (n : Slot) (p : Port) : (s.setPort n p).pl = s.pl := rfl
@[simp] theorem State.setPort_flash (s : State) (n : Slot) (p : Port) : (s.setPort n p).flash = s.flash := rfl
@[simp] theorem State.setPort_cuts (s : State) (n : Slot) (p : Port) : (s.setPort n p).cuts = s.cuts := rfl

@[simp] theorem State.setWake_pending (s : State) (n : Slot) (w : WakeRecord) : (s.setWake n w).pending = s.pending := rfl
@[simp] theorem State.setWake_resetLine (s : State) (n : Slot) (w : WakeRecord) : (s.setWake n w).resetLine = s.resetLine := rfl
@[simp] theorem State.setWake_tables (s : State) (n : Slot) (w : WakeRecord) : (s.setWake n w).tables = s.tables := rfl
@[simp] theorem State.setWake_ciu (s : State) (n : Slot) (w : WakeRecord) : (s.setWake n w).ciu = s.ciu := rfl
@[simp] theorem State.setWake_fc (s : State) (n : Slot) (w : WakeRecord) : (s.setWake n w).fc = s.fc := rfl
@[simp] theorem State.setWake_hkm (s : State) (n : Slot) (w : WakeRecord) : (s.setWake n w).hkm = s.hkm := rfl
@[simp] theorem State.setWake_gu (s : State) (n : Slot) (w : WakeRecord) : (s.setWake n w).gu = s.gu := rfl
@[simp] theorem State.setWake_ports (s : State) (n : Slot) (w : WakeRecord) : (s.setWake n w).ports = s.ports := rfl
@[simp] theorem State.setWake_atu (s : State) (n : Slot) (w : WakeRecord) : (s.setWake n w).atu = s.atu := rfl
@[simp] theorem State.setWake_channels (s : State) (n : Slot) (w : WakeRecord) : (s.setWake n w).channels = s.channels := rfl
@[simp] theorem State.setWake_cmp (s : State) (n : Slot) (w : WakeRecord) : (s.setWake n w).cmp = s.cmp := rfl
@[simp] theorem State.setWake_bank (s : State) (n : Slot) (w : WakeRecord) : (s.setWake n w).bank = s.bank := rfl
@[simp] theorem State.setWake_mgi (s : State) (n : Slot) (w : WakeRecord) : (s.setWake n w).mgi = s.mgi := rfl
@[simp] theorem State.setWake_pl (s : State) (n : Slot) (w : WakeRecord) : (s.setWake n w).pl = s.pl := rfl
@[simp] theorem State.setWake_flash (s : State) (n : Slot) (w : WakeRecord) : (s.setWake n w).flash = s.flash := rfl
@[simp] theorem State.setWake_cuts (s : State) (n : Slot) (w : WakeRecord) : (s.setWake n w).cuts = s.cuts := rfl

@[simp] theorem State.setChannel_pending (s : State) (n : SourceIx) (c : Channel) : (s.setChannel n c).pending = s.pending := rfl
@[simp] theorem State.setChannel_resetLine (s : State) (n : SourceIx) (c : Channel) : (s.setChannel n c).resetLine = s.resetLine := rfl
@[simp] theorem State.setChannel_tables (s : State) (n : SourceIx) (c : Channel) : (s.setChannel n c).tables = s.tables := rfl
@[simp] theorem State.setChannel_ciu (s : State) (n : SourceIx) (c : Channel) : (s.setChannel n c).ciu = s.ciu := rfl
@[simp] theorem State.setChannel_fc (s : State) (n : SourceIx) (c : Channel) : (s.setChannel n c).fc = s.fc := rfl
@[simp] theorem State.setChannel_hkm (s : State) (n : SourceIx) (c : Channel) : (s.setChannel n c).hkm = s.hkm := rfl
@[simp] theorem State.setChannel_gu (s : State) (n : SourceIx) (c : Channel) : (s.setChannel n c).gu = s.gu := rfl
@[simp] theorem State.setChannel_ports (s : State) (n : SourceIx) (c : Channel) : (s.setChannel n c).ports = s.ports := rfl
@[simp] theorem State.setChannel_wakes (s : State) (n : SourceIx) (c : Channel) : (s.setChannel n c).wakes = s.wakes := rfl
@[simp] theorem State.setChannel_atu (s : State) (n : SourceIx) (c : Channel) : (s.setChannel n c).atu = s.atu := rfl
@[simp] theorem State.setChannel_cmp (s : State) (n : SourceIx) (c : Channel) : (s.setChannel n c).cmp = s.cmp := rfl
@[simp] theorem State.setChannel_bank (s : State) (n : SourceIx) (c : Channel) : (s.setChannel n c).bank = s.bank := rfl
@[simp] theorem State.setChannel_mgi (s : State) (n : SourceIx) (c : Channel) : (s.setChannel n c).mgi = s.mgi := rfl
@[simp] theorem State.setChannel_pl (s : State) (n : SourceIx) (c : Channel) : (s.setChannel n c).pl = s.pl := rfl
@[simp] theorem State.setChannel_flash (s : State) (n : SourceIx) (c : Channel) : (s.setChannel n c).flash = s.flash := rfl
@[simp] theorem State.setChannel_cuts (s : State) (n : SourceIx) (c : Channel) : (s.setChannel n c).cuts = s.cuts := rfl

@[simp] theorem State.setSent_pending (s : State) (n : Slot) (k : KeyImage) : (s.setSent n k).pending = s.pending := rfl
@[simp] theorem State.setSent_resetLine (s : State) (n : Slot) (k : KeyImage) : (s.setSent n k).resetLine = s.resetLine := rfl
@[simp] theorem State.setSent_tables (s : State) (n : Slot) (k : KeyImage) : (s.setSent n k).tables = s.tables := rfl
@[simp] theorem State.setSent_ciu (s : State) (n : Slot) (k : KeyImage) : (s.setSent n k).ciu = s.ciu := rfl
@[simp] theorem State.setSent_hkm (s : State) (n : Slot) (k : KeyImage) : (s.setSent n k).hkm = s.hkm := rfl
@[simp] theorem State.setSent_gu (s : State) (n : Slot) (k : KeyImage) : (s.setSent n k).gu = s.gu := rfl
@[simp] theorem State.setSent_ports (s : State) (n : Slot) (k : KeyImage) : (s.setSent n k).ports = s.ports := rfl
@[simp] theorem State.setSent_wakes (s : State) (n : Slot) (k : KeyImage) : (s.setSent n k).wakes = s.wakes := rfl
@[simp] theorem State.setSent_atu (s : State) (n : Slot) (k : KeyImage) : (s.setSent n k).atu = s.atu := rfl
@[simp] theorem State.setSent_channels (s : State) (n : Slot) (k : KeyImage) : (s.setSent n k).channels = s.channels := rfl
@[simp] theorem State.setSent_cmp (s : State) (n : Slot) (k : KeyImage) : (s.setSent n k).cmp = s.cmp := rfl
@[simp] theorem State.setSent_bank (s : State) (n : Slot) (k : KeyImage) : (s.setSent n k).bank = s.bank := rfl
@[simp] theorem State.setSent_mgi (s : State) (n : Slot) (k : KeyImage) : (s.setSent n k).mgi = s.mgi := rfl
@[simp] theorem State.setSent_pl (s : State) (n : Slot) (k : KeyImage) : (s.setSent n k).pl = s.pl := rfl
@[simp] theorem State.setSent_flash (s : State) (n : Slot) (k : KeyImage) : (s.setSent n k).flash = s.flash := rfl
@[simp] theorem State.setSent_cuts (s : State) (n : Slot) (k : KeyImage) : (s.setSent n k).cuts = s.cuts := rfl

@[simp] theorem State.setDelivered_pending (s : State) (n : Slot) (b : Buttons) : (s.setDelivered n b).pending = s.pending := rfl
@[simp] theorem State.setDelivered_resetLine (s : State) (n : Slot) (b : Buttons) : (s.setDelivered n b).resetLine = s.resetLine := rfl
@[simp] theorem State.setDelivered_tables (s : State) (n : Slot) (b : Buttons) : (s.setDelivered n b).tables = s.tables := rfl
@[simp] theorem State.setDelivered_ciu (s : State) (n : Slot) (b : Buttons) : (s.setDelivered n b).ciu = s.ciu := rfl
@[simp] theorem State.setDelivered_fc (s : State) (n : Slot) (b : Buttons) : (s.setDelivered n b).fc = s.fc := rfl
@[simp] theorem State.setDelivered_hkm (s : State) (n : Slot) (b : Buttons) : (s.setDelivered n b).hkm = s.hkm := rfl
@[simp] theorem State.setDelivered_ports (s : State) (n : Slot) (b : Buttons) : (s.setDelivered n b).ports = s.ports := rfl
@[simp] theorem State.setDelivered_wakes (s : State) (n : Slot) (b : Buttons) : (s.setDelivered n b).wakes = s.wakes := rfl
@[simp] theorem State.setDelivered_atu (s : State) (n : Slot) (b : Buttons) : (s.setDelivered n b).atu = s.atu := rfl
@[simp] theorem State.setDelivered_channels (s : State) (n : Slot) (b : Buttons) : (s.setDelivered n b).channels = s.channels := rfl
@[simp] theorem State.setDelivered_cmp (s : State) (n : Slot) (b : Buttons) : (s.setDelivered n b).cmp = s.cmp := rfl
@[simp] theorem State.setDelivered_bank (s : State) (n : Slot) (b : Buttons) : (s.setDelivered n b).bank = s.bank := rfl
@[simp] theorem State.setDelivered_mgi (s : State) (n : Slot) (b : Buttons) : (s.setDelivered n b).mgi = s.mgi := rfl
@[simp] theorem State.setDelivered_pl (s : State) (n : Slot) (b : Buttons) : (s.setDelivered n b).pl = s.pl := rfl
@[simp] theorem State.setDelivered_flash (s : State) (n : Slot) (b : Buttons) : (s.setDelivered n b).flash = s.flash := rfl
@[simp] theorem State.setDelivered_cuts (s : State) (n : Slot) (b : Buttons) : (s.setDelivered n b).cuts = s.cuts := rfl

@[simp] theorem State.startTimer_pending (s : State) (i : TimerId) : (s.startTimer i).pending = s.pending := rfl
@[simp] theorem State.startTimer_resetLine (s : State) (i : TimerId) : (s.startTimer i).resetLine = s.resetLine := rfl
@[simp] theorem State.startTimer_tables (s : State) (i : TimerId) : (s.startTimer i).tables = s.tables := rfl
@[simp] theorem State.startTimer_ciu (s : State) (i : TimerId) : (s.startTimer i).ciu = s.ciu := rfl
@[simp] theorem State.startTimer_fc (s : State) (i : TimerId) : (s.startTimer i).fc = s.fc := rfl
@[simp] theorem State.startTimer_hkm (s : State) (i : TimerId) : (s.startTimer i).hkm = s.hkm := rfl
@[simp] theorem State.startTimer_gu (s : State) (i : TimerId) : (s.startTimer i).gu = s.gu := rfl
@[simp] theorem State.startTimer_ports (s : State) (i : TimerId) : (s.startTimer i).ports = s.ports := rfl
@[simp] theorem State.startTimer_wakes (s : State) (i : TimerId) : (s.startTimer i).wakes = s.wakes := rfl
@[simp] theorem State.startTimer_atu (s : State) (i : TimerId) : (s.startTimer i).atu = s.atu := rfl
@[simp] theorem State.startTimer_channels (s : State) (i : TimerId) : (s.startTimer i).channels = s.channels := rfl
@[simp] theorem State.startTimer_cmp (s : State) (i : TimerId) : (s.startTimer i).cmp = s.cmp := rfl
@[simp] theorem State.startTimer_mgi (s : State) (i : TimerId) : (s.startTimer i).mgi = s.mgi := rfl
@[simp] theorem State.startTimer_pl (s : State) (i : TimerId) : (s.startTimer i).pl = s.pl := rfl
@[simp] theorem State.startTimer_flash (s : State) (i : TimerId) : (s.startTimer i).flash = s.flash := rfl
@[simp] theorem State.startTimer_cuts (s : State) (i : TimerId) : (s.startTimer i).cuts = s.cuts := rfl

@[simp] theorem State.stopTimer_pending (s : State) (i : TimerId) : (s.stopTimer i).pending = s.pending := rfl
@[simp] theorem State.stopTimer_resetLine (s : State) (i : TimerId) : (s.stopTimer i).resetLine = s.resetLine := rfl
@[simp] theorem State.stopTimer_tables (s : State) (i : TimerId) : (s.stopTimer i).tables = s.tables := rfl
@[simp] theorem State.stopTimer_ciu (s : State) (i : TimerId) : (s.stopTimer i).ciu = s.ciu := rfl
@[simp] theorem State.stopTimer_fc (s : State) (i : TimerId) : (s.stopTimer i).fc = s.fc := rfl
@[simp] theorem State.stopTimer_hkm (s : State) (i : TimerId) : (s.stopTimer i).hkm = s.hkm := rfl
@[simp] theorem State.stopTimer_gu (s : State) (i : TimerId) : (s.stopTimer i).gu = s.gu := rfl
@[simp] theorem State.stopTimer_ports (s : State) (i : TimerId) : (s.stopTimer i).ports = s.ports := rfl
@[simp] theorem State.stopTimer_wakes (s : State) (i : TimerId) : (s.stopTimer i).wakes = s.wakes := rfl
@[simp] theorem State.stopTimer_atu (s : State) (i : TimerId) : (s.stopTimer i).atu = s.atu := rfl
@[simp] theorem State.stopTimer_channels (s : State) (i : TimerId) : (s.stopTimer i).channels = s.channels := rfl
@[simp] theorem State.stopTimer_cmp (s : State) (i : TimerId) : (s.stopTimer i).cmp = s.cmp := rfl
@[simp] theorem State.stopTimer_mgi (s : State) (i : TimerId) : (s.stopTimer i).mgi = s.mgi := rfl
@[simp] theorem State.stopTimer_pl (s : State) (i : TimerId) : (s.stopTimer i).pl = s.pl := rfl
@[simp] theorem State.stopTimer_flash (s : State) (i : TimerId) : (s.stopTimer i).flash = s.flash := rfl
@[simp] theorem State.stopTimer_cuts (s : State) (i : TimerId) : (s.stopTimer i).cuts = s.cuts := rfl

@[simp] theorem State.hold_pending (s : State) (k : Byte) (d : Destination) : (s.hold k d).pending = s.pending := rfl
@[simp] theorem State.hold_resetLine (s : State) (k : Byte) (d : Destination) : (s.hold k d).resetLine = s.resetLine := rfl
@[simp] theorem State.hold_tables (s : State) (k : Byte) (d : Destination) : (s.hold k d).tables = s.tables := rfl
@[simp] theorem State.hold_ciu (s : State) (k : Byte) (d : Destination) : (s.hold k d).ciu = s.ciu := rfl
@[simp] theorem State.hold_hkm (s : State) (k : Byte) (d : Destination) : (s.hold k d).hkm = s.hkm := rfl
@[simp] theorem State.hold_gu (s : State) (k : Byte) (d : Destination) : (s.hold k d).gu = s.gu := rfl
@[simp] theorem State.hold_ports (s : State) (k : Byte) (d : Destination) : (s.hold k d).ports = s.ports := rfl
@[simp] theorem State.hold_wakes (s : State) (k : Byte) (d : Destination) : (s.hold k d).wakes = s.wakes := rfl
@[simp] theorem State.hold_atu (s : State) (k : Byte) (d : Destination) : (s.hold k d).atu = s.atu := rfl
@[simp] theorem State.hold_channels (s : State) (k : Byte) (d : Destination) : (s.hold k d).channels = s.channels := rfl
@[simp] theorem State.hold_cmp (s : State) (k : Byte) (d : Destination) : (s.hold k d).cmp = s.cmp := rfl
@[simp] theorem State.hold_bank (s : State) (k : Byte) (d : Destination) : (s.hold k d).bank = s.bank := rfl
@[simp] theorem State.hold_mgi (s : State) (k : Byte) (d : Destination) : (s.hold k d).mgi = s.mgi := rfl
@[simp] theorem State.hold_pl (s : State) (k : Byte) (d : Destination) : (s.hold k d).pl = s.pl := rfl
@[simp] theorem State.hold_flash (s : State) (k : Byte) (d : Destination) : (s.hold k d).flash = s.flash := rfl
@[simp] theorem State.hold_cuts (s : State) (k : Byte) (d : Destination) : (s.hold k d).cuts = s.cuts := rfl

@[simp] theorem State.raiseEvent_pending (s : State) (e : EventKind) : (s.raiseEvent e).pending = s.pending := rfl
@[simp] theorem State.raiseEvent_resetLine (s : State) (e : EventKind) : (s.raiseEvent e).resetLine = s.resetLine := rfl
@[simp] theorem State.raiseEvent_tables (s : State) (e : EventKind) : (s.raiseEvent e).tables = s.tables := rfl
@[simp] theorem State.raiseEvent_ciu (s : State) (e : EventKind) : (s.raiseEvent e).ciu = s.ciu := rfl
@[simp] theorem State.raiseEvent_fc (s : State) (e : EventKind) : (s.raiseEvent e).fc = s.fc := rfl
@[simp] theorem State.raiseEvent_hkm (s : State) (e : EventKind) : (s.raiseEvent e).hkm = s.hkm := rfl
@[simp] theorem State.raiseEvent_gu (s : State) (e : EventKind) : (s.raiseEvent e).gu = s.gu := rfl
@[simp] theorem State.raiseEvent_ports (s : State) (e : EventKind) : (s.raiseEvent e).ports = s.ports := rfl
@[simp] theorem State.raiseEvent_wakes (s : State) (e : EventKind) : (s.raiseEvent e).wakes = s.wakes := rfl
@[simp] theorem State.raiseEvent_atu (s : State) (e : EventKind) : (s.raiseEvent e).atu = s.atu := rfl
@[simp] theorem State.raiseEvent_channels (s : State) (e : EventKind) : (s.raiseEvent e).channels = s.channels := rfl
@[simp] theorem State.raiseEvent_cmp (s : State) (e : EventKind) : (s.raiseEvent e).cmp = s.cmp := rfl
@[simp] theorem State.raiseEvent_bank (s : State) (e : EventKind) : (s.raiseEvent e).bank = s.bank := rfl
@[simp] theorem State.raiseEvent_pl (s : State) (e : EventKind) : (s.raiseEvent e).pl = s.pl := rfl
@[simp] theorem State.raiseEvent_flash (s : State) (e : EventKind) : (s.raiseEvent e).flash = s.flash := rfl
@[simp] theorem State.raiseEvent_cuts (s : State) (e : EventKind) : (s.raiseEvent e).cuts = s.cuts := rfl

@[simp] theorem State.updateLeds_pending (s : State) : (s.updateLeds).pending = s.pending := rfl
@[simp] theorem State.updateLeds_resetLine (s : State) : (s.updateLeds).resetLine = s.resetLine := rfl
@[simp] theorem State.updateLeds_tables (s : State) : (s.updateLeds).tables = s.tables := rfl
@[simp] theorem State.updateLeds_fc (s : State) : (s.updateLeds).fc = s.fc := rfl
@[simp] theorem State.updateLeds_hkm (s : State) : (s.updateLeds).hkm = s.hkm := rfl
@[simp] theorem State.updateLeds_gu (s : State) : (s.updateLeds).gu = s.gu := rfl
@[simp] theorem State.updateLeds_ports (s : State) : (s.updateLeds).ports = s.ports := rfl
@[simp] theorem State.updateLeds_wakes (s : State) : (s.updateLeds).wakes = s.wakes := rfl
@[simp] theorem State.updateLeds_atu (s : State) : (s.updateLeds).atu = s.atu := rfl
@[simp] theorem State.updateLeds_channels (s : State) : (s.updateLeds).channels = s.channels := rfl
@[simp] theorem State.updateLeds_cmp (s : State) : (s.updateLeds).cmp = s.cmp := rfl
@[simp] theorem State.updateLeds_bank (s : State) : (s.updateLeds).bank = s.bank := rfl
@[simp] theorem State.updateLeds_mgi (s : State) : (s.updateLeds).mgi = s.mgi := rfl
@[simp] theorem State.updateLeds_pl (s : State) : (s.updateLeds).pl = s.pl := rfl
@[simp] theorem State.updateLeds_flash (s : State) : (s.updateLeds).flash = s.flash := rfl
@[simp] theorem State.updateLeds_cuts (s : State) : (s.updateLeds).cuts = s.cuts := rfl

/-! ### One place of a block -/

theorem State.setPort_port (s : State) (n m : Slot) (p : Port) : (s.setPort n p).port m = if m = n then p else s.port m := by
  simp [State.port, State.setPort, Table.get_put]

@[simp] theorem State.setPort_port_same (s : State) (n : Slot) (p : Port) : (s.setPort n p).port n = p := by
  simp [State.setPort_port]

theorem State.setWake_wake (s : State) (n m : Slot) (w : WakeRecord) : (s.setWake n w).wake m = if m = n then w else s.wake m := by
  simp [State.wake, State.setWake, Table.get_put]

@[simp] theorem State.setWake_wake_same (s : State) (n : Slot) (w : WakeRecord) : (s.setWake n w).wake n = w := by
  simp [State.setWake_wake]

theorem State.setChannel_channel (s : State) (n m : SourceIx) (c : Channel) :
    (s.setChannel n c).channel m = if m = n then c else s.channel m := by
  simp [State.channel, State.setChannel, Table.get_put]

theorem State.setSent_sent (s : State) (n m : Slot) (k : KeyImage) : (s.setSent n k).sent m = if m = n then k else s.sent m := by
  simp [State.sent, State.setSent, Table.get_put]

theorem State.setDelivered_delivered (s : State) (n m : Slot) (b : Buttons) :
    (s.setDelivered n b).delivered m = if m = n then b else s.delivered m := by
  simp [State.delivered, State.setDelivered, Table.get_put]

/-! ### Timers -/

theorem Bank.timer_setTimer (b : Bank) (i j : TimerId) (w : Wait) :
    (b.setTimer i w).timer j = if j = i then w else b.timer j := by
  cases i <;> cases j <;> simp [Bank.setTimer, Bank.timer, Table.get_put]

theorem State.timer_startTimer (s : State) (i j : TimerId) :
    (s.startTimer i).timer j = if j = i then .running (s.tables.timing.get i.entry).duration 0 else s.timer j := by
  simp [State.timer, State.startTimer, Bank.timer_setTimer]

theorem State.timer_stopTimer (s : State) (i j : TimerId) :
    (s.stopTimer i).timer j = if j = i then .stopped else s.timer j := by
  simp [State.timer, State.stopTimer, Bank.timer_setTimer]

/-! ### Taking -/

theorem State.taking_iff (s : State) : s.taking = true ↔ s.resetLine = false ∧ s.pl.loader ≠ .loading := by
  simp [State.taking]

/-- What a guarded command answers while the part takes events. -/
theorem State.whenTaking_of_taking {s : State} (h : s.taking = true) (f : State → State) : s.whenTaking f = .next (f s) := by
  simp only [State.whenTaking, h, if_true]

/-- What a guarded command answers while RESET is asserted or a load runs. -/
theorem State.whenTaking_of_not_taking {s : State} (h : s.taking = false) (f : State → State) : s.whenTaking f = .next s := by
  simp [State.whenTaking, h]

/-- A guarded command always answers a next state. -/
theorem State.whenTaking_completes (s : State) (f : State → State) : ∃ t, s.whenTaking f = .next t := ⟨_, rfl⟩

end Sys2Proof.Machine
end

