-- ==== Sys2Proof/Laws/Accessors.lean ====
section
/-! SUPPORT. The named parts of the state (a slot's port, link, wake record and so on) under the updates that leave them alone:
one lemma each, true by definition. -/

namespace Sys2Proof.Machine

@[simp] theorem State.setPending_port (s : State) (x : List Instr) (j : Slot) : (s.setPending x).port j = s.port j := rfl
@[simp] theorem State.setPending_link (s : State) (x : List Instr) (j : Slot) : (s.setPending x).link j = s.link j := rfl
@[simp] theorem State.setPending_wake (s : State) (x : List Instr) (j : Slot) : (s.setPending x).wake j = s.wake j := rfl
@[simp] theorem State.setPending_channel (s : State) (x : List Instr) (j : SourceIx) : (s.setPending x).channel j = s.channel j := rfl
@[simp] theorem State.setPending_access (s : State) (x : List Instr) (j : Slot) : (s.setPending x).access j = s.access j := rfl
@[simp] theorem State.setPending_slotRecord (s : State) (x : List Instr) (j : Slot) : (s.setPending x).slotRecord j = s.slotRecord j := rfl
@[simp] theorem State.setPending_source (s : State) (x : List Instr) (j : SourceIx) : (s.setPending x).source j = s.source j := rfl
@[simp] theorem State.setPending_sent (s : State) (x : List Instr) (j : Slot) : (s.setPending x).sent j = s.sent j := rfl
@[simp] theorem State.setPending_delivered (s : State) (x : List Instr) (j : Slot) : (s.setPending x).delivered j = s.delivered j := rfl
@[simp] theorem State.setPending_timer (s : State) (x : List Instr) (j : TimerId) : (s.setPending x).timer j = s.timer j := rfl

@[simp] theorem State.setReset_port (s : State) (x : Bool) (j : Slot) : (s.setReset x).port j = s.port j := rfl
@[simp] theorem State.setReset_link (s : State) (x : Bool) (j : Slot) : (s.setReset x).link j = s.link j := rfl
@[simp] theorem State.setReset_wake (s : State) (x : Bool) (j : Slot) : (s.setReset x).wake j = s.wake j := rfl
@[simp] theorem State.setReset_channel (s : State) (x : Bool) (j : SourceIx) : (s.setReset x).channel j = s.channel j := rfl
@[simp] theorem State.setReset_access (s : State) (x : Bool) (j : Slot) : (s.setReset x).access j = s.access j := rfl
@[simp] theorem State.setReset_slotRecord (s : State) (x : Bool) (j : Slot) : (s.setReset x).slotRecord j = s.slotRecord j := rfl
@[simp] theorem State.setReset_source (s : State) (x : Bool) (j : SourceIx) : (s.setReset x).source j = s.source j := rfl
@[simp] theorem State.setReset_sent (s : State) (x : Bool) (j : Slot) : (s.setReset x).sent j = s.sent j := rfl
@[simp] theorem State.setReset_delivered (s : State) (x : Bool) (j : Slot) : (s.setReset x).delivered j = s.delivered j := rfl
@[simp] theorem State.setReset_timer (s : State) (x : Bool) (j : TimerId) : (s.setReset x).timer j = s.timer j := rfl

@[simp] theorem State.setTables_port (s : State) (x : Tables) (j : Slot) : (s.setTables x).port j = s.port j := rfl
@[simp] theorem State.setTables_link (s : State) (x : Tables) (j : Slot) : (s.setTables x).link j = s.link j := rfl
@[simp] theorem State.setTables_wake (s : State) (x : Tables) (j : Slot) : (s.setTables x).wake j = s.wake j := rfl
@[simp] theorem State.setTables_channel (s : State) (x : Tables) (j : SourceIx) : (s.setTables x).channel j = s.channel j := rfl
@[simp] theorem State.setTables_sent (s : State) (x : Tables) (j : Slot) : (s.setTables x).sent j = s.sent j := rfl
@[simp] theorem State.setTables_delivered (s : State) (x : Tables) (j : Slot) : (s.setTables x).delivered j = s.delivered j := rfl
@[simp] theorem State.setTables_timer (s : State) (x : Tables) (j : TimerId) : (s.setTables x).timer j = s.timer j := rfl

@[simp] theorem State.setCiu_port (s : State) (x : Ciu) (j : Slot) : (s.setCiu x).port j = s.port j := rfl
@[simp] theorem State.setCiu_link (s : State) (x : Ciu) (j : Slot) : (s.setCiu x).link j = s.link j := rfl
@[simp] theorem State.setCiu_wake (s : State) (x : Ciu) (j : Slot) : (s.setCiu x).wake j = s.wake j := rfl
@[simp] theorem State.setCiu_channel (s : State) (x : Ciu) (j : SourceIx) : (s.setCiu x).channel j = s.channel j := rfl
@[simp] theorem State.setCiu_access (s : State) (x : Ciu) (j : Slot) : (s.setCiu x).access j = s.access j := rfl
@[simp] theorem State.setCiu_slotRecord (s : State) (x : Ciu) (j : Slot) : (s.setCiu x).slotRecord j = s.slotRecord j := rfl
@[simp] theorem State.setCiu_source (s : State) (x : Ciu) (j : SourceIx) : (s.setCiu x).source j = s.source j := rfl
@[simp] theorem State.setCiu_sent (s : State) (x : Ciu) (j : Slot) : (s.setCiu x).sent j = s.sent j := rfl
@[simp] theorem State.setCiu_delivered (s : State) (x : Ciu) (j : Slot) : (s.setCiu x).delivered j = s.delivered j := rfl
@[simp] theorem State.setCiu_timer (s : State) (x : Ciu) (j : TimerId) : (s.setCiu x).timer j = s.timer j := rfl

@[simp] theorem State.setFc_port (s : State) (x : Fc) (j : Slot) : (s.setFc x).port j = s.port j := rfl
@[simp] theorem State.setFc_link (s : State) (x : Fc) (j : Slot) : (s.setFc x).link j = s.link j := rfl
@[simp] theorem State.setFc_wake (s : State) (x : Fc) (j : Slot) : (s.setFc x).wake j = s.wake j := rfl
@[simp] theorem State.setFc_channel (s : State) (x : Fc) (j : SourceIx) : (s.setFc x).channel j = s.channel j := rfl
@[simp] theorem State.setFc_access (s : State) (x : Fc) (j : Slot) : (s.setFc x).access j = s.access j := rfl
@[simp] theorem State.setFc_slotRecord (s : State) (x : Fc) (j : Slot) : (s.setFc x).slotRecord j = s.slotRecord j := rfl
@[simp] theorem State.setFc_source (s : State) (x : Fc) (j : SourceIx) : (s.setFc x).source j = s.source j := rfl
@[simp] theorem State.setFc_delivered (s : State) (x : Fc) (j : Slot) : (s.setFc x).delivered j = s.delivered j := rfl
@[simp] theorem State.setFc_timer (s : State) (x : Fc) (j : TimerId) : (s.setFc x).timer j = s.timer j := rfl

@[simp] theorem State.setHkm_port (s : State) (x : CommandState) (j : Slot) : (s.setHkm x).port j = s.port j := rfl
@[simp] theorem State.setHkm_link (s : State) (x : CommandState) (j : Slot) : (s.setHkm x).link j = s.link j := rfl
@[simp] theorem State.setHkm_wake (s : State) (x : CommandState) (j : Slot) : (s.setHkm x).wake j = s.wake j := rfl
@[simp] theorem State.setHkm_channel (s : State) (x : CommandState) (j : SourceIx) : (s.setHkm x).channel j = s.channel j := rfl
@[simp] theorem State.setHkm_access (s : State) (x : CommandState) (j : Slot) : (s.setHkm x).access j = s.access j := rfl
@[simp] theorem State.setHkm_slotRecord (s : State) (x : CommandState) (j : Slot) : (s.setHkm x).slotRecord j = s.slotRecord j := rfl
@[simp] theorem State.setHkm_source (s : State) (x : CommandState) (j : SourceIx) : (s.setHkm x).source j = s.source j := rfl
@[simp] theorem State.setHkm_sent (s : State) (x : CommandState) (j : Slot) : (s.setHkm x).sent j = s.sent j := rfl
@[simp] theorem State.setHkm_delivered (s : State) (x : CommandState) (j : Slot) : (s.setHkm x).delivered j = s.delivered j := rfl
@[simp] theorem State.setHkm_timer (s : State) (x : CommandState) (j : TimerId) : (s.setHkm x).timer j = s.timer j := rfl

@[simp] theorem State.setGu_port (s : State) (x : Gu) (j : Slot) : (s.setGu x).port j = s.port j := rfl
@[simp] theorem State.setGu_link (s : State) (x : Gu) (j : Slot) : (s.setGu x).link j = s.link j := rfl
@[simp] theorem State.setGu_wake (s : State) (x : Gu) (j : Slot) : (s.setGu x).wake j = s.wake j := rfl
@[simp] theorem State.setGu_channel (s : State) (x : Gu) (j : SourceIx) : (s.setGu x).channel j = s.channel j := rfl
@[simp] theorem State.setGu_access (s : State) (x : Gu) (j : Slot) : (s.setGu x).access j = s.access j := rfl
@[simp] theorem State.setGu_slotRecord (s : State) (x : Gu) (j : Slot) : (s.setGu x).slotRecord j = s.slotRecord j := rfl
@[simp] theorem State.setGu_source (s : State) (x : Gu) (j : SourceIx) : (s.setGu x).source j = s.source j := rfl
@[simp] theorem State.setGu_sent (s : State) (x : Gu) (j : Slot) : (s.setGu x).sent j = s.sent j := rfl
@[simp] theorem State.setGu_timer (s : State) (x : Gu) (j : TimerId) : (s.setGu x).timer j = s.timer j := rfl

@[simp] theorem State.setPorts_wake (s : State) (x : Table Port 8) (j : Slot) : (s.setPorts x).wake j = s.wake j := rfl
@[simp] theorem State.setPorts_channel (s : State) (x : Table Port 8) (j : SourceIx) : (s.setPorts x).channel j = s.channel j := rfl
@[simp] theorem State.setPorts_access (s : State) (x : Table Port 8) (j : Slot) : (s.setPorts x).access j = s.access j := rfl
@[simp] theorem State.setPorts_slotRecord (s : State) (x : Table Port 8) (j : Slot) : (s.setPorts x).slotRecord j = s.slotRecord j := rfl
@[simp] theorem State.setPorts_source (s : State) (x : Table Port 8) (j : SourceIx) : (s.setPorts x).source j = s.source j := rfl
@[simp] theorem State.setPorts_sent (s : State) (x : Table Port 8) (j : Slot) : (s.setPorts x).sent j = s.sent j := rfl
@[simp] theorem State.setPorts_delivered (s : State) (x : Table Port 8) (j : Slot) : (s.setPorts x).delivered j = s.delivered j := rfl
@[simp] theorem State.setPorts_timer (s : State) (x : Table Port 8) (j : TimerId) : (s.setPorts x).timer j = s.timer j := rfl

@[simp] theorem State.setWakes_port (s : State) (x : Table WakeRecord 8) (j : Slot) : (s.setWakes x).port j = s.port j := rfl
@[simp] theorem State.setWakes_link (s : State) (x : Table WakeRecord 8) (j : Slot) : (s.setWakes x).link j = s.link j := rfl
@[simp] theorem State.setWakes_channel (s : State) (x : Table WakeRecord 8) (j : SourceIx) : (s.setWakes x).channel j = s.channel j := rfl
@[simp] theorem State.setWakes_access (s : State) (x : Table WakeRecord 8) (j : Slot) : (s.setWakes x).access j = s.access j := rfl
@[simp] theorem State.setWakes_slotRecord (s : State) (x : Table WakeRecord 8) (j : Slot) : (s.setWakes x).slotRecord j = s.slotRecord j := rfl
@[simp] theorem State.setWakes_source (s : State) (x : Table WakeRecord 8) (j : SourceIx) : (s.setWakes x).source j = s.source j := rfl
@[simp] theorem State.setWakes_sent (s : State) (x : Table WakeRecord 8) (j : Slot) : (s.setWakes x).sent j = s.sent j := rfl
@[simp] theorem State.setWakes_delivered (s : State) (x : Table WakeRecord 8) (j : Slot) : (s.setWakes x).delivered j = s.delivered j := rfl
@[simp] theorem State.setWakes_timer (s : State) (x : Table WakeRecord 8) (j : TimerId) : (s.setWakes x).timer j = s.timer j := rfl

@[simp] theorem State.setAtu_port (s : State) (x : Atu) (j : Slot) : (s.setAtu x).port j = s.port j := rfl
@[simp] theorem State.setAtu_link (s : State) (x : Atu) (j : Slot) : (s.setAtu x).link j = s.link j := rfl
@[simp] theorem State.setAtu_wake (s : State) (x : Atu) (j : Slot) : (s.setAtu x).wake j = s.wake j := rfl
@[simp] theorem State.setAtu_channel (s : State) (x : Atu) (j : SourceIx) : (s.setAtu x).channel j = s.channel j := rfl
@[simp] theorem State.setAtu_access (s : State) (x : Atu) (j : Slot) : (s.setAtu x).access j = s.access j := rfl
@[simp] theorem State.setAtu_slotRecord (s : State) (x : Atu) (j : Slot) : (s.setAtu x).slotRecord j = s.slotRecord j := rfl
@[simp] theorem State.setAtu_source (s : State) (x : Atu) (j : SourceIx) : (s.setAtu x).source j = s.source j := rfl
@[simp] theorem State.setAtu_sent (s : State) (x : Atu) (j : Slot) : (s.setAtu x).sent j = s.sent j := rfl
@[simp] theorem State.setAtu_delivered (s : State) (x : Atu) (j : Slot) : (s.setAtu x).delivered j = s.delivered j := rfl
@[simp] theorem State.setAtu_timer (s : State) (x : Atu) (j : TimerId) : (s.setAtu x).timer j = s.timer j := rfl

@[simp] theorem State.setChannels_port (s : State) (x : Table Channel 16) (j : Slot) : (s.setChannels x).port j = s.port j := rfl
@[simp] theorem State.setChannels_link (s : State) (x : Table Channel 16) (j : Slot) : (s.setChannels x).link j = s.link j := rfl
@[simp] theorem State.setChannels_wake (s : State) (x : Table Channel 16) (j : Slot) : (s.setChannels x).wake j = s.wake j := rfl
@[simp] theorem State.setChannels_access (s : State) (x : Table Channel 16) (j : Slot) : (s.setChannels x).access j = s.access j := rfl
@[simp] theorem State.setChannels_slotRecord (s : State) (x : Table Channel 16) (j : Slot) : (s.setChannels x).slotRecord j = s.slotRecord j := rfl
@[simp] theorem State.setChannels_source (s : State) (x : Table Channel 16) (j : SourceIx) : (s.setChannels x).source j = s.source j := rfl
@[simp] theorem State.setChannels_sent (s : State) (x : Table Channel 16) (j : Slot) : (s.setChannels x).sent j = s.sent j := rfl
@[simp] theorem State.setChannels_delivered (s : State) (x : Table Channel 16) (j : Slot) : (s.setChannels x).delivered j = s.delivered j := rfl
@[simp] theorem State.setChannels_timer (s : State) (x : Table Channel 16) (j : TimerId) : (s.setChannels x).timer j = s.timer j := rfl

@[simp] theorem State.setCmp_port (s : State) (x : Cmp) (j : Slot) : (s.setCmp x).port j = s.port j := rfl
@[simp] theorem State.setCmp_link (s : State) (x : Cmp) (j : Slot) : (s.setCmp x).link j = s.link j := rfl
@[simp] theorem State.setCmp_wake (s : State) (x : Cmp) (j : Slot) : (s.setCmp x).wake j = s.wake j := rfl
@[simp] theorem State.setCmp_channel (s : State) (x : Cmp) (j : SourceIx) : (s.setCmp x).channel j = s.channel j := rfl
@[simp] theorem State.setCmp_access (s : State) (x : Cmp) (j : Slot) : (s.setCmp x).access j = s.access j := rfl
@[simp] theorem State.setCmp_slotRecord (s : State) (x : Cmp) (j : Slot) : (s.setCmp x).slotRecord j = s.slotRecord j := rfl
@[simp] theorem State.setCmp_source (s : State) (x : Cmp) (j : SourceIx) : (s.setCmp x).source j = s.source j := rfl
@[simp] theorem State.setCmp_sent (s : State) (x : Cmp) (j : Slot) : (s.setCmp x).sent j = s.sent j := rfl
@[simp] theorem State.setCmp_delivered (s : State) (x : Cmp) (j : Slot) : (s.setCmp x).delivered j = s.delivered j := rfl
@[simp] theorem State.setCmp_timer (s : State) (x : Cmp) (j : TimerId) : (s.setCmp x).timer j = s.timer j := rfl

@[simp] theorem State.setBank_port (s : State) (x : Bank) (j : Slot) : (s.setBank x).port j = s.port j := rfl
@[simp] theorem State.setBank_link (s : State) (x : Bank) (j : Slot) : (s.setBank x).link j = s.link j := rfl
@[simp] theorem State.setBank_wake (s : State) (x : Bank) (j : Slot) : (s.setBank x).wake j = s.wake j := rfl
@[simp] theorem State.setBank_channel (s : State) (x : Bank) (j : SourceIx) : (s.setBank x).channel j = s.channel j := rfl
@[simp] theorem State.setBank_access (s : State) (x : Bank) (j : Slot) : (s.setBank x).access j = s.access j := rfl
@[simp] theorem State.setBank_slotRecord (s : State) (x : Bank) (j : Slot) : (s.setBank x).slotRecord j = s.slotRecord j := rfl
@[simp] theorem State.setBank_source (s : State) (x : Bank) (j : SourceIx) : (s.setBank x).source j = s.source j := rfl
@[simp] theorem State.setBank_sent (s : State) (x : Bank) (j : Slot) : (s.setBank x).sent j = s.sent j := rfl
@[simp] theorem State.setBank_delivered (s : State) (x : Bank) (j : Slot) : (s.setBank x).delivered j = s.delivered j := rfl

@[simp] theorem State.setMgi_port (s : State) (x : Mgi) (j : Slot) : (s.setMgi x).port j = s.port j := rfl
@[simp] theorem State.setMgi_link (s : State) (x : Mgi) (j : Slot) : (s.setMgi x).link j = s.link j := rfl
@[simp] theorem State.setMgi_wake (s : State) (x : Mgi) (j : Slot) : (s.setMgi x).wake j = s.wake j := rfl
@[simp] theorem State.setMgi_channel (s : State) (x : Mgi) (j : SourceIx) : (s.setMgi x).channel j = s.channel j := rfl
@[simp] theorem State.setMgi_access (s : State) (x : Mgi) (j : Slot) : (s.setMgi x).access j = s.access j := rfl
@[simp] theorem State.setMgi_slotRecord (s : State) (x : Mgi) (j : Slot) : (s.setMgi x).slotRecord j = s.slotRecord j := rfl
@[simp] theorem State.setMgi_source (s : State) (x : Mgi) (j : SourceIx) : (s.setMgi x).source j = s.source j := rfl
@[simp] theorem State.setMgi_sent (s : State) (x : Mgi) (j : Slot) : (s.setMgi x).sent j = s.sent j := rfl
@[simp] theorem State.setMgi_delivered (s : State) (x : Mgi) (j : Slot) : (s.setMgi x).delivered j = s.delivered j := rfl
@[simp] theorem State.setMgi_timer (s : State) (x : Mgi) (j : TimerId) : (s.setMgi x).timer j = s.timer j := rfl

@[simp] theorem State.setPl_port (s : State) (x : Pl) (j : Slot) : (s.setPl x).port j = s.port j := rfl
@[simp] theorem State.setPl_link (s : State) (x : Pl) (j : Slot) : (s.setPl x).link j = s.link j := rfl
@[simp] theorem State.setPl_wake (s : State) (x : Pl) (j : Slot) : (s.setPl x).wake j = s.wake j := rfl
@[simp] theorem State.setPl_channel (s : State) (x : Pl) (j : SourceIx) : (s.setPl x).channel j = s.channel j := rfl
@[simp] theorem State.setPl_access (s : State) (x : Pl) (j : Slot) : (s.setPl x).access j = s.access j := rfl
@[simp] theorem State.setPl_slotRecord (s : State) (x : Pl) (j : Slot) : (s.setPl x).slotRecord j = s.slotRecord j := rfl
@[simp] theorem State.setPl_source (s : State) (x : Pl) (j : SourceIx) : (s.setPl x).source j = s.source j := rfl
@[simp] theorem State.setPl_sent (s : State) (x : Pl) (j : Slot) : (s.setPl x).sent j = s.sent j := rfl
@[simp] theorem State.setPl_delivered (s : State) (x : Pl) (j : Slot) : (s.setPl x).delivered j = s.delivered j := rfl
@[simp] theorem State.setPl_timer (s : State) (x : Pl) (j : TimerId) : (s.setPl x).timer j = s.timer j := rfl

@[simp] theorem State.setFlash_port (s : State) (x : Memory) (j : Slot) : (s.setFlash x).port j = s.port j := rfl
@[simp] theorem State.setFlash_link (s : State) (x : Memory) (j : Slot) : (s.setFlash x).link j = s.link j := rfl
@[simp] theorem State.setFlash_wake (s : State) (x : Memory) (j : Slot) : (s.setFlash x).wake j = s.wake j := rfl
@[simp] theorem State.setFlash_channel (s : State) (x : Memory) (j : SourceIx) : (s.setFlash x).channel j = s.channel j := rfl
@[simp] theorem State.setFlash_access (s : State) (x : Memory) (j : Slot) : (s.setFlash x).access j = s.access j := rfl
@[simp] theorem State.setFlash_slotRecord (s : State) (x : Memory) (j : Slot) : (s.setFlash x).slotRecord j = s.slotRecord j := rfl
@[simp] theorem State.setFlash_source (s : State) (x : Memory) (j : SourceIx) : (s.setFlash x).source j = s.source j := rfl
@[simp] theorem State.setFlash_sent (s : State) (x : Memory) (j : Slot) : (s.setFlash x).sent j = s.sent j := rfl
@[simp] theorem State.setFlash_delivered (s : State) (x : Memory) (j : Slot) : (s.setFlash x).delivered j = s.delivered j := rfl
@[simp] theorem State.setFlash_timer (s : State) (x : Memory) (j : TimerId) : (s.setFlash x).timer j = s.timer j := rfl

@[simp] theorem State.setCuts_port (s : State) (x : Nat) (j : Slot) : (s.setCuts x).port j = s.port j := rfl
@[simp] theorem State.setCuts_link (s : State) (x : Nat) (j : Slot) : (s.setCuts x).link j = s.link j := rfl
@[simp] theorem State.setCuts_wake (s : State) (x : Nat) (j : Slot) : (s.setCuts x).wake j = s.wake j := rfl
@[simp] theorem State.setCuts_channel (s : State) (x : Nat) (j : SourceIx) : (s.setCuts x).channel j = s.channel j := rfl
@[simp] theorem State.setCuts_access (s : State) (x : Nat) (j : Slot) : (s.setCuts x).access j = s.access j := rfl
@[simp] theorem State.setCuts_slotRecord (s : State) (x : Nat) (j : Slot) : (s.setCuts x).slotRecord j = s.slotRecord j := rfl
@[simp] theorem State.setCuts_source (s : State) (x : Nat) (j : SourceIx) : (s.setCuts x).source j = s.source j := rfl
@[simp] theorem State.setCuts_sent (s : State) (x : Nat) (j : Slot) : (s.setCuts x).sent j = s.sent j := rfl
@[simp] theorem State.setCuts_delivered (s : State) (x : Nat) (j : Slot) : (s.setCuts x).delivered j = s.delivered j := rfl
@[simp] theorem State.setCuts_timer (s : State) (x : Nat) (j : TimerId) : (s.setCuts x).timer j = s.timer j := rfl

@[simp] theorem State.setPort_wake (s : State) (n : Slot) (p : Port) (j : Slot) : (s.setPort n p).wake j = s.wake j := rfl
@[simp] theorem State.setPort_channel (s : State) (n : Slot) (p : Port) (j : SourceIx) : (s.setPort n p).channel j = s.channel j := rfl
@[simp] theorem State.setPort_access (s : State) (n : Slot) (p : Port) (j : Slot) : (s.setPort n p).access j = s.access j := rfl
@[simp] theorem State.setPort_slotRecord (s : State) (n : Slot) (p : Port) (j : Slot) : (s.setPort n p).slotRecord j = s.slotRecord j := rfl
@[simp] theorem State.setPort_source (s : State) (n : Slot) (p : Port) (j : SourceIx) : (s.setPort n p).source j = s.source j := rfl
@[simp] theorem State.setPort_sent (s : State) (n : Slot) (p : Port) (j : Slot) : (s.setPort n p).sent j = s.sent j := rfl
@[simp] theorem State.setPort_delivered (s : State) (n : Slot) (p : Port) (j : Slot) : (s.setPort n p).delivered j = s.delivered j := rfl
@[simp] theorem State.setPort_timer (s : State) (n : Slot) (p : Port) (j : TimerId) : (s.setPort n p).timer j = s.timer j := rfl

@[simp] theorem State.setWake_port (s : State) (n : Slot) (w : WakeRecord) (j : Slot) : (s.setWake n w).port j = s.port j := rfl
@[simp] theorem State.setWake_link (s : State) (n : Slot) (w : WakeRecord) (j : Slot) : (s.setWake n w).link j = s.link j := rfl
@[simp] theorem State.setWake_channel (s : State) (n : Slot) (w : WakeRecord) (j : SourceIx) : (s.setWake n w).channel j = s.channel j := rfl
@[simp] theorem State.setWake_access (s : State) (n : Slot) (w : WakeRecord) (j : Slot) : (s.setWake n w).access j = s.access j := rfl
@[simp] theorem State.setWake_slotRecord (s : State) (n : Slot) (w : WakeRecord) (j : Slot) : (s.setWake n w).slotRecord j = s.slotRecord j := rfl
@[simp] theorem State.setWake_source (s : State) (n : Slot) (w : WakeRecord) (j : SourceIx) : (s.setWake n w).source j = s.source j := rfl
@[simp] theorem State.setWake_sent (s : State) (n : Slot) (w : WakeRecord) (j : Slot) : (s.setWake n w).sent j = s.sent j := rfl
@[simp] theorem State.setWake_delivered (s : State) (n : Slot) (w : WakeRecord) (j : Slot) : (s.setWake n w).delivered j = s.delivered j := rfl
@[simp] theorem State.setWake_timer (s : State) (n : Slot) (w : WakeRecord) (j : TimerId) : (s.setWake n w).timer j = s.timer j := rfl

@[simp] theorem State.setChannel_port (s : State) (n : SourceIx) (c : Channel) (j : Slot) : (s.setChannel n c).port j = s.port j := rfl
@[simp] theorem State.setChannel_link (s : State) (n : SourceIx) (c : Channel) (j : Slot) : (s.setChannel n c).link j = s.link j := rfl
@[simp] theorem State.setChannel_wake (s : State) (n : SourceIx) (c : Channel) (j : Slot) : (s.setChannel n c).wake j = s.wake j := rfl
@[simp] theorem State.setChannel_access (s : State) (n : SourceIx) (c : Channel) (j : Slot) : (s.setChannel n c).access j = s.access j := rfl
@[simp] theorem State.setChannel_slotRecord (s : State) (n : SourceIx) (c : Channel) (j : Slot) : (s.setChannel n c).slotRecord j = s.slotRecord j := rfl
@[simp] theorem State.setChannel_source (s : State) (n : SourceIx) (c : Channel) (j : SourceIx) : (s.setChannel n c).source j = s.source j := rfl
@[simp] theorem State.setChannel_sent (s : State) (n : SourceIx) (c : Channel) (j : Slot) : (s.setChannel n c).sent j = s.sent j := rfl
@[simp] theorem State.setChannel_delivered (s : State) (n : SourceIx) (c : Channel) (j : Slot) : (s.setChannel n c).delivered j = s.delivered j := rfl
@[simp] theorem State.setChannel_timer (s : State) (n : SourceIx) (c : Channel) (j : TimerId) : (s.setChannel n c).timer j = s.timer j := rfl

@[simp] theorem State.setSent_port (s : State) (n : Slot) (k : KeyImage) (j : Slot) : (s.setSent n k).port j = s.port j := rfl
@[simp] theorem State.setSent_link (s : State) (n : Slot) (k : KeyImage) (j : Slot) : (s.setSent n k).link j = s.link j := rfl
@[simp] theorem State.setSent_wake (s : State) (n : Slot) (k : KeyImage) (j : Slot) : (s.setSent n k).wake j = s.wake j := rfl
@[simp] theorem State.setSent_channel (s : State) (n : Slot) (k : KeyImage) (j : SourceIx) : (s.setSent n k).channel j = s.channel j := rfl
@[simp] theorem State.setSent_access (s : State) (n : Slot) (k : KeyImage) (j : Slot) : (s.setSent n k).access j = s.access j := rfl
@[simp] theorem State.setSent_slotRecord (s : State) (n : Slot) (k : KeyImage) (j : Slot) : (s.setSent n k).slotRecord j = s.slotRecord j := rfl
@[simp] theorem State.setSent_source (s : State) (n : Slot) (k : KeyImage) (j : SourceIx) : (s.setSent n k).source j = s.source j := rfl
@[simp] theorem State.setSent_delivered (s : State) (n : Slot) (k : KeyImage) (j : Slot) : (s.setSent n k).delivered j = s.delivered j := rfl
@[simp] theorem State.setSent_timer (s : State) (n : Slot) (k : KeyImage) (j : TimerId) : (s.setSent n k).timer j = s.timer j := rfl

@[simp] theorem State.setDelivered_port (s : State) (n : Slot) (b : Buttons) (j : Slot) : (s.setDelivered n b).port j = s.port j := rfl
@[simp] theorem State.setDelivered_link (s : State) (n : Slot) (b : Buttons) (j : Slot) : (s.setDelivered n b).link j = s.link j := rfl
@[simp] theorem State.setDelivered_wake (s : State) (n : Slot) (b : Buttons) (j : Slot) : (s.setDelivered n b).wake j = s.wake j := rfl
@[simp] theorem State.setDelivered_channel (s : State) (n : Slot) (b : Buttons) (j : SourceIx) : (s.setDelivered n b).channel j = s.channel j := rfl
@[simp] theorem State.setDelivered_access (s : State) (n : Slot) (b : Buttons) (j : Slot) : (s.setDelivered n b).access j = s.access j := rfl
@[simp] theorem State.setDelivered_slotRecord (s : State) (n : Slot) (b : Buttons) (j : Slot) : (s.setDelivered n b).slotRecord j = s.slotRecord j := rfl
@[simp] theorem State.setDelivered_source (s : State) (n : Slot) (b : Buttons) (j : SourceIx) : (s.setDelivered n b).source j = s.source j := rfl
@[simp] theorem State.setDelivered_sent (s : State) (n : Slot) (b : Buttons) (j : Slot) : (s.setDelivered n b).sent j = s.sent j := rfl
@[simp] theorem State.setDelivered_timer (s : State) (n : Slot) (b : Buttons) (j : TimerId) : (s.setDelivered n b).timer j = s.timer j := rfl

@[simp] theorem State.startTimer_port (s : State) (i : TimerId) (j : Slot) : (s.startTimer i).port j = s.port j := rfl
@[simp] theorem State.startTimer_link (s : State) (i : TimerId) (j : Slot) : (s.startTimer i).link j = s.link j := rfl
@[simp] theorem State.startTimer_wake (s : State) (i : TimerId) (j : Slot) : (s.startTimer i).wake j = s.wake j := rfl
@[simp] theorem State.startTimer_channel (s : State) (i : TimerId) (j : SourceIx) : (s.startTimer i).channel j = s.channel j := rfl
@[simp] theorem State.startTimer_access (s : State) (i : TimerId) (j : Slot) : (s.startTimer i).access j = s.access j := rfl
@[simp] theorem State.startTimer_slotRecord (s : State) (i : TimerId) (j : Slot) : (s.startTimer i).slotRecord j = s.slotRecord j := rfl
@[simp] theorem State.startTimer_source (s : State) (i : TimerId) (j : SourceIx) : (s.startTimer i).source j = s.source j := rfl
@[simp] theorem State.startTimer_sent (s : State) (i : TimerId) (j : Slot) : (s.startTimer i).sent j = s.sent j := rfl
@[simp] theorem State.startTimer_delivered (s : State) (i : TimerId) (j : Slot) : (s.startTimer i).delivered j = s.delivered j := rfl

@[simp] theorem State.stopTimer_port (s : State) (i : TimerId) (j : Slot) : (s.stopTimer i).port j = s.port j := rfl
@[simp] theorem State.stopTimer_link (s : State) (i : TimerId) (j : Slot) : (s.stopTimer i).link j = s.link j := rfl
@[simp] theorem State.stopTimer_wake (s : State) (i : TimerId) (j : Slot) : (s.stopTimer i).wake j = s.wake j := rfl
@[simp] theorem State.stopTimer_channel (s : State) (i : TimerId) (j : SourceIx) : (s.stopTimer i).channel j = s.channel j := rfl
@[simp] theorem State.stopTimer_access (s : State) (i : TimerId) (j : Slot) : (s.stopTimer i).access j = s.access j := rfl
@[simp] theorem State.stopTimer_slotRecord (s : State) (i : TimerId) (j : Slot) : (s.stopTimer i).slotRecord j = s.slotRecord j := rfl
@[simp] theorem State.stopTimer_source (s : State) (i : TimerId) (j : SourceIx) : (s.stopTimer i).source j = s.source j := rfl
@[simp] theorem State.stopTimer_sent (s : State) (i : TimerId) (j : Slot) : (s.stopTimer i).sent j = s.sent j := rfl
@[simp] theorem State.stopTimer_delivered (s : State) (i : TimerId) (j : Slot) : (s.stopTimer i).delivered j = s.delivered j := rfl

@[simp] theorem State.hold_port (s : State) (k : Byte) (d : Destination) (j : Slot) : (s.hold k d).port j = s.port j := rfl
@[simp] theorem State.hold_link (s : State) (k : Byte) (d : Destination) (j : Slot) : (s.hold k d).link j = s.link j := rfl
@[simp] theorem State.hold_wake (s : State) (k : Byte) (d : Destination) (j : Slot) : (s.hold k d).wake j = s.wake j := rfl
@[simp] theorem State.hold_channel (s : State) (k : Byte) (d : Destination) (j : SourceIx) : (s.hold k d).channel j = s.channel j := rfl
@[simp] theorem State.hold_access (s : State) (k : Byte) (d : Destination) (j : Slot) : (s.hold k d).access j = s.access j := rfl
@[simp] theorem State.hold_slotRecord (s : State) (k : Byte) (d : Destination) (j : Slot) : (s.hold k d).slotRecord j = s.slotRecord j := rfl
@[simp] theorem State.hold_source (s : State) (k : Byte) (d : Destination) (j : SourceIx) : (s.hold k d).source j = s.source j := rfl
@[simp] theorem State.hold_delivered (s : State) (k : Byte) (d : Destination) (j : Slot) : (s.hold k d).delivered j = s.delivered j := rfl
@[simp] theorem State.hold_timer (s : State) (k : Byte) (d : Destination) (j : TimerId) : (s.hold k d).timer j = s.timer j := rfl

@[simp] theorem State.raiseEvent_port (s : State) (e : EventKind) (j : Slot) : (s.raiseEvent e).port j = s.port j := rfl
@[simp] theorem State.raiseEvent_link (s : State) (e : EventKind) (j : Slot) : (s.raiseEvent e).link j = s.link j := rfl
@[simp] theorem State.raiseEvent_wake (s : State) (e : EventKind) (j : Slot) : (s.raiseEvent e).wake j = s.wake j := rfl
@[simp] theorem State.raiseEvent_channel (s : State) (e : EventKind) (j : SourceIx) : (s.raiseEvent e).channel j = s.channel j := rfl
@[simp] theorem State.raiseEvent_access (s : State) (e : EventKind) (j : Slot) : (s.raiseEvent e).access j = s.access j := rfl
@[simp] theorem State.raiseEvent_slotRecord (s : State) (e : EventKind) (j : Slot) : (s.raiseEvent e).slotRecord j = s.slotRecord j := rfl
@[simp] theorem State.raiseEvent_source (s : State) (e : EventKind) (j : SourceIx) : (s.raiseEvent e).source j = s.source j := rfl
@[simp] theorem State.raiseEvent_sent (s : State) (e : EventKind) (j : Slot) : (s.raiseEvent e).sent j = s.sent j := rfl
@[simp] theorem State.raiseEvent_delivered (s : State) (e : EventKind) (j : Slot) : (s.raiseEvent e).delivered j = s.delivered j := rfl
@[simp] theorem State.raiseEvent_timer (s : State) (e : EventKind) (j : TimerId) : (s.raiseEvent e).timer j = s.timer j := rfl

@[simp] theorem State.updateLeds_port (s : State) (j : Slot) : (s.updateLeds).port j = s.port j := rfl
@[simp] theorem State.updateLeds_link (s : State) (j : Slot) : (s.updateLeds).link j = s.link j := rfl
@[simp] theorem State.updateLeds_wake (s : State) (j : Slot) : (s.updateLeds).wake j = s.wake j := rfl
@[simp] theorem State.updateLeds_channel (s : State) (j : SourceIx) : (s.updateLeds).channel j = s.channel j := rfl
@[simp] theorem State.updateLeds_access (s : State) (j : Slot) : (s.updateLeds).access j = s.access j := rfl
@[simp] theorem State.updateLeds_slotRecord (s : State) (j : Slot) : (s.updateLeds).slotRecord j = s.slotRecord j := rfl
@[simp] theorem State.updateLeds_source (s : State) (j : SourceIx) : (s.updateLeds).source j = s.source j := rfl
@[simp] theorem State.updateLeds_sent (s : State) (j : Slot) : (s.updateLeds).sent j = s.sent j := rfl
@[simp] theorem State.updateLeds_delivered (s : State) (j : Slot) : (s.updateLeds).delivered j = s.delivered j := rfl
@[simp] theorem State.updateLeds_timer (s : State) (j : TimerId) : (s.updateLeds).timer j = s.timer j := rfl

@[simp] theorem State.stopWakeTimers_port (s : State) (n : Slot) (j : Slot) : (s.stopWakeTimers n).port j = s.port j := rfl
@[simp] theorem State.stopWakeTimers_link (s : State) (n : Slot) (j : Slot) : (s.stopWakeTimers n).link j = s.link j := rfl
@[simp] theorem State.stopWakeTimers_wake (s : State) (n : Slot) (j : Slot) : (s.stopWakeTimers n).wake j = s.wake j := rfl
@[simp] theorem State.stopWakeTimers_channel (s : State) (n : Slot) (j : SourceIx) : (s.stopWakeTimers n).channel j = s.channel j := rfl
@[simp] theorem State.stopWakeTimers_access (s : State) (n : Slot) (j : Slot) : (s.stopWakeTimers n).access j = s.access j := rfl
@[simp] theorem State.stopWakeTimers_slotRecord (s : State) (n : Slot) (j : Slot) : (s.stopWakeTimers n).slotRecord j = s.slotRecord j := rfl
@[simp] theorem State.stopWakeTimers_source (s : State) (n : Slot) (j : SourceIx) : (s.stopWakeTimers n).source j = s.source j := rfl
@[simp] theorem State.stopWakeTimers_sent (s : State) (n : Slot) (j : Slot) : (s.stopWakeTimers n).sent j = s.sent j := rfl
@[simp] theorem State.stopWakeTimers_delivered (s : State) (n : Slot) (j : Slot) : (s.stopWakeTimers n).delivered j = s.delivered j := rfl

@[simp] theorem State.setPhase_port (s : State) (n : Slot) (p : Phase) (j : Slot) : (s.setPhase n p).port j = s.port j := rfl
@[simp] theorem State.setPhase_link (s : State) (n : Slot) (p : Phase) (j : Slot) : (s.setPhase n p).link j = s.link j := rfl
@[simp] theorem State.setPhase_channel (s : State) (n : Slot) (p : Phase) (j : SourceIx) : (s.setPhase n p).channel j = s.channel j := rfl
@[simp] theorem State.setPhase_access (s : State) (n : Slot) (p : Phase) (j : Slot) : (s.setPhase n p).access j = s.access j := rfl
@[simp] theorem State.setPhase_slotRecord (s : State) (n : Slot) (p : Phase) (j : Slot) : (s.setPhase n p).slotRecord j = s.slotRecord j := rfl
@[simp] theorem State.setPhase_source (s : State) (n : Slot) (p : Phase) (j : SourceIx) : (s.setPhase n p).source j = s.source j := rfl
@[simp] theorem State.setPhase_sent (s : State) (n : Slot) (p : Phase) (j : Slot) : (s.setPhase n p).sent j = s.sent j := rfl
@[simp] theorem State.setPhase_delivered (s : State) (n : Slot) (p : Phase) (j : Slot) : (s.setPhase n p).delivered j = s.delivered j := rfl
@[simp] theorem State.setPhase_timer (s : State) (n : Slot) (p : Phase) (j : TimerId) : (s.setPhase n p).timer j = s.timer j := rfl

end Sys2Proof.Machine
end

