-- ==== Sys2Proof/Laws/Frames.lean ====
section
/-! SUPPORT. What the input, wake, attention and display operations never change: the queue of commands, RESET, the tables,
the channels, the Profile Loader and the flash. One lemma for each operation. -/

namespace Sys2Proof.Machine

/-- A fold of operations that each keep the outer state keeps it. -/
theorem outer_foldl {α : Type} (f : State → α → State) (h : ∀ s a, (f s a).outer = s.outer) (l : List α) (s : State) :
    (l.foldl f s).outer = s.outer := by
  induction l generalizing s with
  | nil => rfl
  | cons a l ih => simp [ih, h]

@[simp] theorem State.setCiu_outer (s : State) (x : Ciu) : (s.setCiu x).outer = s.outer := rfl
@[simp] theorem State.setFc_outer (s : State) (x : Fc) : (s.setFc x).outer = s.outer := rfl
@[simp] theorem State.setHkm_outer (s : State) (x : CommandState) : (s.setHkm x).outer = s.outer := rfl
@[simp] theorem State.setGu_outer (s : State) (x : Gu) : (s.setGu x).outer = s.outer := rfl
@[simp] theorem State.setPorts_outer (s : State) (x : Table Port 8) : (s.setPorts x).outer = s.outer := rfl
@[simp] theorem State.setWakes_outer (s : State) (x : Table WakeRecord 8) : (s.setWakes x).outer = s.outer := rfl
@[simp] theorem State.setAtu_outer (s : State) (x : Atu) : (s.setAtu x).outer = s.outer := rfl
@[simp] theorem State.setCmp_outer (s : State) (x : Cmp) : (s.setCmp x).outer = s.outer := rfl
@[simp] theorem State.setBank_outer (s : State) (x : Bank) : (s.setBank x).outer = s.outer := rfl
@[simp] theorem State.setMgi_outer (s : State) (x : Mgi) : (s.setMgi x).outer = s.outer := rfl
@[simp] theorem State.setPort_outer (s : State) (n : Slot) (x : Port) : (s.setPort n x).outer = s.outer := rfl
@[simp] theorem State.setWake_outer (s : State) (n : Slot) (x : WakeRecord) : (s.setWake n x).outer = s.outer := rfl
@[simp] theorem State.setSent_outer (s : State) (n : Slot) (x : KeyImage) : (s.setSent n x).outer = s.outer := rfl
@[simp] theorem State.setDelivered_outer (s : State) (n : Slot) (x : Buttons) : (s.setDelivered n x).outer = s.outer := rfl
@[simp] theorem State.startTimer_outer (s : State) (i : TimerId) : (s.startTimer i).outer = s.outer := rfl
@[simp] theorem State.stopTimer_outer (s : State) (i : TimerId) : (s.stopTimer i).outer = s.outer := rfl
@[simp] theorem State.hold_outer (s : State) (k : Byte) (d : Destination) : (s.hold k d).outer = s.outer := rfl
@[simp] theorem State.raiseEvent_outer (s : State) (e : EventKind) : (s.raiseEvent e).outer = s.outer := rfl
@[simp] theorem State.updateLeds_outer (s : State) : s.updateLeds.outer = s.outer := rfl

@[simp] theorem State.settlePort_outer (s : State) (n : Slot) (p : Port) : (s.settlePort n p).outer = s.outer := by
  simp only [State.settlePort]
  repeat' (first | split | simp)

@[simp] theorem State.settleFlushedPort_outer (s : State) (n : Slot) (p : Port) : (s.settleFlushedPort n p).outer = s.outer := by
  simp only [State.settleFlushedPort]
  repeat' (first | split | simp)

@[simp] theorem State.suppressHeld_outer (s : State) (n : Slot) : (s.suppressHeld n).outer = s.outer := by
  simp only [State.suppressHeld]
  repeat' (first | split | simp)

@[simp] theorem State.suppressFocusModifiers_outer (s : State) (n : Slot) : (s.suppressFocusModifiers n).outer = s.outer := by
  simp only [State.suppressFocusModifiers]
  repeat' (first | split | simp)

@[simp] theorem State.fcLoss_outer (s : State) (n : Slot) : (s.fcLoss n).outer = s.outer := by
  simp only [State.fcLoss]
  repeat' (first | split | simp)

@[simp] theorem State.guLoss_outer (s : State) (n : Slot) : (s.guLoss n).outer = s.outer := by
  simp only [State.guLoss]
  repeat' (first | split | simp)

@[simp] theorem State.releaseFlush_outer (s : State) (n : Slot) : (s.releaseFlush n).outer = s.outer := by
  simp only [State.releaseFlush]
  repeat' (first | split | simp)

@[simp] theorem State.handOver_outer (s : State) (n : Slot) (e : Entry) : (s.handOver n e).outer = s.outer := by
  simp only [State.handOver]
  repeat' (first | split | simp)

@[simp] theorem State.queueImage_outer (s : State) (n : Slot) : (s.queueImage n).outer = s.outer := by
  simp only [State.queueImage]
  repeat' (first | split | simp)

@[simp] theorem State.setCommand_outer (s : State) (c : CommandState) : (s.setCommand c).outer = s.outer := by
  simp only [State.setCommand]
  repeat' (first | split | simp)

@[simp] theorem State.commandToNormal_outer (s : State) : s.commandToNormal.outer = s.outer := by
  simp only [State.commandToNormal]
  repeat' (first | split | simp)

@[simp] theorem State.stopWakeTimers_outer (s : State) (n : Slot) : (s.stopWakeTimers n).outer = s.outer := by
  simp only [State.stopWakeTimers]
  repeat' (first | split | simp)

@[simp] theorem State.setPhase_outer (s : State) (n : Slot) (p : Phase) : (s.setPhase n p).outer = s.outer := by
  simp only [State.setPhase]
  repeat' (first | split | simp)

@[simp] theorem State.applyHoldPolicy_outer (s : State) (n : Slot) : (s.applyHoldPolicy n).outer = s.outer := by
  simp only [State.applyHoldPolicy]
  repeat' (first | split | simp)

@[simp] theorem State.enterFailed_outer (s : State) (n : Slot) : (s.enterFailed n).outer = s.outer := by
  simp only [State.enterFailed]
  repeat' (first | split | simp)

@[simp] theorem State.enterLinePulse_outer (s : State) (n : Slot) : (s.enterLinePulse n).outer = s.outer := by
  simp only [State.enterLinePulse]
  repeat' (first | split | simp)

@[simp] theorem State.enterLineAwait_outer (s : State) (n : Slot) : (s.enterLineAwait n).outer = s.outer := by
  simp only [State.enterLineAwait]
  repeat' (first | split | simp)

@[simp] theorem State.wakeExhausted_outer (s : State) (n : Slot) : (s.wakeExhausted n).outer = s.outer := by
  simp only [State.wakeExhausted]
  repeat' (first | split | simp)

@[simp] theorem State.wakeOnActive_outer (s : State) (n : Slot) : (s.wakeOnActive n).outer = s.outer := by
  simp only [State.wakeOnActive]
  repeat' (first | split | simp)

@[simp] theorem State.enterSignal_outer (s : State) (n : Slot) : (s.enterSignal n).outer = s.outer := by
  simp only [State.enterSignal]
  repeat' (first | split | simp)

@[simp] theorem State.endRemoteWakeup_outer (s : State) (n : Slot) : (s.endRemoteWakeup n).outer = s.outer := by
  simp only [State.endRemoteWakeup]
  repeat' (first | split | simp)

@[simp] theorem State.startSequence_outer (s : State) (n : Slot) : (s.startSequence n).1.outer = s.outer := by
  simp only [State.startSequence]
  repeat' (first | split | simp)

@[simp] theorem State.trigger_outer (s : State) (n : Slot) (c : Cause) : (s.trigger n c).1.outer = s.outer := by
  simp only [State.trigger]
  repeat' (first | split | simp)

@[simp] theorem State.wakeAll_outer (s : State) : s.wakeAll.1.outer = s.outer := by
  unfold State.wakeAll
  suffices h : ∀ (l : List Slot) (a : State × List WakeOutcome), (l.foldl (fun (acc : State × List WakeOutcome) n =>
      let r := acc.1.trigger n .wakeAll
      (r.1, acc.2 ++ [r.2])) a).1.outer = a.1.outer from h _ _
  intro l
  induction l with
  | nil => intro a; rfl
  | cons n l ih => intro a; rw [List.foldl_cons, ih]; simp

@[simp] theorem State.wakeOnFocus_outer (s : State) (n : Slot) : (s.wakeOnFocus n).outer = s.outer := by
  simp only [State.wakeOnFocus]
  repeat' (first | split | simp)

@[simp] theorem State.wakeOnInput_outer (s : State) (n : Slot) : (s.wakeOnInput n).outer = s.outer := by
  simp only [State.wakeOnInput]
  repeat' (first | split | simp)

@[simp] theorem State.wakeOnBusReset_outer (s : State) (n : Slot) : (s.wakeOnBusReset n).outer = s.outer := by
  simp only [State.wakeOnBusReset]
  repeat' (first | split | simp)

@[simp] theorem State.wakeOnPowerLost_outer (s : State) (n : Slot) : (s.wakeOnPowerLost n).outer = s.outer := by
  simp only [State.wakeOnPowerLost]
  repeat' (first | split | simp)

@[simp] theorem State.signallingEnds_outer (s : State) (n : Slot) : (s.signallingEnds n).outer = s.outer := by
  simp only [State.signallingEnds]
  repeat' (first | split | simp)

@[simp] theorem State.t3Expires_outer (s : State) (n : Slot) : (s.t3Expires n).outer = s.outer := by
  simp only [State.t3Expires]
  repeat' (first | split | simp)

@[simp] theorem State.t4Expires_outer (s : State) (n : Slot) : (s.t4Expires n).outer = s.outer := by
  simp only [State.t4Expires]
  repeat' (first | split | simp)

@[simp] theorem State.t5Expires_outer (s : State) (n : Slot) : (s.t5Expires n).outer = s.outer := by
  simp only [State.t5Expires]
  repeat' (first | split | simp)

@[simp] theorem State.t6Expires_outer (s : State) (n : Slot) : (s.t6Expires n).outer = s.outer := by
  simp only [State.t6Expires]
  repeat' (first | split | simp)

@[simp] theorem State.modifierChange_outer (s : State) (r p : Modifiers) : (s.modifierChange r p).outer = s.outer := by
  simp only [State.modifierChange]
  repeat' (first | split | simp)

@[simp] theorem State.deliverPress_outer (s : State) (n : Slot) (k : Byte) : (s.deliverPress n k).outer = s.outer := by
  simp only [State.deliverPress]
  repeat' (first | split | simp)

@[simp] theorem State.routePress_outer (s : State) (k : Byte) : (s.routePress k).outer = s.outer := by
  simp only [State.routePress]
  repeat' (first | split | simp)

@[simp] theorem State.releaseKey_outer (s : State) (k : Byte) : (s.releaseKey k).outer = s.outer := by
  simp only [State.releaseKey]
  repeat' (first | split | simp)

@[simp] theorem State.leaveFocus_outer (s : State) (f : Option Slot) : (s.leaveFocus f).outer = s.outer := by
  simp only [State.leaveFocus]
  repeat' (first | split | simp)

@[simp] theorem State.enterFocus_outer (s : State) (t : Option Slot) : (s.enterFocus t).outer = s.outer := by
  simp only [State.enterFocus]
  repeat' (first | split | simp)

@[simp] theorem State.focusChange_outer (s : State) (t : Option Slot) : (s.focusChange t).outer = s.outer := by
  simp only [State.focusChange]
  repeat' (first | split | simp)

@[simp] theorem State.fcPowerLost_outer (s : State) (n : Slot) : (s.fcPowerLost n).outer = s.outer := by
  simp only [State.fcPowerLost]
  repeat' (first | split | simp)

@[simp] theorem State.fcInputRemoved_outer (s : State) (n : Slot) : (s.fcInputRemoved n).outer = s.outer := by
  simp only [State.fcInputRemoved]
  repeat' (first | split | simp)

@[simp] theorem State.locate_outer (s : State) : s.locate.outer = s.outer := by
  simp only [State.locate]
  repeat' (first | split | simp)

@[simp] theorem State.moveTo_outer (s : State) (x y : Int) : (s.moveTo x y).outer = s.outer := by
  simp only [State.moveTo]
  repeat' (first | split | simp)

@[simp] theorem State.releaseButtons_outer (s : State) (n : Option Slot) : (s.releaseButtons n).outer = s.outer := by
  simp only [State.releaseButtons]
  repeat' (first | split | simp)

@[simp] theorem State.clearAccumulators_outer (s : State) (n : Slot) : (s.clearAccumulators n).outer = s.outer := by
  simp only [State.clearAccumulators]
  repeat' (first | split | simp)

@[simp] theorem State.relocate_outer (s : State) (x y : Int) : (s.relocate x y).outer = s.outer := by
  simp only [State.relocate]
  repeat' (first | split | simp)

@[simp] theorem State.relocateHome_outer (s : State) (n : Slot) : (s.relocateHome n).outer = s.outer := by
  simp only [State.relocateHome]
  repeat' (first | split | simp)

@[simp] theorem State.followPointer_outer (s : State) (b : Option Slot) : (s.followPointer b).outer = s.outer := by
  simp only [State.followPointer]
  repeat' (first | split | simp)

@[simp] theorem State.reevaluateTo_outer (s : State) (x y : Int) : (s.reevaluateTo x y).outer = s.outer := by
  simp only [State.reevaluateTo]
  repeat' (first | split | simp)

@[simp] theorem State.reevaluate_outer (s : State) : s.reevaluate.outer = s.outer := by
  simp only [State.reevaluate]
  repeat' (first | split | simp)

@[simp] theorem State.select_outer (s : State) (n : Slot) : (s.select n).outer = s.outer := by
  simp only [State.select]
  repeat' (first | split | simp)

@[simp] theorem State.selectFirst_outer (s : State) (l : List Slot) : (s.selectFirst l).outer = s.outer := by
  simp only [State.selectFirst]
  repeat' (first | split | simp)

@[simp] theorem State.crossing_outer (s : State) (a b : Option Slot) (p : Buttons) : (s.crossing a b p).outer = s.outer := by
  simp only [State.crossing]
  repeat' (first | split | simp)

@[simp] theorem State.feedRelative_outer (s : State) (n : Slot) (x y : Int) : (s.feedRelative n x y).1.outer = s.outer := by
  simp only [State.feedRelative]
  repeat' (first | split | simp)

@[simp] theorem State.handPointer_outer (s : State) (n : Slot) (e : Entry) : (s.handPointer n e).outer = s.outer := by
  simp only [State.handPointer]
  repeat' (first | split | simp)

@[simp] theorem State.deliverArrival_outer (s : State) (i : TileIx) (n : Slot) (x y w : Int) (c : Bool) : (s.deliverArrival i n x y w c).outer = s.outer := by
  simp only [State.deliverArrival]
  repeat' (first | split | simp)

@[simp] theorem State.consumeArrival_outer (s : State) (p : Buttons) : (s.consumeArrival p).outer = s.outer := by
  simp only [State.consumeArrival]
  repeat' (first | split | simp)

@[simp] theorem State.finishArrival_outer (s : State) (a : Arrival) (x y : Int) (c : Bool) : (s.finishArrival a x y c).outer = s.outer := by
  simp only [State.finishArrival]
  repeat' (first | split | simp)

@[simp] theorem State.moveArrival_outer (s : State) (a : Arrival) : (s.moveArrival a).outer = s.outer := by
  simp only [State.moveArrival]
  repeat' (first | split | simp)

@[simp] theorem State.pointerArrival_outer (s : State) (a : Arrival) : (s.pointerArrival a).outer = s.outer := by
  simp only [State.pointerArrival]
  repeat' (first | split | simp)

@[simp] theorem State.guLinkReset_outer (s : State) (n : Slot) : (s.guLinkReset n).outer = s.outer := by
  simp only [State.guLinkReset]
  repeat' (first | split | simp)

@[simp] theorem State.guInputRemoved_outer (s : State) (n : Slot) : (s.guInputRemoved n).outer = s.outer := by
  simp only [State.guInputRemoved]
  repeat' (first | split | simp)

@[simp] theorem State.restore_outer (s : State) (f : Option Slot) (x y : Int) : (s.restore f x y).outer = s.outer := by
  simp only [State.restore]
  repeat' (first | split | simp)

@[simp] theorem State.attendTrigger_outer (s : State) (n : Slot) : (s.attendTrigger n).outer = s.outer := by
  simp only [State.attendTrigger]
  repeat' (first | split | simp)

@[simp] theorem State.attend_outer (s : State) : s.attend.outer = s.outer := by
  simp only [State.attend]
  repeat' (first | split | simp)

@[simp] theorem State.dismiss_outer (s : State) : s.dismiss.outer = s.outer := by
  simp only [State.dismiss]
  repeat' (first | split | simp)

@[simp] theorem State.atuLinkReset_outer (s : State) (n : Slot) : (s.atuLinkReset n).outer = s.outer := by
  simp only [State.atuLinkReset]
  repeat' (first | split | simp)

@[simp] theorem State.raiseAlert_outer (s : State) (n : Slot) : (s.raiseAlert n).1.outer = s.outer := by
  simp only [State.raiseAlert]
  repeat' (first | split | simp)

@[simp] theorem State.withdrawAlert_outer (s : State) (n : Slot) : (s.withdrawAlert n).outer = s.outer := by
  simp only [State.withdrawAlert]
  repeat' (first | split | simp)

@[simp] theorem State.blankHead_outer (s : State) (d : DisplayIx) (b : FrameValues) : (s.blankHead d b).outer = s.outer := by
  simp only [State.blankHead]
  repeat' (first | split | simp)

@[simp] theorem State.stopHead_outer (s : State) (d : DisplayIx) : (s.stopHead d).outer = s.outer := by
  simp only [State.stopHead]
  repeat' (first | split | simp)

@[simp] theorem State.settleHead_outer (s : State) (d : DisplayIx) : (s.settleHead d).outer = s.outer := by
  simp only [State.settleHead]
  repeat' (first | split | simp)

@[simp] theorem State.activate_outer (s : State) (l : List DisplayIx) : (s.activate l).outer = s.outer := by
  simp only [State.activate]
  repeat' (first | split | simp [outer_foldl])

@[simp] theorem State.commitMask_outer (s : State) (m : DisplayIx → Bool) : (s.commitMask m).1.outer = s.outer := by
  simp only [State.commitMask]
  repeat' (first | split | simp)

@[simp] theorem State.applyPreset_outer (s : State) (p : Fin 4) : (s.applyPreset p).outer = s.outer := by
  simp only [State.applyPreset]
  repeat' (first | split | simp)

@[simp] theorem State.blankShare_outer (s : State) : s.blankShare.outer = s.outer := by
  simp only [State.blankShare]
  repeat' (first | split | simp)

@[simp] theorem State.shareDisplay_outer (s : State) (d : Option DisplayIx) : (s.shareDisplay d).outer = s.outer := by
  simp only [State.shareDisplay]
  repeat' (first | split | simp)

@[simp] theorem State.headBlanks_outer (s : State) (h : HeadIx) : (s.headBlanks h).outer = s.outer := by
  simp only [State.headBlanks]
  repeat' (first | split | simp)

@[simp] theorem State.startHeads_outer (s : State) : s.startHeads.outer = s.outer := by
  simp only [State.startHeads]
  repeat' (first | split | simp [outer_foldl])

@[simp] theorem State.blinkExpires_outer (s : State) : s.blinkExpires.outer = s.outer := by
  simp only [State.blinkExpires]
  repeat' (first | split | simp)

@[simp] theorem State.wakeAction_outer (s : State) (a : Argument) : (s.wakeAction a).outer = s.outer := by
  simp only [State.wakeAction]
  repeat' (first | split | simp)

@[simp] theorem State.shareAction_outer (s : State) (a : Argument) : (s.shareAction a).outer = s.outer := by
  simp only [State.shareAction]
  repeat' (first | split | simp)

@[simp] theorem State.runAction_outer (s : State) (a : Action) (b : Argument) : (s.runAction a b).outer = s.outer := by
  simp only [State.runAction]
  repeat' (first | split | simp)

@[simp] theorem State.passPress_outer (s : State) (k : Byte) : (s.passPress k).outer = s.outer := by
  simp only [State.passPress]
  repeat' (first | split | simp)

@[simp] theorem State.normalPress_outer (s : State) (k : Byte) : (s.normalPress k).outer = s.outer := by
  simp only [State.normalPress]
  repeat' (first | split | simp)

@[simp] theorem State.leadOnePress_outer (s : State) (k : Byte) : (s.leadOnePress k).outer = s.outer := by
  simp only [State.leadOnePress]
  repeat' (first | split | simp)

@[simp] theorem State.commandPress_outer (s : State) (k : Byte) : (s.commandPress k).outer = s.outer := by
  simp only [State.commandPress]
  repeat' (first | split | simp)

@[simp] theorem State.press_outer (s : State) (k : Byte) : (s.press k).outer = s.outer := by
  simp only [State.press]
  repeat' (first | split | simp)

@[simp] theorem State.keyboardArrival_outer (s : State) (m : Modifiers) (l : List Byte) : (s.keyboardArrival m l).outer = s.outer := by
  simp only [State.keyboardArrival]
  repeat' (first | split | simp [outer_foldl])

@[simp] theorem State.finalKeyboardArrival_outer (s : State) : s.finalKeyboardArrival.outer = s.outer := by
  simp only [State.finalKeyboardArrival]
  repeat' (first | split | simp)

@[simp] theorem State.buttonArrival_outer (s : State) (b : Buttons) (x y w : Int) : (s.buttonArrival b x y w).outer = s.outer := by
  simp only [State.buttonArrival]
  repeat' (first | split | simp)

@[simp] theorem State.finalArrival_outer (s : State) (p : ConsolePort) : (s.finalArrival p).outer = s.outer := by
  simp only [State.finalArrival]
  repeat' (first | split | simp)

@[simp] theorem State.t0Expires_outer (s : State) : s.t0Expires.outer = s.outer := by
  simp only [State.t0Expires]
  repeat' (first | split | simp)

@[simp] theorem State.t1Expires_outer (s : State) : s.t1Expires.outer = s.outer := by
  simp only [State.t1Expires]
  repeat' (first | split | simp)

@[simp] theorem State.dropSnapshot_outer (s : State) (n : Slot) : (s.dropSnapshot n).outer = s.outer := by
  simp only [State.dropSnapshot]
  repeat' (first | split | simp)

@[simp] theorem State.takeBusReset_outer (s : State) (n : Slot) : (s.takeBusReset n).outer = s.outer := by
  simp only [State.takeBusReset]
  repeat' (first | split | simp)

@[simp] theorem State.takePowerLoss_outer (s : State) (n : Slot) : (s.takePowerLoss n).outer = s.outer := by
  simp only [State.takePowerLoss]
  repeat' (first | split | simp)

@[simp] theorem State.becomeActive_outer (s : State) (n : Slot) : (s.becomeActive n).outer = s.outer := by
  simp only [State.becomeActive]
  repeat' (first | split | simp)

@[simp] theorem State.powerSensed_outer (s : State) (n : Slot) : (s.powerSensed n).outer = s.outer := by
  simp only [State.powerSensed]
  repeat' (first | split | simp)

@[simp] theorem State.powerLost_outer (s : State) (n : Slot) : (s.powerLost n).outer = s.outer := by
  simp only [State.powerLost]
  repeat' (first | split | simp)

@[simp] theorem State.busResets_outer (s : State) (n : Slot) : (s.busResets n).outer = s.outer := by
  simp only [State.busResets]
  repeat' (first | split | simp)

@[simp] theorem State.configures_outer (s : State) (n : Slot) : (s.configures n).outer = s.outer := by
  simp only [State.configures]
  repeat' (first | split | simp)

@[simp] theorem State.deconfigures_outer (s : State) (n : Slot) : (s.deconfigures n).outer = s.outer := by
  simp only [State.deconfigures]
  repeat' (first | split | simp)

@[simp] theorem State.suspends_outer (s : State) (n : Slot) : (s.suspends n).outer = s.outer := by
  simp only [State.suspends]
  repeat' (first | split | simp)

@[simp] theorem State.resumes_outer (s : State) (n : Slot) : (s.resumes n).outer = s.outer := by
  simp only [State.resumes]
  repeat' (first | split | simp)

@[simp] theorem State.permitRemoteWake_outer (s : State) (n : Slot) (b : Bool) : (s.permitRemoteWake n b).outer = s.outer := by
  simp only [State.permitRemoteWake]
  repeat' (first | split | simp)

@[simp] theorem State.setsLeds_outer (s : State) (n : Slot) (l : Leds) : (s.setsLeds n l).outer = s.outer := by
  simp only [State.setsLeds]
  repeat' (first | split | simp)

@[simp] theorem State.polls_outer (s : State) (n : Slot) : (s.polls n).outer = s.outer := by
  simp only [State.polls]
  repeat' (first | split | simp)

@[simp] theorem State.acknowledges_outer (s : State) (n : Slot) : (s.acknowledges n).outer = s.outer := by
  simp only [State.acknowledges]
  repeat' (first | split | simp)

@[simp] theorem State.managementPolls_outer (s : State) (n : Slot) : (s.managementPolls n).outer = s.outer := by
  simp only [State.managementPolls]
  repeat' (first | split | simp)

@[simp] theorem State.acknowledgesResponse_outer (s : State) (n : Slot) : (s.acknowledgesResponse n).outer = s.outer := by
  simp only [State.acknowledgesResponse]
  repeat' (first | split | simp)

@[simp] theorem State.deviceConnects_outer (s : State) (p : ConsolePort) : (s.deviceConnects p).outer = s.outer := by
  simp only [State.deviceConnects]
  repeat' (first | split | simp)

@[simp] theorem State.configurationEnds_outer (s : State) (p : ConsolePort) (d : ConsoleDevice) : (s.configurationEnds p d).outer = s.outer := by
  simp only [State.configurationEnds]
  repeat' (first | split | simp)

@[simp] theorem State.deviceDisconnects_outer (s : State) (p : ConsolePort) : (s.deviceDisconnects p).outer = s.outer := by
  simp only [State.deviceDisconnects]
  repeat' (first | split | simp)

@[simp] theorem State.keyboardReports_outer (s : State) (l : List Byte) : (s.keyboardReports l).outer = s.outer := by
  simp only [State.keyboardReports]
  repeat' (first | split | simp)

@[simp] theorem State.pointerReports_outer (s : State) (l : List Byte) : (s.pointerReports l).outer = s.outer := by
  simp only [State.pointerReports]
  repeat' (first | split | simp)

/-! ### What runs without touching the console's image and the command state -/

/-- Composing the LED state leaves the image and the attach states alone. -/
@[simp] theorem Ciu.compose_image (c : Ciu) (x : Leds) :
    (c.compose x).keyboardPort = c.keyboardPort ∧ (c.compose x).pointerPort = c.pointerPort ∧ (c.compose x).mods = c.mods ∧
    (c.compose x).keys = c.keys ∧ (c.compose x).buttons = c.buttons := by
  simp only [Ciu.compose, Ciu.sendIfDue, Ciu.startTransfer]
  repeat' split
  all_goals simp

/-- A fold of operations that each keep the console side keeps it. -/
theorem consoleSide_foldl {α : Type} (f : State → α → State) (h : ∀ s a, (f s a).consoleSide = s.consoleSide) (l : List α)
    (s : State) : (l.foldl f s).consoleSide = s.consoleSide := by
  induction l generalizing s with
  | nil => rfl
  | cons a l ih => simp [ih, h]

@[simp] theorem State.setFc_consoleSide (s : State) (x : Fc) : (s.setFc x).consoleSide = s.consoleSide := rfl
@[simp] theorem State.setGu_consoleSide (s : State) (x : Gu) : (s.setGu x).consoleSide = s.consoleSide := rfl
@[simp] theorem State.setPorts_consoleSide (s : State) (x : Table Port 8) : (s.setPorts x).consoleSide = s.consoleSide := rfl
@[simp] theorem State.setWakes_consoleSide (s : State) (x : Table WakeRecord 8) : (s.setWakes x).consoleSide = s.consoleSide := rfl
@[simp] theorem State.setAtu_consoleSide (s : State) (x : Atu) : (s.setAtu x).consoleSide = s.consoleSide := rfl
@[simp] theorem State.setCmp_consoleSide (s : State) (x : Cmp) : (s.setCmp x).consoleSide = s.consoleSide := rfl
@[simp] theorem State.setMgi_consoleSide (s : State) (x : Mgi) : (s.setMgi x).consoleSide = s.consoleSide := rfl
@[simp] theorem State.setPort_consoleSide (s : State) (n : Slot) (x : Port) : (s.setPort n x).consoleSide = s.consoleSide := rfl
@[simp] theorem State.setWake_consoleSide (s : State) (n : Slot) (x : WakeRecord) : (s.setWake n x).consoleSide = s.consoleSide := rfl
@[simp] theorem State.setSent_consoleSide (s : State) (n : Slot) (x : KeyImage) : (s.setSent n x).consoleSide = s.consoleSide := rfl
@[simp] theorem State.setDelivered_consoleSide (s : State) (n : Slot) (x : Buttons) : (s.setDelivered n x).consoleSide = s.consoleSide := rfl
@[simp] theorem State.setTables_consoleSide (s : State) (x : Tables) : (s.setTables x).consoleSide = s.consoleSide := rfl
@[simp] theorem State.hold_consoleSide (s : State) (k : Byte) (d : Destination) : (s.hold k d).consoleSide = s.consoleSide := rfl
@[simp] theorem State.raiseEvent_consoleSide (s : State) (e : EventKind) : (s.raiseEvent e).consoleSide = s.consoleSide := rfl
@[simp] theorem State.startTimer_t2_consoleSide (s : State) : (s.startTimer .t2).consoleSide = s.consoleSide := rfl
@[simp] theorem State.stopTimer_t2_consoleSide (s : State) : (s.stopTimer .t2).consoleSide = s.consoleSide := rfl
@[simp] theorem State.startTimer_t3_consoleSide (s : State) (n : Slot) : (s.startTimer (.t3 n)).consoleSide = s.consoleSide := rfl
@[simp] theorem State.stopTimer_t3_consoleSide (s : State) (n : Slot) : (s.stopTimer (.t3 n)).consoleSide = s.consoleSide := rfl
@[simp] theorem State.startTimer_t4_consoleSide (s : State) (n : Slot) : (s.startTimer (.t4 n)).consoleSide = s.consoleSide := rfl
@[simp] theorem State.stopTimer_t4_consoleSide (s : State) (n : Slot) : (s.stopTimer (.t4 n)).consoleSide = s.consoleSide := rfl
@[simp] theorem State.startTimer_t5_consoleSide (s : State) (n : Slot) : (s.startTimer (.t5 n)).consoleSide = s.consoleSide := rfl
@[simp] theorem State.stopTimer_t5_consoleSide (s : State) (n : Slot) : (s.stopTimer (.t5 n)).consoleSide = s.consoleSide := rfl
@[simp] theorem State.startTimer_t6_consoleSide (s : State) (n : Slot) : (s.startTimer (.t6 n)).consoleSide = s.consoleSide := rfl
@[simp] theorem State.stopTimer_t6_consoleSide (s : State) (n : Slot) : (s.stopTimer (.t6 n)).consoleSide = s.consoleSide := rfl
@[simp] theorem State.updateLeds_consoleSide (s : State) : s.updateLeds.consoleSide = s.consoleSide := by
  simp [State.consoleSide, State.updateLeds]

@[simp] theorem State.settlePort_consoleSide (s : State) (n : Slot) (p : Port) : (s.settlePort n p).consoleSide = s.consoleSide := by
  simp only [State.settlePort]
  repeat' (first | split | simp)

@[simp] theorem State.settleFlushedPort_consoleSide (s : State) (n : Slot) (p : Port) : (s.settleFlushedPort n p).consoleSide = s.consoleSide := by
  simp only [State.settleFlushedPort]
  repeat' (first | split | simp)

@[simp] theorem State.suppressHeld_consoleSide (s : State) (n : Slot) : (s.suppressHeld n).consoleSide = s.consoleSide := by
  simp only [State.suppressHeld]
  repeat' (first | split | simp)

@[simp] theorem State.suppressFocusModifiers_consoleSide (s : State) (n : Slot) : (s.suppressFocusModifiers n).consoleSide = s.consoleSide := by
  simp only [State.suppressFocusModifiers]
  repeat' (first | split | simp)

@[simp] theorem State.fcLoss_consoleSide (s : State) (n : Slot) : (s.fcLoss n).consoleSide = s.consoleSide := by
  simp only [State.fcLoss]
  repeat' (first | split | simp)

@[simp] theorem State.guLoss_consoleSide (s : State) (n : Slot) : (s.guLoss n).consoleSide = s.consoleSide := by
  simp only [State.guLoss]
  repeat' (first | split | simp)

@[simp] theorem State.releaseFlush_consoleSide (s : State) (n : Slot) : (s.releaseFlush n).consoleSide = s.consoleSide := by
  simp only [State.releaseFlush]
  repeat' (first | split | simp)

@[simp] theorem State.handOver_consoleSide (s : State) (n : Slot) (e : Entry) : (s.handOver n e).consoleSide = s.consoleSide := by
  simp only [State.handOver]
  repeat' (first | split | simp)

@[simp] theorem State.queueImage_consoleSide (s : State) (n : Slot) : (s.queueImage n).consoleSide = s.consoleSide := by
  simp only [State.queueImage]
  repeat' (first | split | simp)

@[simp] theorem State.stopWakeTimers_consoleSide (s : State) (n : Slot) : (s.stopWakeTimers n).consoleSide = s.consoleSide := by
  simp only [State.stopWakeTimers]
  repeat' (first | split | simp)

@[simp] theorem State.setPhase_consoleSide (s : State) (n : Slot) (p : Phase) : (s.setPhase n p).consoleSide = s.consoleSide := by
  simp only [State.setPhase]
  repeat' (first | split | simp)

@[simp] theorem State.applyHoldPolicy_consoleSide (s : State) (n : Slot) : (s.applyHoldPolicy n).consoleSide = s.consoleSide := by
  simp only [State.applyHoldPolicy]
  repeat' (first | split | simp)

@[simp] theorem State.enterFailed_consoleSide (s : State) (n : Slot) : (s.enterFailed n).consoleSide = s.consoleSide := by
  simp only [State.enterFailed]
  repeat' (first | split | simp)

@[simp] theorem State.enterLinePulse_consoleSide (s : State) (n : Slot) : (s.enterLinePulse n).consoleSide = s.consoleSide := by
  simp only [State.enterLinePulse]
  repeat' (first | split | simp)

@[simp] theorem State.enterLineAwait_consoleSide (s : State) (n : Slot) : (s.enterLineAwait n).consoleSide = s.consoleSide := by
  simp only [State.enterLineAwait]
  repeat' (first | split | simp)

@[simp] theorem State.wakeExhausted_consoleSide (s : State) (n : Slot) : (s.wakeExhausted n).consoleSide = s.consoleSide := by
  simp only [State.wakeExhausted]
  repeat' (first | split | simp)

@[simp] theorem State.wakeOnActive_consoleSide (s : State) (n : Slot) : (s.wakeOnActive n).consoleSide = s.consoleSide := by
  simp only [State.wakeOnActive]
  repeat' (first | split | simp)

@[simp] theorem State.enterSignal_consoleSide (s : State) (n : Slot) : (s.enterSignal n).consoleSide = s.consoleSide := by
  simp only [State.enterSignal]
  repeat' (first | split | simp)

@[simp] theorem State.endRemoteWakeup_consoleSide (s : State) (n : Slot) : (s.endRemoteWakeup n).consoleSide = s.consoleSide := by
  simp only [State.endRemoteWakeup]
  repeat' (first | split | simp)

@[simp] theorem State.startSequence_consoleSide (s : State) (n : Slot) : (s.startSequence n).1.consoleSide = s.consoleSide := by
  simp only [State.startSequence]
  repeat' (first | split | simp)

@[simp] theorem State.trigger_consoleSide (s : State) (n : Slot) (c : Cause) : (s.trigger n c).1.consoleSide = s.consoleSide := by
  simp only [State.trigger]
  repeat' (first | split | simp)

@[simp] theorem State.wakeAll_consoleSide (s : State) : s.wakeAll.1.consoleSide = s.consoleSide := by
  unfold State.wakeAll
  suffices h : ∀ (l : List Slot) (a : State × List WakeOutcome), (l.foldl (fun (acc : State × List WakeOutcome) n =>
      let r := acc.1.trigger n .wakeAll
      (r.1, acc.2 ++ [r.2])) a).1.consoleSide = a.1.consoleSide from h _ _
  intro l
  induction l with
  | nil => intro a; rfl
  | cons n l ih => intro a; rw [List.foldl_cons, ih]; simp

@[simp] theorem State.wakeOnFocus_consoleSide (s : State) (n : Slot) : (s.wakeOnFocus n).consoleSide = s.consoleSide := by
  simp only [State.wakeOnFocus]
  repeat' (first | split | simp)

@[simp] theorem State.wakeOnInput_consoleSide (s : State) (n : Slot) : (s.wakeOnInput n).consoleSide = s.consoleSide := by
  simp only [State.wakeOnInput]
  repeat' (first | split | simp)

@[simp] theorem State.wakeOnBusReset_consoleSide (s : State) (n : Slot) : (s.wakeOnBusReset n).consoleSide = s.consoleSide := by
  simp only [State.wakeOnBusReset]
  repeat' (first | split | simp)

@[simp] theorem State.wakeOnPowerLost_consoleSide (s : State) (n : Slot) : (s.wakeOnPowerLost n).consoleSide = s.consoleSide := by
  simp only [State.wakeOnPowerLost]
  repeat' (first | split | simp)

@[simp] theorem State.signallingEnds_consoleSide (s : State) (n : Slot) : (s.signallingEnds n).consoleSide = s.consoleSide := by
  simp only [State.signallingEnds]
  repeat' (first | split | simp)

@[simp] theorem State.t3Expires_consoleSide (s : State) (n : Slot) : (s.t3Expires n).consoleSide = s.consoleSide := by
  simp only [State.t3Expires]
  repeat' (first | split | simp)

@[simp] theorem State.t4Expires_consoleSide (s : State) (n : Slot) : (s.t4Expires n).consoleSide = s.consoleSide := by
  simp only [State.t4Expires]
  repeat' (first | split | simp)

@[simp] theorem State.t5Expires_consoleSide (s : State) (n : Slot) : (s.t5Expires n).consoleSide = s.consoleSide := by
  simp only [State.t5Expires]
  repeat' (first | split | simp)

@[simp] theorem State.t6Expires_consoleSide (s : State) (n : Slot) : (s.t6Expires n).consoleSide = s.consoleSide := by
  simp only [State.t6Expires]
  repeat' (first | split | simp)

@[simp] theorem State.modifierChange_consoleSide (s : State) (r p : Modifiers) : (s.modifierChange r p).consoleSide = s.consoleSide := by
  simp only [State.modifierChange]
  repeat' (first | split | simp)

@[simp] theorem State.deliverPress_consoleSide (s : State) (n : Slot) (k : Byte) : (s.deliverPress n k).consoleSide = s.consoleSide := by
  simp only [State.deliverPress]
  repeat' (first | split | simp)

@[simp] theorem State.routePress_consoleSide (s : State) (k : Byte) : (s.routePress k).consoleSide = s.consoleSide := by
  simp only [State.routePress]
  repeat' (first | split | simp)

@[simp] theorem State.releaseKey_consoleSide (s : State) (k : Byte) : (s.releaseKey k).consoleSide = s.consoleSide := by
  simp only [State.releaseKey]
  repeat' (first | split | simp)

@[simp] theorem State.leaveFocus_consoleSide (s : State) (f : Option Slot) : (s.leaveFocus f).consoleSide = s.consoleSide := by
  simp only [State.leaveFocus]
  repeat' (first | split | simp)

@[simp] theorem State.enterFocus_consoleSide (s : State) (t : Option Slot) : (s.enterFocus t).consoleSide = s.consoleSide := by
  simp only [State.enterFocus]
  repeat' (first | split | simp)

@[simp] theorem State.focusChange_consoleSide (s : State) (t : Option Slot) : (s.focusChange t).consoleSide = s.consoleSide := by
  simp only [State.focusChange]
  repeat' (first | split | simp)

@[simp] theorem State.fcPowerLost_consoleSide (s : State) (n : Slot) : (s.fcPowerLost n).consoleSide = s.consoleSide := by
  simp only [State.fcPowerLost]
  repeat' (first | split | simp)

@[simp] theorem State.fcInputRemoved_consoleSide (s : State) (n : Slot) : (s.fcInputRemoved n).consoleSide = s.consoleSide := by
  simp only [State.fcInputRemoved]
  repeat' (first | split | simp)

@[simp] theorem State.locate_consoleSide (s : State) : s.locate.consoleSide = s.consoleSide := by
  simp only [State.locate]
  repeat' (first | split | simp)

@[simp] theorem State.moveTo_consoleSide (s : State) (x y : Int) : (s.moveTo x y).consoleSide = s.consoleSide := by
  simp only [State.moveTo]
  repeat' (first | split | simp)

@[simp] theorem State.releaseButtons_consoleSide (s : State) (n : Option Slot) : (s.releaseButtons n).consoleSide = s.consoleSide := by
  simp only [State.releaseButtons]
  repeat' (first | split | simp)

@[simp] theorem State.clearAccumulators_consoleSide (s : State) (n : Slot) : (s.clearAccumulators n).consoleSide = s.consoleSide := by
  simp only [State.clearAccumulators]
  repeat' (first | split | simp)

@[simp] theorem State.relocate_consoleSide (s : State) (x y : Int) : (s.relocate x y).consoleSide = s.consoleSide := by
  simp only [State.relocate]
  repeat' (first | split | simp)

@[simp] theorem State.relocateHome_consoleSide (s : State) (n : Slot) : (s.relocateHome n).consoleSide = s.consoleSide := by
  simp only [State.relocateHome]
  repeat' (first | split | simp)

@[simp] theorem State.followPointer_consoleSide (s : State) (b : Option Slot) : (s.followPointer b).consoleSide = s.consoleSide := by
  simp only [State.followPointer]
  repeat' (first | split | simp)

@[simp] theorem State.reevaluateTo_consoleSide (s : State) (x y : Int) : (s.reevaluateTo x y).consoleSide = s.consoleSide := by
  simp only [State.reevaluateTo]
  repeat' (first | split | simp)

@[simp] theorem State.reevaluate_consoleSide (s : State) : s.reevaluate.consoleSide = s.consoleSide := by
  simp only [State.reevaluate]
  repeat' (first | split | simp)

@[simp] theorem State.select_consoleSide (s : State) (n : Slot) : (s.select n).consoleSide = s.consoleSide := by
  simp only [State.select]
  repeat' (first | split | simp)

@[simp] theorem State.selectFirst_consoleSide (s : State) (l : List Slot) : (s.selectFirst l).consoleSide = s.consoleSide := by
  simp only [State.selectFirst]
  repeat' (first | split | simp)

@[simp] theorem State.crossing_consoleSide (s : State) (a b : Option Slot) (p : Buttons) : (s.crossing a b p).consoleSide = s.consoleSide := by
  simp only [State.crossing]
  repeat' (first | split | simp)

@[simp] theorem State.feedRelative_consoleSide (s : State) (n : Slot) (x y : Int) : (s.feedRelative n x y).1.consoleSide = s.consoleSide := by
  simp only [State.feedRelative]
  repeat' (first | split | simp)

@[simp] theorem State.handPointer_consoleSide (s : State) (n : Slot) (e : Entry) : (s.handPointer n e).consoleSide = s.consoleSide := by
  simp only [State.handPointer]
  repeat' (first | split | simp)

@[simp] theorem State.deliverArrival_consoleSide (s : State) (i : TileIx) (n : Slot) (x y w : Int) (c : Bool) : (s.deliverArrival i n x y w c).consoleSide = s.consoleSide := by
  simp only [State.deliverArrival]
  repeat' (first | split | simp)

@[simp] theorem State.consumeArrival_consoleSide (s : State) (p : Buttons) : (s.consumeArrival p).consoleSide = s.consoleSide := by
  simp only [State.consumeArrival]
  repeat' (first | split | simp)

@[simp] theorem State.finishArrival_consoleSide (s : State) (a : Arrival) (x y : Int) (c : Bool) : (s.finishArrival a x y c).consoleSide = s.consoleSide := by
  simp only [State.finishArrival]
  repeat' (first | split | simp)

@[simp] theorem State.moveArrival_consoleSide (s : State) (a : Arrival) : (s.moveArrival a).consoleSide = s.consoleSide := by
  simp only [State.moveArrival]
  repeat' (first | split | simp)

@[simp] theorem State.pointerArrival_consoleSide (s : State) (a : Arrival) : (s.pointerArrival a).consoleSide = s.consoleSide := by
  simp only [State.pointerArrival]
  repeat' (first | split | simp)

@[simp] theorem State.guLinkReset_consoleSide (s : State) (n : Slot) : (s.guLinkReset n).consoleSide = s.consoleSide := by
  simp only [State.guLinkReset]
  repeat' (first | split | simp)

@[simp] theorem State.guInputRemoved_consoleSide (s : State) (n : Slot) : (s.guInputRemoved n).consoleSide = s.consoleSide := by
  simp only [State.guInputRemoved]
  repeat' (first | split | simp)

@[simp] theorem State.restore_consoleSide (s : State) (f : Option Slot) (x y : Int) : (s.restore f x y).consoleSide = s.consoleSide := by
  simp only [State.restore]
  repeat' (first | split | simp)

@[simp] theorem State.attendTrigger_consoleSide (s : State) (n : Slot) : (s.attendTrigger n).consoleSide = s.consoleSide := by
  simp only [State.attendTrigger]
  repeat' (first | split | simp)

@[simp] theorem State.attend_consoleSide (s : State) : s.attend.consoleSide = s.consoleSide := by
  simp only [State.attend]
  repeat' (first | split | simp)

@[simp] theorem State.dismiss_consoleSide (s : State) : s.dismiss.consoleSide = s.consoleSide := by
  simp only [State.dismiss]
  repeat' (first | split | simp)

@[simp] theorem State.atuLinkReset_consoleSide (s : State) (n : Slot) : (s.atuLinkReset n).consoleSide = s.consoleSide := by
  simp only [State.atuLinkReset]
  repeat' (first | split | simp)

@[simp] theorem State.raiseAlert_consoleSide (s : State) (n : Slot) : (s.raiseAlert n).1.consoleSide = s.consoleSide := by
  simp only [State.raiseAlert]
  repeat' (first | split | simp)

@[simp] theorem State.withdrawAlert_consoleSide (s : State) (n : Slot) : (s.withdrawAlert n).consoleSide = s.consoleSide := by
  simp only [State.withdrawAlert]
  repeat' (first | split | simp)

@[simp] theorem State.blankHead_consoleSide (s : State) (d : DisplayIx) (b : FrameValues) : (s.blankHead d b).consoleSide = s.consoleSide := by
  simp only [State.blankHead]
  repeat' (first | split | simp)

@[simp] theorem State.stopHead_consoleSide (s : State) (d : DisplayIx) : (s.stopHead d).consoleSide = s.consoleSide := by
  simp only [State.stopHead]
  repeat' (first | split | simp)

@[simp] theorem State.settleHead_consoleSide (s : State) (d : DisplayIx) : (s.settleHead d).consoleSide = s.consoleSide := by
  simp only [State.settleHead]
  repeat' (first | split | simp)

@[simp] theorem State.activate_consoleSide (s : State) (l : List DisplayIx) : (s.activate l).consoleSide = s.consoleSide := by
  simp only [State.activate]
  repeat' (first | split | simp [consoleSide_foldl])

@[simp] theorem State.commitMask_consoleSide (s : State) (m : DisplayIx → Bool) : (s.commitMask m).1.consoleSide = s.consoleSide := by
  simp only [State.commitMask]
  repeat' (first | split | simp)

@[simp] theorem State.applyPreset_consoleSide (s : State) (p : Fin 4) : (s.applyPreset p).consoleSide = s.consoleSide := by
  simp only [State.applyPreset]
  repeat' (first | split | simp)

@[simp] theorem State.blankShare_consoleSide (s : State) : s.blankShare.consoleSide = s.consoleSide := by
  simp only [State.blankShare]
  repeat' (first | split | simp)

@[simp] theorem State.shareDisplay_consoleSide (s : State) (d : Option DisplayIx) : (s.shareDisplay d).consoleSide = s.consoleSide := by
  simp only [State.shareDisplay]
  repeat' (first | split | simp)

@[simp] theorem State.headBlanks_consoleSide (s : State) (h : HeadIx) : (s.headBlanks h).consoleSide = s.consoleSide := by
  simp only [State.headBlanks]
  repeat' (first | split | simp)

@[simp] theorem State.startHeads_consoleSide (s : State) : s.startHeads.consoleSide = s.consoleSide := by
  simp only [State.startHeads]
  repeat' (first | split | simp [consoleSide_foldl])

@[simp] theorem State.blinkExpires_consoleSide (s : State) : s.blinkExpires.consoleSide = s.consoleSide := by
  simp only [State.blinkExpires]
  repeat' (first | split | simp)

@[simp] theorem State.wakeAction_consoleSide (s : State) (a : Argument) : (s.wakeAction a).consoleSide = s.consoleSide := by
  simp only [State.wakeAction]
  repeat' (first | split | simp)

@[simp] theorem State.shareAction_consoleSide (s : State) (a : Argument) : (s.shareAction a).consoleSide = s.consoleSide := by
  simp only [State.shareAction]
  repeat' (first | split | simp)

@[simp] theorem State.runAction_consoleSide (s : State) (a : Action) (b : Argument) : (s.runAction a b).consoleSide = s.consoleSide := by
  simp only [State.runAction]
  repeat' (first | split | simp)

@[simp] theorem State.dropSnapshot_consoleSide (s : State) (n : Slot) : (s.dropSnapshot n).consoleSide = s.consoleSide := by
  simp only [State.dropSnapshot]
  repeat' (first | split | simp)

@[simp] theorem State.takeBusReset_consoleSide (s : State) (n : Slot) : (s.takeBusReset n).consoleSide = s.consoleSide := by
  simp only [State.takeBusReset]
  repeat' (first | split | simp)

@[simp] theorem State.takePowerLoss_consoleSide (s : State) (n : Slot) : (s.takePowerLoss n).consoleSide = s.consoleSide := by
  simp only [State.takePowerLoss]
  repeat' (first | split | simp)

@[simp] theorem State.becomeActive_consoleSide (s : State) (n : Slot) : (s.becomeActive n).consoleSide = s.consoleSide := by
  simp only [State.becomeActive]
  repeat' (first | split | simp)

@[simp] theorem State.powerSensed_consoleSide (s : State) (n : Slot) : (s.powerSensed n).consoleSide = s.consoleSide := by
  simp only [State.powerSensed]
  repeat' (first | split | simp)

@[simp] theorem State.powerLost_consoleSide (s : State) (n : Slot) : (s.powerLost n).consoleSide = s.consoleSide := by
  simp only [State.powerLost]
  repeat' (first | split | simp)

@[simp] theorem State.busResets_consoleSide (s : State) (n : Slot) : (s.busResets n).consoleSide = s.consoleSide := by
  simp only [State.busResets]
  repeat' (first | split | simp)

@[simp] theorem State.configures_consoleSide (s : State) (n : Slot) : (s.configures n).consoleSide = s.consoleSide := by
  simp only [State.configures]
  repeat' (first | split | simp)

@[simp] theorem State.deconfigures_consoleSide (s : State) (n : Slot) : (s.deconfigures n).consoleSide = s.consoleSide := by
  simp only [State.deconfigures]
  repeat' (first | split | simp)

@[simp] theorem State.suspends_consoleSide (s : State) (n : Slot) : (s.suspends n).consoleSide = s.consoleSide := by
  simp only [State.suspends]
  repeat' (first | split | simp)

@[simp] theorem State.resumes_consoleSide (s : State) (n : Slot) : (s.resumes n).consoleSide = s.consoleSide := by
  simp only [State.resumes]
  repeat' (first | split | simp)

@[simp] theorem State.permitRemoteWake_consoleSide (s : State) (n : Slot) (b : Bool) : (s.permitRemoteWake n b).consoleSide = s.consoleSide := by
  simp only [State.permitRemoteWake]
  repeat' (first | split | simp)

@[simp] theorem State.setsLeds_consoleSide (s : State) (n : Slot) (l : Leds) : (s.setsLeds n l).consoleSide = s.consoleSide := by
  simp only [State.setsLeds]
  repeat' (first | split | simp)

@[simp] theorem State.polls_consoleSide (s : State) (n : Slot) : (s.polls n).consoleSide = s.consoleSide := by
  simp only [State.polls]
  repeat' (first | split | simp)

@[simp] theorem State.acknowledges_consoleSide (s : State) (n : Slot) : (s.acknowledges n).consoleSide = s.consoleSide := by
  simp only [State.acknowledges]
  repeat' (first | split | simp)

@[simp] theorem State.managementPolls_consoleSide (s : State) (n : Slot) : (s.managementPolls n).consoleSide = s.consoleSide := by
  simp only [State.managementPolls]
  repeat' (first | split | simp)

@[simp] theorem State.acknowledgesResponse_consoleSide (s : State) (n : Slot) : (s.acknowledgesResponse n).consoleSide = s.consoleSide := by
  simp only [State.acknowledgesResponse]
  repeat' (first | split | simp)

end Sys2Proof.Machine
end

