-- ==== Sys2Proof/Laws/Memory.lean ====
section
/-! SUPPORT. The flash's image area: reading after writing, and the canonical form, which every operation on it keeps. -/

namespace Sys2Proof.Machine

/-! ### The canonical form from an address on -/

theorem Memory.wfFrom_mono {a b : Nat} {m : Memory} (h : Memory.wfFrom a m = true) (hab : b ≤ a) :
    Memory.wfFrom b m = true := by
  cases m with
  | nil => rfl
  | cons c m =>
    obtain ⟨k, x⟩ := c
    simp only [Memory.wfFrom, Bool.and_eq_true, decide_eq_true_eq] at h ⊢
    exact ⟨⟨by omega, h.1.2⟩, h.2⟩

theorem Memory.read_below {a k : Nat} {m : Memory} (h : Memory.wfFrom a m = true) (hk : k < a) :
    Memory.read m k = Config.erasedByte := by
  induction m generalizing a with
  | nil => rfl
  | cons c m ih =>
    obtain ⟨j, x⟩ := c
    simp only [Memory.wfFrom, Bool.and_eq_true, decide_eq_true_eq] at h
    rw [Memory.read, if_neg (by omega)]
    exact ih h.2 (by omega)

theorem Memory.wfFrom_filter (p : Host.Cell → Bool) {a : Nat} {m : Memory} (h : Memory.wfFrom a m = true) :
    Memory.wfFrom a (m.filter p) = true := by
  induction m generalizing a with
  | nil => rfl
  | cons c m ih =>
    obtain ⟨k, x⟩ := c
    simp only [Memory.wfFrom, Bool.and_eq_true, decide_eq_true_eq] at h
    rw [List.filter_cons]
    split
    · simp only [Memory.wfFrom, Bool.and_eq_true, decide_eq_true_eq]
      exact ⟨h.1, ih h.2⟩
    · exact Memory.wfFrom_mono (ih h.2) (by omega)

theorem Memory.wfFrom_insert {a k : Nat} {x : Byte} {m : Memory} (h : Memory.wfFrom a m = true) (hk : a ≤ k)
    (hx : x ≠ Config.erasedByte) (hm : ∀ c ∈ m, c.1 ≠ k) : Memory.wfFrom a (Memory.insert m k x) = true := by
  induction m generalizing a with
  | nil => simp [Memory.insert, Memory.wfFrom, hk, hx]
  | cons c m ih =>
    obtain ⟨j, y⟩ := c
    have hj : j ≠ k := hm (j, y) (by simp)
    simp only [Memory.wfFrom, Bool.and_eq_true, decide_eq_true_eq] at h
    simp only [Memory.insert]
    split
    · simp only [Memory.wfFrom, Bool.and_eq_true, decide_eq_true_eq]
      exact ⟨⟨hk, hx⟩, ⟨by omega, h.1.2⟩, h.2⟩
    · simp only [Memory.wfFrom, Bool.and_eq_true, decide_eq_true_eq]
      exact ⟨h.1, ih h.2 (by omega) fun c hc => hm c (by simp [hc])⟩

theorem Memory.mem_insert {m : Memory} {k : Nat} {x : Byte} {c : Host.Cell} (h : c ∈ Memory.insert m k x) :
    c = (k, x) ∨ c ∈ m := by
  induction m with
  | nil => simpa [Memory.insert] using h
  | cons d m ih =>
    obtain ⟨j, y⟩ := d
    simp only [Memory.insert] at h
    split at h
    · simpa using h
    · rcases List.mem_cons.mp h with h | h
      · exact .inr (by simp [h])
      · exact (ih h).imp_right fun h => by simp [h]

/-! ### Reading after writing -/

theorem Memory.read_erase (m : Memory) (a k : Nat) :
    Memory.read (m.erase a) k = if k = a then Config.erasedByte else m.read k := by
  induction m with
  | nil => simp [Memory.erase, Memory.read]
  | cons c m ih =>
    obtain ⟨j, x⟩ := c
    simp only [Memory.erase, ne_eq, decide_not] at ih
    simp only [Memory.erase, List.filter_cons, Memory.read, ne_eq, decide_not]
    by_cases hj : j = a
    · by_cases hk : k = a
      · simpa [hj, hk] using ih
      · simp [hj, hk, ih]
    · by_cases hk : k = j
      · subst hk; simp [hj, Memory.read]
      · simp [hj, hk, Memory.read, ih]

theorem Memory.read_insert (m : Memory) (a : Nat) (x : Byte) (k : Nat) (hm : ∀ c ∈ m, c.1 ≠ a) :
    Memory.read (Memory.insert m a x) k = if k = a then x else m.read k := by
  induction m with
  | nil => simp [Memory.insert, Memory.read]
  | cons c m ih =>
    obtain ⟨j, y⟩ := c
    have hj : j ≠ a := hm (j, y) (by simp)
    have ih := ih fun c hc => hm c (by simp [hc])
    simp only [Memory.insert]
    split
    · simp [Memory.read]
    · simp only [Memory.read, ih]
      by_cases hk : k = j
      · simp [hk, hj]
      · simp [hk]

theorem Memory.not_mem_erase (m : Memory) (a : Nat) : ∀ c ∈ m.erase a, c.1 ≠ a := by
  intro c hc
  simpa [Memory.erase] using (List.mem_filter.mp hc).2

/-- A byte written reads as written, and every other byte reads as before. -/
theorem Memory.read_write (m : Memory) (a : Nat) (x : Byte) (k : Nat) :
    Memory.read (m.write a x) k = if k = a then x else m.read k := by
  unfold Memory.write
  split
  · rename_i hx
    rw [Memory.read_erase, hx]
  · rw [Memory.read_insert _ _ _ _ (Memory.not_mem_erase m a), Memory.read_erase]
    split <;> rfl

/-- Reading contents of which the cells at some addresses are kept. -/
theorem Memory.read_filter (p : Nat → Bool) (m : Memory) (a : Nat) :
    Memory.read (m.filter fun c => p c.1) a = if p a = true then m.read a else Config.erasedByte := by
  induction m with
  | nil => simp [Memory.read]
  | cons c m ih =>
    obtain ⟨k, b⟩ := c
    by_cases ha : a = k
    · subst ha
      cases hk : p a <;> simp_all [Memory.read]
    · cases hk : p k <;> simp_all [Memory.read]

theorem Memory.read_unsigned (m : Memory) (a : Nat) :
    m.unsigned.read a = if 4 ≤ a then m.read a else Config.erasedByte := by
  simpa [Memory.unsigned] using Memory.read_filter (fun k => decide (4 ≤ k)) m a

theorem Memory.read_headerErased (m : Memory) (a : Nat) :
    m.headerErased.read a = if Config.sectorSize ≤ a then m.read a else Config.erasedByte := by
  simpa [Memory.headerErased] using Memory.read_filter (fun k => decide (Config.sectorSize ≤ k)) m a

/-- Bytes below every listed cell are erased. -/
theorem Memory.readFrom_below (n a : Nat) (m : Memory) (h : ∀ c ∈ m, a + n ≤ c.1) :
    Memory.readFrom n a m = List.replicate n Config.erasedByte := by
  induction n generalizing a with
  | zero => rfl
  | succ n ih =>
    have hn := ih (a + 1) fun c hc => by have := h c hc; omega
    cases m with
    | nil => simp only [Memory.readFrom, hn, List.replicate_succ]
    | cons c m =>
      obtain ⟨k, b⟩ := c
      have hk : k ≠ a := by have := h (k, b) (by simp); simp only at this; omega
      simp only [Memory.readFrom, hk, if_false, hn, List.replicate_succ]

/-- The first bytes of contents whose cells stand above them are erased. -/
theorem Memory.bytes_below (n : Nat) (m : Memory) (h : ∀ c ∈ m, n ≤ c.1) : m.bytes 0 n = List.replicate n Config.erasedByte := by
  have hd : (m.dropWhile fun c => decide (c.1 < 0)) = m := by cases m <;> simp [List.dropWhile]
  rw [Memory.bytes, hd]
  exact Memory.readFrom_below n 0 m (by simpa using h)

/-- Unsigned contents bear no valid signature. -/
theorem Memory.unsigned_bytes_ne (m : Memory) : m.unsigned.bytes 0 4 ≠ signatureBytes := by
  rw [Memory.bytes_below 4 _ fun c hc => by simpa using (List.mem_filter.mp hc).2]
  decide

/-- Contents whose header's sector is erased bear no valid signature. -/
theorem Memory.headerErased_bytes_ne (m : Memory) : m.headerErased.bytes 0 4 ≠ signatureBytes := by
  rw [Memory.bytes_below 4 _ fun c hc => by
    have h : Config.sectorSize ≤ c.1 := by simpa using (List.mem_filter.mp hc).2
    simp only [Config.sectorSize] at h
    omega]
  decide

theorem Memory.read_sectorsErased (m : Memory) (l : List Nat) (a : Nat) :
    (m.sectorsErased l).read a = if a / Config.sectorSize ∈ l then Config.erasedByte else m.read a := by
  rw [Memory.sectorsErased, Memory.read_filter (fun k => decide (k / Config.sectorSize ∉ l)) m a]
  by_cases h : a / Config.sectorSize ∈ l <;> simp [h]

/-- All that an erase step cut short can leave: what it found, the header's sector erased, that sector alone changed and no valid
signature, or some sectors erased, the header's among them, and cells changed in one other. -/
theorem Memory.eraseCut_cases (m : Memory) (f : Config.FlashCut) :
    let first := m.change (f.cells.filter fun c => decide (c.1 < Config.sectorSize))
    m.eraseCut f = m ∨ m.eraseCut f = first.headerErased ∨
    (m.eraseCut f = first ∧ first.bytes 0 4 ≠ signatureBytes) ∨
    (0 ∈ f.sectors ∧ m.eraseCut f = (m.sectorsErased f.sectors).change (cellsUnderWay f)) := by
  simp only [Memory.eraseCut]
  split
  · exact .inr (.inr (.inr ⟨‹_›, rfl⟩))
  · split
    · exact .inl rfl
    · split
      · exact .inr (.inl rfl)
      · exact .inr (.inr (.inl ⟨rfl, ‹_›⟩))

/-! ### Every operation keeps the canonical form -/

theorem Memory.wf_iff (m : Memory) :
    m.wf = true ↔ Memory.wfFrom 0 m = true ∧ ∀ c ∈ m, c.1 < Config.imageArea := by
  simp [Memory.wf]

theorem Memory.wf_nil : Memory.wf [] = true := rfl

theorem Memory.wf_filter (p : Host.Cell → Bool) {m : Memory} (h : m.wf = true) : Memory.wf (m.filter p) = true := by
  rw [Memory.wf_iff] at h ⊢
  exact ⟨Memory.wfFrom_filter p h.1, fun c hc => h.2 c (List.mem_filter.mp hc).1⟩

theorem Memory.wf_write {m : Memory} (h : m.wf = true) {a : Nat} (ha : a < Config.imageArea) (x : Byte) :
    (m.write a x).wf = true := by
  unfold Memory.write
  split
  · exact Memory.wf_filter _ h
  · rename_i hx
    have he : (m.erase a).wf = true := Memory.wf_filter _ h
    rw [Memory.wf_iff] at he ⊢
    refine ⟨Memory.wfFrom_insert he.1 (Nat.zero_le a) hx (Memory.not_mem_erase m a), fun c hc => ?_⟩
    rcases Memory.mem_insert hc with rfl | hc
    · exact ha
    · exact he.2 c hc

/-- Changes from outside keep the canonical form. -/
theorem Memory.wf_change {m : Memory} (h : m.wf = true) (changed : List Host.Cell) : (m.change changed).wf = true := by
  unfold Memory.change
  induction changed generalizing m with
  | nil => exact h
  | cons c l ih =>
    rw [List.foldl_cons]
    apply ih
    split
    · exact Memory.wf_write h ‹_› _
    · exact h

theorem Memory.wfFrom_ofBytes (a : Nat) (l : List Byte) : Memory.wfFrom a (Memory.ofBytes a l) = true := by
  induction l generalizing a with
  | nil => rfl
  | cons b l ih =>
    simp only [Memory.ofBytes]
    split
    · exact Memory.wfFrom_mono (ih (a + 1)) (by omega)
    · rename_i hb
      simp [Memory.wfFrom, hb, ih]

theorem Memory.mem_ofBytes {a : Nat} {l : List Byte} {c : Host.Cell} (h : c ∈ Memory.ofBytes a l) : c.1 < a + l.length := by
  induction l generalizing a with
  | nil => simp [Memory.ofBytes] at h
  | cons b l ih =>
    simp only [Memory.ofBytes] at h
    simp only [List.length_cons]
    split at h
    · have := ih h; omega
    · rcases List.mem_cons.mp h with rfl | h
      · simp
      · have := ih h; omega

/-- What is programmed from a buffer that fits the image area is in canonical form. -/
theorem Memory.wf_ofBytes {l : List Byte} (h : l.length ≤ Config.imageArea) : (Memory.ofBytes 0 l).wf = true := by
  rw [Memory.wf_iff]
  refine ⟨Memory.wfFrom_ofBytes 0 l, fun c hc => ?_⟩
  have := Memory.mem_ofBytes hc
  omega

theorem Memory.wf_unsigned {m : Memory} (h : m.wf = true) : m.unsigned.wf = true := Memory.wf_filter _ h

/-- Erasing the header's sector keeps the canonical form. -/
theorem Memory.wf_headerErased {m : Memory} (h : m.wf = true) : m.headerErased.wf = true := Memory.wf_filter _ h

theorem Memory.wf_sectorsErased {m : Memory} (h : m.wf = true) (l : List Nat) : (m.sectorsErased l).wf = true :=
  Memory.wf_filter _ h

/-- An erase step cut short keeps the canonical form. -/
theorem Memory.wf_eraseCut {m : Memory} (h : m.wf = true) (f : Config.FlashCut) : (m.eraseCut f).wf = true := by
  obtain e | e | ⟨e, -⟩ | ⟨-, e⟩ := Memory.eraseCut_cases m f <;> rw [e]
  · exact h
  · exact Memory.wf_headerErased (Memory.wf_change h _)
  · exact Memory.wf_change h _
  · exact Memory.wf_change (Memory.wf_sectorsErased h _) _

/-- A step cut short keeps the canonical form. -/
theorem Memory.wf_cutShort {m : Memory} (h : m.wf = true) {image : List Byte} (hi : image.length ≤ Config.imageArea) (x : SaveStep)
    (f : Config.FlashCut) : (m.cutShort image x f).wf = true := by
  cases x
  · exact Memory.wf_eraseCut h f
  · exact Memory.wf_unsigned (Memory.wf_ofBytes (by rw [List.length_take]; omega))
  · exact h
  · exact Memory.wf_change h _

/-- A failed save keeps the canonical form. -/
theorem Memory.wf_failed {m : Memory} (h : m.wf = true) {image : List Byte} (hi : image.length ≤ Config.imageArea) (x : SaveStep)
    (f : Config.FlashCut) : (m.failed image x f).wf = true := by
  simp only [Memory.failed]
  split
  · exact Memory.wf_headerErased (Memory.wf_cutShort h hi x f)
  · exact Memory.wf_cutShort h hi x f

/-- A save that RESET abandons keeps the canonical form. -/
theorem Memory.wf_abandoned {m : Memory} (h : m.wf = true) {image : List Byte} (hi : image.length ≤ Config.imageArea) (x : SaveStep)
    (f : Config.FlashCut) : (m.abandoned image x f).wf = true := by
  simp only [Memory.abandoned]
  split
  · exact Memory.wf_unsigned (Memory.wf_cutShort h hi x f)
  · exact Memory.wf_cutShort h hi x f

/-- A programmed buffer reads back byte for byte, and erased past its end. -/
theorem Memory.read_ofBytes (a : Nat) (l : List Byte) (k : Nat) :
    Memory.read (Memory.ofBytes a l) (a + k) = l.getD k Config.erasedByte := by
  induction l generalizing a k with
  | nil => rfl
  | cons b l ih =>
    simp only [Memory.ofBytes]
    cases k with
    | zero =>
      split
      · rename_i hb
        rw [Nat.add_zero, Memory.read_below (Memory.wfFrom_ofBytes (a + 1) l) (by omega)]
        simp [hb]
      · simp [Memory.read]
    | succ k =>
      have ih := ih (a + 1) k
      have e : a + (k + 1) = a + 1 + k := by omega
      split
      · rw [e, ih]; simp
      · rw [Memory.read, if_neg (by omega), e, ih]; simp

/-- Contents in canonical form are determined by what they read as. -/
theorem Memory.eq_of_read {a : Nat} {m m' : Memory} (h : Memory.wfFrom a m = true) (h' : Memory.wfFrom a m' = true)
    (hr : ∀ k, a ≤ k → m.read k = m'.read k) : m = m' := by
  induction m generalizing a m' with
  | nil =>
    cases m' with
    | nil => rfl
    | cons c m' =>
      obtain ⟨k, x⟩ := c
      simp only [Memory.wfFrom, Bool.and_eq_true, decide_eq_true_eq] at h'
      have := hr k h'.1.1
      simp [Memory.read] at this
      exact absurd this.symm h'.1.2
  | cons c m ih =>
    obtain ⟨k, x⟩ := c
    simp only [Memory.wfFrom, Bool.and_eq_true, decide_eq_true_eq] at h
    cases m' with
    | nil =>
      have := hr k h.1.1
      simp [Memory.read] at this
      exact absurd this h.1.2
    | cons c' m' =>
      obtain ⟨k', x'⟩ := c'
      simp only [Memory.wfFrom, Bool.and_eq_true, decide_eq_true_eq] at h'
      have hk : k = k' := by
        rcases Nat.lt_trichotomy k k' with hlt | heq | hgt
        · have := hr k h.1.1
          rw [Memory.read, if_pos rfl, Memory.read, if_neg (by omega), Memory.read_below h'.2 (by omega)] at this
          exact absurd this h.1.2
        · exact heq
        · have := hr k' h'.1.1
          rw [Memory.read, if_neg (by omega), Memory.read_below h.2 (by omega), Memory.read, if_pos rfl] at this
          exact absurd this.symm h'.1.2
      subst hk
      have hx : x = x' := by simpa [Memory.read] using hr k h.1.1
      subst hx
      congr 1
      refine ih h.2 h'.2 fun j hj => ?_
      have := hr j (by omega)
      rwa [Memory.read, if_neg (by omega), Memory.read, if_neg (by omega)] at this

/-- The flash of the state after reset is in canonical form. -/
theorem State.reset_flash_wf : State.reset.flash.wf = true := rfl

end Sys2Proof.Machine
end

