-- ==== Sys2Proof/Laws/Operations.lean ====
section
/-! SUPPORT. What each shared operation can do, said once: a wait falling due, taking a request, handing an entry over, settling a
port, a release flush, a pointer arrival without effect, a trigger of the wake controller, a focus change. -/

namespace Sys2Proof.Machine

/-! ### Waits -/

/-- A wait that has reached its duration runs. -/
theorem Wait.isRunning_of_due {w : Wait} (h : w.due = true) : w.isRunning = true := by
  cases w with
  | stopped => cases h
  | running d e => rfl

/-- A wait that does not run is not due. -/
@[simp] theorem Wait.due_stopped : Wait.due .stopped = false := rfl

@[simp] theorem Wait.isRunning_stopped : Wait.isRunning .stopped = false := rfl
@[simp] theorem Wait.isRunning_running (d e : Nat) : Wait.isRunning (.running d e) = true := rfl
@[simp] theorem Wait.due_running (d e : Nat) : Wait.due (.running d e) = decide (d ≤ e) := rfl
@[simp] theorem Wait.isRunning_advance (w : Wait) : w.advance.isRunning = w.isRunning := by cases w <;> rfl

/-! ### Ports and T6 -/

/-- Settling a port replaces it, and touches nothing else but the slot's T6. -/
theorem State.settlePort_eq (s : State) (n : Slot) (p : Port) :
    s.settlePort n p = { s with
      ports := s.ports.put n p
      bank := if p.waits then
          (if (s.port n).waits then s.bank else s.bank.setTimer (.t6 n) (.running (s.tables.timing.get 6).duration 0))
        else s.bank.setTimer (.t6 n) .stopped } := by
  simp only [State.settlePort]
  split
  · split <;> rfl
  · rfl

@[simp] theorem State.settlePort_port_same (s : State) (n : Slot) (p : Port) : (s.settlePort n p).port n = p := by
  rw [State.settlePort_eq]; exact Table.get_put_same ..

theorem State.settlePort_port_ne (s : State) {n m : Slot} (p : Port) (h : m ≠ n) : (s.settlePort n p).port m = s.port m := by
  rw [State.settlePort_eq]; exact Table.get_put_ne _ _ h

@[simp] theorem State.settlePort_fc (s : State) (n : Slot) (p : Port) : (s.settlePort n p).fc = s.fc := by
  rw [State.settlePort_eq]
@[simp] theorem State.settlePort_gu (s : State) (n : Slot) (p : Port) : (s.settlePort n p).gu = s.gu := by
  rw [State.settlePort_eq]
@[simp] theorem State.settlePort_wakes (s : State) (n : Slot) (p : Port) : (s.settlePort n p).wakes = s.wakes := by
  rw [State.settlePort_eq]
@[simp] theorem State.settlePort_atu (s : State) (n : Slot) (p : Port) : (s.settlePort n p).atu = s.atu := by
  rw [State.settlePort_eq]
@[simp] theorem State.settlePort_cmp (s : State) (n : Slot) (p : Port) : (s.settlePort n p).cmp = s.cmp := by
  rw [State.settlePort_eq]
@[simp] theorem State.settlePort_mgi (s : State) (n : Slot) (p : Port) : (s.settlePort n p).mgi = s.mgi := by
  rw [State.settlePort_eq]
@[simp] theorem State.settlePort_ciu (s : State) (n : Slot) (p : Port) : (s.settlePort n p).ciu = s.ciu := by
  rw [State.settlePort_eq]
@[simp] theorem State.settlePort_hkm (s : State) (n : Slot) (p : Port) : (s.settlePort n p).hkm = s.hkm := by
  rw [State.settlePort_eq]
@[simp] theorem State.settlePort_tables (s : State) (n : Slot) (p : Port) : (s.settlePort n p).tables = s.tables := by
  rw [State.settlePort_eq]

/-- The queue a hand-over leaves: merged into its newest entry, appended with room to spare, unchanged for dropped pure
motion, or appended after an eviction from a full queue. -/
theorem takeEntry_cases {last : Buttons} {q q' : List Entry} {e : Entry} (h : takeEntry last q e = some q') :
    mergeNewest q e = some q' ∨
    (mergeNewest q e = none ∧ q.length < Config.reportCapacity ∧ q' = q ++ [e]) ∨
    (mergeNewest q e = none ∧ Config.reportCapacity ≤ q.length ∧ pureMotion last q e = true ∧ q' = q) ∨
    (mergeNewest q e = none ∧ Config.reportCapacity ≤ q.length ∧ pureMotion last q e = false ∧
      ∃ r, evictOldest last q = some r ∧ q' = r ++ [e]) := by
  unfold takeEntry at h
  split at h
  · exact .inl (by simp_all)
  · rename_i hm
    split at h
    · exact .inr (.inl ⟨hm, ‹_›, by simpa using h.symm⟩)
    · rename_i hl
      split at h
      · exact .inr (.inr (.inl ⟨hm, by omega, ‹_›, by simpa using h.symm⟩))
      · rename_i hp
        obtain ⟨r, hr, rfl⟩ := Option.map_eq_some_iff.mp h
        exact .inr (.inr (.inr ⟨hm, by omega, by simpa using hp, r, hr, rfl⟩))

/-- A hand-over: nothing for an OFF slot, the queue taken where room is made, and otherwise a release flush and
QUEUE_OVERFLOW. -/
theorem State.handOver_cases (s : State) (n : Slot) (e : Entry) :
    (s.link n = .off ∧ s.handOver n e = s) ∨
    (s.link n ≠ .off ∧ ∃ q, takeEntry (s.port n).lastButtons (s.port n).queue e = some q ∧
      s.handOver n e = s.settlePort n { s.port n with queue := q }) ∨
    (s.link n ≠ .off ∧ takeEntry (s.port n).lastButtons (s.port n).queue e = none ∧
      s.handOver n e = (s.releaseFlush n).raiseEvent .queueOverflow) := by
  unfold State.handOver
  split
  · exact .inl ⟨‹_›, rfl⟩
  · split
    · exact .inr (.inl ⟨‹_›, _, ‹_›, rfl⟩)
    · exact .inr (.inr ⟨‹_›, ‹_›, rfl⟩)

/-- The port after a release flush: its queue holds what the last delivered values call for, and the rest is kept. -/
@[simp] theorem State.releaseFlush_port_same (s : State) (n : Slot) :
    (s.releaseFlush n).port n = { s.port n with queue := (s.port n).flushEntries } := by
  have h : (((s.fcLoss n).guLoss n).port n) = s.port n := by
    simp only [State.fcLoss, State.suppressFocusModifiers]
    split <;> rfl
  simp only [State.releaseFlush, State.settleFlushedPort, h]
  split <;> simp [Port.flushed]

/-! ### Pointer arrivals -/

/-- An arrival that passes over a delivering tile changes nothing there (03, R47; L35). -/
theorem State.finishArrival_passesOver {s : State} {a : Arrival} {i : TileIx} {n : Slot} (hd : s.delivers = some (i, n))
    (ha : s.passesOver a i n = true) (mx my : Int) (crossed : Bool) : s.finishArrival a mx my crossed = s := by
  simp [State.finishArrival, hd, ha]

/-- An arrival with all deltas zero and no button change passes over where no output is stored (03, R47). -/
theorem State.passesOver_of_still {s : State} {a : Arrival} {n : Slot} (ha : a.still = true) (hn : s.storesOutput n = false)
    (i : TileIx) : s.passesOver a i n = true := by
  simp [State.passesOver, ha, hn]

/-- An arrival with a delta or a button change passes over nowhere. -/
theorem State.passesOver_of_moving (s : State) {a : Arrival} (ha : a.still = false) (i : TileIx) (n : Slot) :
    s.passesOver a i n = false := by
  simp [State.passesOver, ha]

/-! ### Wake triggers -/

/-- What a trigger does: nothing for an ACTIVE slot or a running sequence, and otherwise a new sequence (06, R99). -/
theorem State.trigger_cases (s : State) (n : Slot) (c : Cause) :
    (s.link n = .active ∧ s.trigger n c = (s, .active)) ∨
    (s.link n ≠ .active ∧ ((s.wake n).phase.inSequence = true ∨ s.link n = .resuming) ∧ s.trigger n c = (s, .running)) ∨
    (s.link n ≠ .active ∧ s.link n ≠ .resuming ∧ (s.wake n).phase.inSequence = false ∧
      s.trigger n c = (s.setWake n { s.wake n with attempts := 0, cause := c }).startSequence n) := by
  unfold State.trigger
  split
  · exact .inl ⟨‹_›, rfl⟩
  · rename_i ha
    split
    · exact .inr (.inl ⟨ha, ‹_›, rfl⟩)
    · rename_i hr
      rw [not_or] at hr
      exact .inr (.inr ⟨ha, hr.2, by simpa using hr.1, rfl⟩)

/-! ### The focus -/

/-- Handing an entry over leaves the focus where it is. -/
@[simp] theorem State.handOver_focus (s : State) (n : Slot) (e : Entry) : (s.handOver n e).fc.focus = s.fc.focus := by
  rcases s.handOver_cases n e with ⟨-, h⟩ | ⟨-, q, -, h⟩ | ⟨-, -, h⟩ <;> rw [h]
  · simp
  · simp only [State.raiseEvent_fc, State.releaseFlush, State.settleFlushedPort, State.fcLoss, State.suppressFocusModifiers]
    split <;> split <;> rfl

/-! ### Requests -/

/-- The header of a request's bytes decodes to the request, with no overrun (13, R191). -/
theorem requestOf_requestBytes (kind code : Byte) (index : Half) (view : Byte) (payload : List Byte)
    (h : payload.length < 256) :
    requestOf kind (requestBytes code index view payload) = some ⟨kind, code, index, view, payload, false⟩ := by
  have hl : (byte payload.length).toNat = payload.length := by simp [byte]; omega
  have hi : (index >>> 8).setWidth 8 ++ index.setWidth 8 = index := by
    apply BitVec.eq_of_getLsbD_eq
    intro i hi
    rw [BitVec.getLsbD_append]
    by_cases h8 : i < 8
    · simp [h8]
    · simp only [h8, decide_false, BitVec.getLsbD_setWidth, BitVec.getLsbD_ushiftRight]
      rw [show 8 + (i - 8) = i by omega]
      simp [show i - 8 < 8 by omega]
  simp only [requestBytes, requestOf, List.cons_append, List.nil_append, hl]
  rw [hi]
  simp

/-- A request an open port takes is answered by its meaning, with one response at the newest end of the queue (05, R93; 11, R167). -/
theorem State.takeRequest_requestBytes {s : State} {n : Slot} (h : OpenTo s n) (kind code : Byte) (index : Half) (view : Byte)
    (payload : List Byte) (hp : payload.length < 256) (f : Request → Answer) :
    s.takeRequest n kind (requestBytes code index view payload) f =
      let a := f ⟨kind, code, index, view, payload, false⟩
      a.state.respond n ⟨a.status, kind, code, index, a.payload⟩ := by
  have ht : s.takesRequest n = true := by
    simp only [State.takesRequest, h.2.1, decide_true, Bool.true_and, decide_eq_true_eq]
    exact h.2.2
  simp only [State.takeRequest, ht, if_true, requestOf_requestBytes _ _ _ _ _ hp, State.answerRequest]
  rfl

/-- A port that is not open takes no request. -/
theorem State.takeRequest_closed {s : State} {n : Slot} (h : s.takesRequest n = false) (kind : Byte) (report : List Byte)
    (f : Request → Answer) : s.takeRequest n kind report f = s := by
  simp [State.takeRequest, h]

end Sys2Proof.Machine
end

