-- ==== Sys2Proof/WellFormed.lean ====
section
/-! DEFINITION. Which commands the outside world can send: the checks on a command's operands. A meaning does not
stop on a command that fails them (it takes what its rules give); the statements name them where they need them. -/

namespace Sys2Proof

/-- A console report fits a full-speed report of 64 bytes (01, section 1.1; the limit itself is USB's, L18). -/
def consoleReportFits (bytes : List Byte) : Bool := decide (bytes.length ≤ 64)

/-- A management request is at most 64 bytes with its kind code (05, section 5.6). -/
def managementReportFits (report : List Byte) : Bool := decide (report.length + 1 ≤ Config.managementReportSize)

/-- Kind code 0 and codes above 11 are unknown kinds (13, R191). -/
def kindUnknown (kind : Byte) : Bool := decide (kind = 0 ∨ 11 < kind.toNat)

/-- The cells of a change of flash contents lie in the image area (12, R181). -/
def cellsInImageArea (cells : List Host.Cell) : Bool := cells.all fun c => decide (c.1 < Config.imageArea)

/-- The checks, command by command. -/
def Instr.wellFormed : Instr → Bool
  | .keyboardReport bytes | .pointerReport bytes => consoleReportFits bytes
  | .read _ r | .write _ r | .commit _ r | .focus _ r | .wake _ r | .share _ r | .raise _ r | .withdraw _ r
  | .status _ r | .save _ r | .restart _ r => managementReportFits r
  | .unknownKind _ kind r => kindUnknown kind && managementReportFits r
  | .frameStart _ period _ => decide (0 < period.val)
  | .loadEnd cells | .saveVerifyEnd cells | .saveSignEnd cells => cellsInImageArea cells
  | .consoleDeviceConnected _ | .consoleConfigurationEnd _ _ | .consoleDeviceDisconnected _
  | .ledTransferComplete | .ledTransferFailed | .leadWindowExpiry | .commandIdleExpiry | .blinkExpiry
  | .busPowerSensed _ | .busPowerLost _ | .busReset _ | .configuration1Selected _ | .configuration0Selected _
  | .busIdle _ | .resumeSignalling _ | .resumeSignallingEnd _ | .setRemoteWakeupFeature _
  | .clearRemoteWakeupFeature _ | .slotLedReport _ _ | .inPoll _ | .reportAcknowledged _ | .managementInPoll _
  | .responseAcknowledged _ | .wakeResponseExpiry _ | .wakePulseExpiry _ | .powerUpWaitExpiry _
  | .queueHoldExpiry _ | .lossTimerExpiry _ | .verticalBlanking _ | .resetAsserted | .resetReleased
  | .saveEraseEnd | .saveProgramEnd | .flashBusyTimeout => true

end Sys2Proof
end

