-- ==== Sys2Proof/Laws/PerInstr.lean ====
section
/-! SUPPORT. A statement for every command, one lemma per constructor: the report a well-formed command carries fits the
interface it arrives on. -/

namespace Sys2Proof

/-- Bytes of the report a command carries: the console's as it is, a management request's with its kind code (13, R189, R191). -/
def Instr.reportLength : Instr → Nat
  | .keyboardReport bytes | .pointerReport bytes => bytes.length
  | .read _ r | .write _ r | .commit _ r | .focus _ r | .wake _ r | .share _ r | .raise _ r | .withdraw _ r | .status _ r | .save _ r | .restart _ r => r.length + 1
  | .unknownKind _ _ r => r.length + 1
  | .consoleDeviceConnected _ | .consoleConfigurationEnd _ _ | .consoleDeviceDisconnected _ | .ledTransferComplete
  | .ledTransferFailed | .leadWindowExpiry | .commandIdleExpiry | .blinkExpiry | .busPowerSensed _ | .busPowerLost _
  | .busReset _ | .configuration1Selected _ | .configuration0Selected _ | .busIdle _ | .resumeSignalling _
  | .resumeSignallingEnd _ | .setRemoteWakeupFeature _ | .clearRemoteWakeupFeature _ | .slotLedReport _ _ | .inPoll _
  | .reportAcknowledged _ | .managementInPoll _ | .responseAcknowledged _ | .wakeResponseExpiry _
  | .wakePulseExpiry _ | .powerUpWaitExpiry _ | .queueHoldExpiry _ | .frameStart _ _ _ | .lossTimerExpiry _
  | .verticalBlanking _ | .resetAsserted | .resetReleased | .loadEnd _ | .saveEraseEnd | .saveProgramEnd
  | .saveVerifyEnd _ | .saveSignEnd _ | .flashBusyTimeout => 0

end Sys2Proof

namespace Sys2Proof.Laws.Carried

/-- A well-formed command carries at most 64 bytes. -/
def Statement (i : Instr) : Prop := i.wellFormed = true → i.reportLength ≤ 64

theorem consoleDeviceConnected (port : ConsolePort) : Statement (.consoleDeviceConnected port) := fun _ => Nat.zero_le 64
theorem consoleConfigurationEnd (port : ConsolePort) (device : ConsoleDevice) : Statement (.consoleConfigurationEnd port device) := fun _ => Nat.zero_le 64
theorem consoleDeviceDisconnected (port : ConsolePort) : Statement (.consoleDeviceDisconnected port) := fun _ => Nat.zero_le 64
theorem keyboardReport (bytes : List Byte) : Statement (.keyboardReport bytes) := fun h => of_decide_eq_true h
theorem pointerReport (bytes : List Byte) : Statement (.pointerReport bytes) := fun h => of_decide_eq_true h
theorem ledTransferComplete : Statement (.ledTransferComplete) := fun _ => Nat.zero_le 64
theorem ledTransferFailed : Statement (.ledTransferFailed) := fun _ => Nat.zero_le 64
theorem leadWindowExpiry : Statement (.leadWindowExpiry) := fun _ => Nat.zero_le 64
theorem commandIdleExpiry : Statement (.commandIdleExpiry) := fun _ => Nat.zero_le 64
theorem blinkExpiry : Statement (.blinkExpiry) := fun _ => Nat.zero_le 64
theorem busPowerSensed (s : Slot) : Statement (.busPowerSensed s) := fun _ => Nat.zero_le 64
theorem busPowerLost (s : Slot) : Statement (.busPowerLost s) := fun _ => Nat.zero_le 64
theorem busReset (s : Slot) : Statement (.busReset s) := fun _ => Nat.zero_le 64
theorem configuration1Selected (s : Slot) : Statement (.configuration1Selected s) := fun _ => Nat.zero_le 64
theorem configuration0Selected (s : Slot) : Statement (.configuration0Selected s) := fun _ => Nat.zero_le 64
theorem busIdle (s : Slot) : Statement (.busIdle s) := fun _ => Nat.zero_le 64
theorem resumeSignalling (s : Slot) : Statement (.resumeSignalling s) := fun _ => Nat.zero_le 64
theorem resumeSignallingEnd (s : Slot) : Statement (.resumeSignallingEnd s) := fun _ => Nat.zero_le 64
theorem setRemoteWakeupFeature (s : Slot) : Statement (.setRemoteWakeupFeature s) := fun _ => Nat.zero_le 64
theorem clearRemoteWakeupFeature (s : Slot) : Statement (.clearRemoteWakeupFeature s) := fun _ => Nat.zero_le 64
theorem slotLedReport (s : Slot) (leds : Byte) : Statement (.slotLedReport s leds) := fun _ => Nat.zero_le 64
theorem inPoll (s : Slot) : Statement (.inPoll s) := fun _ => Nat.zero_le 64
theorem reportAcknowledged (s : Slot) : Statement (.reportAcknowledged s) := fun _ => Nat.zero_le 64
theorem managementInPoll (s : Slot) : Statement (.managementInPoll s) := fun _ => Nat.zero_le 64
theorem responseAcknowledged (s : Slot) : Statement (.responseAcknowledged s) := fun _ => Nat.zero_le 64
theorem read (s : Slot) (report : List Byte) : Statement (.read s report) := fun h => of_decide_eq_true h
theorem write (s : Slot) (report : List Byte) : Statement (.write s report) := fun h => of_decide_eq_true h
theorem commit (s : Slot) (report : List Byte) : Statement (.commit s report) := fun h => of_decide_eq_true h
theorem focus (s : Slot) (report : List Byte) : Statement (.focus s report) := fun h => of_decide_eq_true h
theorem wake (s : Slot) (report : List Byte) : Statement (.wake s report) := fun h => of_decide_eq_true h
theorem share (s : Slot) (report : List Byte) : Statement (.share s report) := fun h => of_decide_eq_true h
theorem raise (s : Slot) (report : List Byte) : Statement (.raise s report) := fun h => of_decide_eq_true h
theorem withdraw (s : Slot) (report : List Byte) : Statement (.withdraw s report) := fun h => of_decide_eq_true h
theorem status (s : Slot) (report : List Byte) : Statement (.status s report) := fun h => of_decide_eq_true h
theorem save (s : Slot) (report : List Byte) : Statement (.save s report) := fun h => of_decide_eq_true h
theorem restart (s : Slot) (report : List Byte) : Statement (.restart s report) := fun h => of_decide_eq_true h
theorem wakeResponseExpiry (s : Slot) : Statement (.wakeResponseExpiry s) := fun _ => Nat.zero_le 64
theorem wakePulseExpiry (s : Slot) : Statement (.wakePulseExpiry s) := fun _ => Nat.zero_le 64
theorem powerUpWaitExpiry (s : Slot) : Statement (.powerUpWaitExpiry s) := fun _ => Nat.zero_le 64
theorem queueHoldExpiry (s : Slot) : Statement (.queueHoldExpiry s) := fun _ => Nat.zero_le 64
theorem frameStart (n : SourceIx) (period : Fin 200000) (lines : Frame) : Statement (.frameStart n period lines) := fun _ => Nat.zero_le 64
theorem lossTimerExpiry (n : SourceIx) : Statement (.lossTimerExpiry n) := fun _ => Nat.zero_le 64
theorem verticalBlanking (h : HeadIx) : Statement (.verticalBlanking h) := fun _ => Nat.zero_le 64
theorem resetAsserted : Statement (.resetAsserted) := fun _ => Nat.zero_le 64
theorem resetReleased : Statement (.resetReleased) := fun _ => Nat.zero_le 64
theorem loadEnd (changed : List Host.Cell) : Statement (.loadEnd changed) := fun _ => Nat.zero_le 64
theorem saveEraseEnd : Statement (.saveEraseEnd) := fun _ => Nat.zero_le 64
theorem saveProgramEnd : Statement (.saveProgramEnd) := fun _ => Nat.zero_le 64
theorem saveVerifyEnd (changed : List Host.Cell) : Statement (.saveVerifyEnd changed) := fun _ => Nat.zero_le 64
theorem saveSignEnd (changed : List Host.Cell) : Statement (.saveSignEnd changed) := fun _ => Nat.zero_le 64
theorem flashBusyTimeout : Statement (.flashBusyTimeout) := fun _ => Nat.zero_le 64
theorem unknownKind (s : Slot) (kind : Byte) (report : List Byte) : Statement (.unknownKind s kind report) := fun h => of_decide_eq_true (Bool.and_eq_true_iff.mp h).2

end Sys2Proof.Laws.Carried
end

