-- ==== Sys2Proof/Tests/Slice0.lean ====
section
/-! SUPPORT. Small tests: each check of WellFormed refuses an ill-formed command; commands on small states with the results
the manual's tables and examples give; and for each statement with hypotheses a state and operands that meet them. -/

namespace Sys2Proof.Tests

open Sys2Proof Sys2Proof.Machine

set_option maxRecDepth 20000

/-! ### Small states -/

/-- The part taking events, every table at its defaults, every port OFF, nothing attached. -/
def live : State := State.reset.setReset false

/-- Slot `n` ACTIVE. -/
def active (s : State) (n : Slot) : State := s.setPort n { Port.reset with link := .active }

/-- Slot `n` with a link state and remote-wake-permitted. -/
def linked (s : State) (n : Slot) (l : Link) (permitted : Bool) : State :=
  s.setPort n { Port.reset with link := l, remoteWake := permitted }

/-- The console keyboard READY with the keys `ks` held. -/
def keyboard (s : State) (ks : List Byte) : State := s.setCiu { s.ciu with keyboardPort := .ready, keys := ks }

/-- The console pointer READY. -/
def pointer (s : State) : State := s.setCiu { s.ciu with pointerPort := .ready }

/-- A wake phase of slot `n`. -/
def phased (s : State) (n : Slot) (p : Phase) : State := s.setWake n { WakeRecord.reset with phase := p }

/-- A timer that has reached its duration. -/
def timed (s : State) (i : TimerId) : State := s.setBank (s.bank.setTimer i (.running 5 5))

/-- A timer restarted since: its expiry, if one is still queued, is stale. -/
def restarted (s : State) (i : TimerId) : State := s.setBank (s.bank.setTimer i (.running 5 0))

/-- The loader in a state. -/
def loading (s : State) (l : Loader) : State := s.setPl { s.pl with loader := l }

/-- The next state of an outcome. -/
def after (x : Host.Outcome State Fault Refusal) : State :=
  match x with
  | .next t => t
  | .fault _ | .refused _ => State.reset

/-- The state after one command. -/
def run (c : Instr) (s : State) : State := after (exec c s)

/-! ### WellFormed refuses -/

theorem test_wf_keyboard_report_too_long : Instr.wellFormed (.keyboardReport (List.replicate 65 0)) = false := by decide
theorem test_wf_pointer_report_too_long : Instr.wellFormed (.pointerReport (List.replicate 65 0)) = false := by decide
theorem test_wf_request_too_long : Instr.wellFormed (.read 0 (List.replicate 64 0)) = false := by decide
theorem test_wf_request_fits : Instr.wellFormed (.read 0 (List.replicate 63 0)) = true := by decide
theorem test_wf_unknown_kind_known : Instr.wellFormed (.unknownKind 0 11 []) = false := by decide
theorem test_wf_unknown_kind_too_long : Instr.wellFormed (.unknownKind 0 12 (List.replicate 64 0)) = false := by decide
theorem test_wf_unknown_kind : Instr.wellFormed (.unknownKind 0 12 []) = true ∧ Instr.wellFormed (.unknownKind 0 0 []) = true := by
  decide
theorem test_wf_frame_without_period : Instr.wellFormed (.frameStart 0 0 []) = false := by decide
theorem test_wf_load_cell_outside : Instr.wellFormed (.loadEnd [(16384, 0)]) = false := by decide
theorem test_wf_verify_cell_outside : Instr.wellFormed (.saveVerifyEnd [(16384, 0)]) = false := by decide
theorem test_wf_sign_cell_outside : Instr.wellFormed (.saveSignEnd [(16384, 0)]) = false := by decide

/-! ### Words: the table gives no row bits, so a word spells no command -/

theorem test_words_spell_nothing : decodeTableWord 8 0 = none ∧ State.reset.withFetchWord 8 0 = State.reset := by decide

/-! ### Console and single timers (01, 02, 10) -/

/-- 01, R1. -/
theorem test_connect : (run (.consoleDeviceConnected .pointer) live).ciu.pointerPort = .configuring := by decide
/-- A console keyboard, a console pointer, and a keyboard that leaves a configuration request unanswered. -/
def aKeyboard : ConsoleDevice := ⟨[⟨.other, .other⟩, ⟨.keyboard, .consoleKeyboard⟩], [.accepted]⟩
def aPointer : ConsoleDevice := ⟨[⟨.pointer, .consolePointer⟩], []⟩
def aSilentKeyboard : ConsoleDevice := ⟨[⟨.keyboard, .consoleKeyboard⟩], [.accepted, .silent]⟩

/-- Both console ports CONFIGURING. -/
def configuring : State := live.setCiu { live.ciu with keyboardPort := .configuring, pointerPort := .configuring }

/-- 01, R7: READY starts a transfer. -/
theorem test_keyboard_ready : (run (.consoleConfigurationEnd .keyboard aKeyboard) configuring).ciu.transfer = some 0 := by decide
/-- 01, R1: a keyboard is not proper to the pointer port, and an unanswered request fails a step. -/
theorem test_refused_devices :
    (run (.consoleConfigurationEnd .pointer aKeyboard) configuring).ciu.pointerPort = .refused ∧
    (run (.consoleConfigurationEnd .keyboard aSilentKeyboard) configuring).ciu.keyboardPort = .refused := by decide
/-- 01, R5: everything held is released. -/
theorem test_disconnect_releases : (run (.consoleDeviceDisconnected .keyboard)
    ((keyboard (active live 0) [6]).setFc { (Fc.reset 0 .follow) with
      held := [(6, .slot 0)], sent := Table.put (Table.all 8 KeyImage.empty) 0 ⟨0, [6]⟩ })).sent 0 = KeyImage.empty := by decide
/-- 01, R14: a press is delivered to the focus. -/
theorem test_press_delivered : (run (.keyboardReport (pressReport 0 6)) (keyboard (active live 0) [])).port 0 =
    { Port.reset with link := .active, queue := [.keyboard ⟨0, [6]⟩] } := by decide
/-- 13, R189: a rollover report is ignored. -/
theorem test_rollover_ignored : (run (.keyboardReport [1, 0, 1, 1, 1, 1, 1, 1]) (keyboard (active live 0) [])).ciu.mods = 0 := by
  decide
/-- 03, R63 at the default desk speed of 16: a delta of 16 moves P by 16. -/
theorem test_pointer_moves : (run (.pointerReport [0, 16, 0, 0]) (pointer (active live 0))).gu.px = -2864 := by decide
/-- 01, R4: a delta of -128 is taken as -127. -/
theorem test_pointer_delta_floor : (run (.pointerReport [0, 0x80, 0, 0]) (pointer (active live 0))).gu.px = -3007 := by decide
/-- A pointer in a RELATIVE tile of slot 0, whose accumulator stores 100 sixteenths. -/
def storing : State :=
  let s := pointer (active live 0)
  let tile := { s.cmp.active.tiles.get 0 with pointerMode := .relative }
  let t := s.setCmp { s.cmp with active := { s.cmp.active with tiles := s.cmp.active.tiles.put 0 tile } }
  t.setGu { t.gu with accX := t.gu.accX.put 0 100 }
/-- 03, R47: an arrival with all deltas zero and no button change makes no entry. -/
theorem test_still_arrival_makes_no_entry :
    let s := storing.setGu { storing.gu with accX := storing.gu.accX.put 0 15 }
    ((run (.pointerReport [0, 0, 0, 0]) s).port 0).queue = [] ∧ (run (.pointerReport [0, 0, 0, 0]) s).gu.accX.get 0 = 15 := by decide
/-- 04, R70: what an accumulator stores goes out with the next arrival that is delivered, though P does not move. -/
theorem test_stored_motion_goes_out :
    ((run (.pointerReport [0, 0, 0, 1]) storing).port 0).queue = [.rel 0 6 0 1] := by decide
/-- 01, R7. -/
theorem test_led_complete : (run .ledTransferComplete (live.setCiu { live.ciu with transfer := some 2, composed := 2 })).ciu.ledSent =
    some 2 := by decide
/-- 01, R7. -/
theorem test_led_failed : (run .ledTransferFailed (live.setCiu { live.ciu with transfer := some 2 })).ciu.retryHold = true := by
  decide
/-- 02, R33. -/
theorem test_lead_window : (run .leadWindowExpiry (timed (live.setHkm .leadOne) .t0)).hkm = .normal := by decide
/-- 02, R35. -/
theorem test_command_idle : (run .commandIdleExpiry (timed (live.setHkm .command) .t1)).hkm = .normal := by decide
/-- 10, R163: a restarted T1 expires only at the end of its new duration. -/
theorem test_stale_expiry : (run .commandIdleExpiry (restarted (live.setHkm .command) .t1)).hkm = .command := by decide
/-- 10, R164: T2 reloads its 400 ms. -/
theorem test_blink : (run .blinkExpiry (timed live .t2)).bank.t2 = .running 400 0 := by decide
/-- 02, R32 and section 10.1: T0 runs for 512 ms. -/
theorem test_lead_press : (run (.keyboardReport (pressReport 0 71)) (keyboard live [])).bank.t0 = .running 512 0 := by decide

/-! ### Slot links (05) -/

theorem test_power_sensed : (run (.busPowerSensed 3) live).link 3 = .attached := by decide
/-- 01, R21: the focus leaves a slot that loses power. -/
theorem test_power_lost : (run (.busPowerLost 0) (active live 0)).fc.focus = none := by decide
theorem test_bus_reset : (run (.busReset 2) (active live 2)).link 2 = .attached := by decide
theorem test_configured : (run (.configuration1Selected 2) (linked live 2 .attached false)).link 2 = .active := by decide
theorem test_deconfigured : (run (.configuration0Selected 2) (active live 2)).link 2 = .attached := by decide
theorem test_suspended : (run (.busIdle 2) (active live 2)).link 2 = .suspended := by decide
theorem test_resumed : (run (.resumeSignalling 2) (linked live 2 .suspended false)).link 2 = .active := by decide
/-- 06, R101: AWAIT starts T3, by default 1008 ms. -/
theorem test_signalling_ends : (run (.resumeSignallingEnd 2) (phased (live.setPort 2
    { Port.reset with link := .resuming, signalling := .running 10 10 }) 2 .signal)).timer (.t3 2) = .running 1008 0 := by decide
theorem test_feature_set : ((run (.setRemoteWakeupFeature 2) (active live 2)).port 2).remoteWake = true := by decide
theorem test_feature_cleared : ((run (.clearRemoteWakeupFeature 2) (linked live 2 .active true)).port 2).remoteWake = false := by
  decide
/-- 13, R190: bits 5 to 7 are ignored. -/
theorem test_slot_leds : ((run (.slotLedReport 2 0xE3) (active live 2)).port 2).leds = 3 := by decide
/-- 05, R90. -/
theorem test_in_poll : ((run (.inPoll 2) (live.setPort 2
    { Port.reset with link := .active, queue := [.keyboard ⟨2, [4]⟩] })).port 2).lastKeyboard = ⟨2, [4]⟩ := by decide
theorem test_acknowledged : ((run (.reportAcknowledged 2) (live.setPort 2
    { Port.reset with link := .active, hand := some Entry.release })).port 2).hand = none := by decide
theorem test_management_poll : ((run (.managementInPoll 2) (live.setPort 2
    { Port.reset with link := .active, responses := [⟨.done, 1, 0, 0, []⟩] })).port 2).responseHand = some ⟨.done, 1, 0, 0, []⟩ := by
  decide
theorem test_response_acknowledged : ((run (.responseAcknowledged 2) (live.setPort 2
    { Port.reset with link := .active, responseHand := some ⟨.done, 1, 0, 0, []⟩ })).port 2).responseHand = none := by decide

/-! ### Management (11): slot 0 holds every right by default, slots 1 to 7 none (R169) -/

/-- The newest response of a slot. -/
def answer (s : State) (n : Slot) : Option (Status × List Byte) := (s.port n).responses.getLast?.map fun r => (r.status, r.payload)

/-- 10, section 10.1: T6 holds code 2, constant 40. -/
theorem test_read : answer (run (.read 0 (requestBytes 7 6 0 [])) (active live 0)) 0 = some (.done, [2, 40]) := by decide
theorem test_read_denied : answer (run (.read 1 (requestBytes 7 6 0 [])) (active live 1)) 1 = some (.denied, []) := by decide
/-- 09, R138: 650 x 479 at 200 is stored as 648 x 480 at 144. -/
theorem test_write_clamps : (run (.write 0 (requestBytes 3 33 0 [0x8A, 2, 0xDF, 1, 200])) (active live 0)).tables.profiles.get 1 =
    ⟨648, 480, 144⟩ := by decide
/-- 11, R170: the last ACCESS writer may not leave. -/
theorem test_write_conflict : answer (run (.write 0 (requestBytes 0 0 0 [255, 254, 31])) (active live 0)) 0 = some (.conflict, []) := by
  decide
theorem test_commit_armed : answer (run (.commit 0 (requestBytes 0 0 0 [2])) (active live 0)) 0 = some (.armed, []) := by decide
theorem test_focus_none : (run (.focus 0 (requestBytes 0 0 0 [0xFF])) (active live 0)).fc.focus = none := by decide
/-- 06, R99: an OFF slot with no wake line wired fails at once. -/
theorem test_wake_failed : answer (run (.wake 0 (requestBytes 0 0 0 [5])) (active live 0)) 0 = some (.done, [3]) := by decide
theorem test_share : (run (.share 0 (requestBytes 0 0 0 [2])) (active live 0)).cmp.requested = some 2 := by decide
theorem test_raise : (run (.raise 5 (requestBytes 0 0 0 [])) (active live 5)).atu.alerts = [⟨5, 0⟩] := by decide
theorem test_withdraw : (run (.withdraw 5 (requestBytes 0 0 0 [])) ((active live 5).setAtu ⟨[⟨5, 0⟩], []⟩)).atu.alerts = [] := by decide
/-- 11, R180: page 0 empties the event set. -/
theorem test_status : (run (.status 0 (requestBytes 0 0 0 [])) ((active live 0).raiseEvent .saveDone)).mgi.events.get 0 = 0 := by decide
theorem test_save_busy : answer (run (.save 0 (requestBytes 0 0 0 [])) (loading (active live 0) (.saving .erase))) 0 =
    some (.busy, []) := by decide
theorem test_restart_counts : (run (.restart 0 (requestBytes 0 0 0 [])) (active live 0)).mgi.startCount = 1 := by decide
theorem test_unknown_kind : answer (run (.unknownKind 0 12 (requestBytes 0 0 0 [])) (active live 0)) 0 = some (.badRequest, []) := by
  decide

/-! ### Wake timers (06) -/

/-- R102: attempts remain under 2 retries, and the slot signals again. -/
theorem test_wake_response : (run (.wakeResponseExpiry 2) (timed (phased (linked live 2 .suspended true) 2 .await) (.t3 2))).link 2 =
    .resuming := by decide
theorem test_wake_pulse : ((run (.wakePulseExpiry 2) (timed (phased live 2 .linePulse) (.t4 2))).wake 2).phase = .lineAwait := by decide
theorem test_power_up_wait : ((run (.powerUpWaitExpiry 2) (timed (phased live 2 .lineAwait) (.t5 2))).wake 2).phase = .failed := by
  decide
/-- R111, KEEP: T6 starts again, by default 10240 ms. -/
theorem test_queue_hold : (run (.queueHoldExpiry 2) (timed (live.setPort 2
    { Port.reset with link := .suspended, queue := [Entry.release] }) (.t6 2))).timer (.t6 2) = .running 10240 0 := by decide

/-! ### Channels, heads and pictures (08, 09) -/

theorem test_frame_start : ((run (.frameStart 4 16667 []) live).channel 4).lock = .measuring := by decide
/-- R131: the check of the bytes 31h to 39h is the CRC's published check value CBF43926h. -/
theorem test_signature : signatureOf [⟨0x31, 0x32, 0x33⟩, ⟨0x34, 0x35, 0x36⟩, ⟨0x37, 0x38, 0x39⟩] = 0xCBF43926#32 := by decide
theorem test_loss : ((run (.lossTimerExpiry 4) (live.setChannel 4
    { Channel.reset with lock := .locked, width := 8, lossTimer := .running 200 200 })).channel 4).width = 0 := by decide
theorem test_stopped_head_has_no_blanking : run (.verticalBlanking .share) live = live := rfl
/-- R155: a tile of an OFF slot shows WAITING at P. -/
theorem test_blanking_samples : ((run (.verticalBlanking (.display 0)) (live.setCmp { live.cmp with
    heads := live.cmp.heads.put 0 ⟨true, defaultProfile, defaultProfile, none⟩ })).cmp.heads.get 0).sample.bind (·.cursor) =
    some .waiting := by decide

/-! ### RESET, the load and the save (12) -/

theorem test_reset : (run .resetAsserted (active live 0)).link 0 = .off := by decide
theorem test_released : (run .resetReleased State.reset).pl.loader = .loading := by decide
/-- R184: a load of an erased flash defaults all eight sections. -/
theorem test_load_defaults : (run (.loadEnd []) (loading live .loading)).pl.defaulted = 0xFF := by decide
theorem test_erase_end : (run .saveEraseEnd (loading live (.saving .erase))).pl.loader = .saving .program := by decide
theorem test_program_end : (run .saveProgramEnd
    ((loading live (.saving .program)).setPl { Pl.reset with loader := .saving .program, saveBuffer := [1, 2, 3, 4, 5] })).flash =
    [(4, 5)] := by decide
theorem test_verify_end : (run (.saveVerifyEnd [(9, 1)]) (loading live (.saving .verify))).pl.loader = .idle := by decide
theorem test_sign_end : (run (.saveSignEnd []) (loading live (.saving .sign))).flash = [(0, 0xE1), (1, 0x96), (2, 0x3C), (3, 0x5A)] := by
  decide
theorem test_busy_timeout : (run .flashBusyTimeout (loading live (.saving .sign))).pl.loader = .idle := by decide
/-- R187: a save that verification ends keeps no signature that an earlier save left. -/
theorem test_failed_save_is_unsigned :
    (Memory.failed [(0, 0xE1), (1, 0x96), (2, 0x3C), (3, 0x5A), (5000, 7)] [] .erase ⟨[], [], 0⟩) = [(5000, 7)] := by decide

/-- R187: a save that RESET abandons once the erase step has ended leaves no valid signature. -/
theorem test_abandoned_save_is_unsigned :
    Memory.abandoned [(9, 7)] [] .sign ⟨[], [(0, 0xE1), (1, 0x96), (2, 0x3C), (3, 0x5A)], 0⟩ = [(9, 7)] := by decide
/-- R187, step 2: a program step cut short leaves a beginning of the image, without its signature word. -/
theorem test_abandoned_program_leaves_a_beginning :
    Memory.abandoned [] [0xE1, 0x96, 0x3C, 0x5A, 5, 6, 7, 8] .program ⟨[], [], 6⟩ = [(4, 5), (5, 6)] := by decide
/-- R187, step 1: the header's sector is erased whole before another sector is touched. -/
theorem test_abandoned_erase_begins_with_the_header :
    Memory.abandoned [(0, 0xE1), (1, 0x96), (2, 0x3C), (3, 0x5A), (5000, 7)] [] .erase ⟨[0], [(5000, 0xFF)], 0⟩ = [] ∧
    Memory.abandoned [(0, 0xE1), (1, 0x96), (2, 0x3C), (3, 0x5A), (5000, 7)] [] .erase ⟨[], [(5000, 0xFF)], 0⟩ =
      [(0, 0xE1), (1, 0x96), (2, 0x3C), (3, 0x5A), (5000, 7)] := by decide

/-- The reset values of P's place are those R45 gives for it. -/
theorem test_reset_place : live.locate.gu.tile = live.gu.tile ∧ live.locate.gu.display = live.gu.display ∧
    live.locate.gu.pointerSlot = live.gu.pointerSlot := by decide

/-- 10, R162: an idle millisecond advances a running wait, and its expiry waits once it has reached its duration. -/
theorem test_tick : (restarted live .t2).tick.bank.t2 = .running 5 1 ∧ (restarted live .t2).tick.pending = [] ∧
    (live.setBank (live.bank.setTimer .t2 (.running 5 4))).tick.pending = [.blinkExpiry] := by decide


/-! ### A state and operands that meet each statement's hypotheses, clause by clause -/

/-- A header of a valid image whose eight map entries are empty (12, R182). -/
def bareHeader : List Byte := [0xE1, 0x96, 0x3C, 0x5A, 40, 0, 0, 0] ++ List.replicate 32 0

/-- A state in COMMAND state or another, the keyboard READY and nothing held. -/
def commanded (c : CommandState) : State := (keyboard (active live 0) []).setHkm c

/-- The hotkey table with one more entry, in place 12. -/
def hotkeyed (s : State) (e : Hotkey) : State :=
  s.setTables { s.tables with hotkeys := s.tables.hotkeys.put 12 e }

/-- A CHORD entry for LCTRL and key 6. -/
def chordEntry (a : Action) : Hotkey := ⟨true, .chord, 1, false, 6, a, .none, false⟩

/-- The chord's modifiers held, nothing else. -/
def chorded (a : Action) (pass : Bool) : State :=
  let s := hotkeyed (keyboard (active live 0) []) (chordEntry a)
  (s.setCiu { s.ciu with mods := 1 }).setFc { s.fc with passNext := pass }

/-- The same without the held-key entries or the sent images changed: what a focus record holds of key 6. -/
def holding (s : State) (d : Destination) : State := s.setFc { s.fc with held := [(6, d)] }

/-- Display 0's head runs. -/
def shown (s : State) : State :=
  s.setCmp { s.cmp with heads := s.cmp.heads.put 0 ⟨true, defaultProfile, defaultProfile, none⟩ }

/-- Slot 0 ACTIVE, its access entry as given. -/
def granted (s : State) (n : Slot) (f : AccessEntry → AccessEntry) : State :=
  s.setTables { s.tables with access := s.tables.access.put n (f (s.access n)) }

/-- Four responses wait at slot 0. -/
def crowded : State :=
  live.setPort 0 { Port.reset with link := .active, responses := List.replicate 4 ⟨.done, 1, 0, 0, []⟩ }

theorem witness_EmptyQueueLetsTimePass :
    State.reset.pending = [] ∧ State.reset.taking = false ∧ live.pending = [] ∧ live.taking = true := by decide

theorem witness_CommandsKeepTheQueue : exec .blinkExpiry State.reset = .next State.reset := rfl

theorem witness_NoEventIsTakenWhileResetOrLoading :
    State.reset.taking = false ∧ (loading live .loading).taking = false ∧ Instr.isStartUp .blinkExpiry = false := by decide

theorem witness_ResetHoldsPowerOnValues :
    State.reset.resetLine = true ∧ live.pl.loader = .idle ∧ live.flash.wf = true ∧
    live.flash.bytes 0 4 ≠ [0xE1, 0x96, 0x3C, 0x5A] ∧
    ∀ x ∈ [SaveStep.erase, .program, .verify, .sign], (loading live (.saving x)).pl.loader = .saving x := by decide

theorem witness_LoadEndWithoutAValidImage :
    (loading live .loading).resetLine = false ∧ (loading live .loading).pl.loader = .loading ∧
    ((loading live .loading).flash.change []).image = none ∧
    (live.setPl { Pl.reset with loader := .loading, flashBusy := true }).pl.flashBusy = true := by decide

theorem witness_LoadEndWithAValidImage :
    let s := (loading live .loading).setFlash (Memory.ofBytes 0 bareHeader)
    s.resetLine = false ∧ s.pl.loader = .loading ∧ s.pl.flashBusy = false ∧ (s.flash.change []).image = some bareHeader := by decide

/-- Sections that stand and sections that take their defaults: an image with TIMING alone, and its map. -/
def timingImage : List Byte :=
  [0xE1, 0x96, 0x3C, 0x5A, 54, 0, 0, 0] ++ List.replicate 28 0 ++ [40, 0, 14, 0] ++ List.replicate 14 1

theorem witness_LoadEndWithAValidImage_sections :
    (mapEntry timingImage 7).2 = 14 ∧
    (recordsOf 7 2 timingOf ((timingImage.drop (mapEntry timingImage 7).1).take 14)).isSome = true ∧
    (mapEntry timingImage 0).2 ≠ 24 := by decide

/-- The defaults read back as they are written. -/
theorem witness_LoadEndWithAValidImage_saved : RecordsReadBack live := by
  decide

theorem witness_SaveStepsEraseProgramAndTimeout :
    (∀ x ∈ [SaveStep.erase, .program, .verify, .sign], (loading live (.saving x)).pl.loader = .saving x) ∧ live.resetLine = false ∧
    (loading live .loading).pl.loader = .loading ∧ live.flash.wf = true ∧
    live.flash.bytes 0 4 ≠ [0xE1, 0x96, 0x3C, 0x5A] := by decide

theorem witness_SaveVerifiesAndSigns :
    (let s := loading live (.saving .verify)
     s.resetLine = false ∧ s.pl.loader = .saving .verify ∧ s.flash.wf = true ∧ s.pl.saveBuffer.length ≤ Config.imageArea ∧
      (∀ a, 4 ≤ a → (s.flash.change []).read a = s.pl.saveBuffer.getD a 0xFF) ∧
      (s.flash.change [(4, 0)]).read 4 ≠ s.pl.saveBuffer.getD 4 0xFF) ∧
    (let s := loading live (.saving .sign)
     let word : List Host.Cell := [(0, 0xE1), (1, 0x96), (2, 0x3C), (3, 0x5A)]
     s.resetLine = false ∧ s.pl.loader = .saving .sign ∧ s.flash.wf = true ∧ (∀ c ∈ [((4 : Nat), (0 : Byte))], 4 ≤ c.1) ∧
      ((s.flash.change word).change []).read 3 = 0x5A ∧ ((s.flash.change word).change [(3, 0)]).read 3 ≠ 0x5A) :=
  ⟨⟨rfl, rfl, rfl, by decide, fun _ _ => rfl, by decide⟩, by decide⟩

theorem witness_ConsolePortsConfigure :
    live.taking = true ∧ live.ciu.keyboardPort = .detached ∧ live.ciu.pointerPort = .detached ∧
    configuring.ciu.keyboardPort = .configuring ∧ configuring.ciu.pointerPort = .configuring ∧
    (∃ i ∈ aKeyboard.interfaces, i.kind = .keyboard ∧ i.layout = .consoleKeyboard) ∧ (∀ a ∈ aKeyboard.answers, a = .accepted) ∧
    (∃ i ∈ aPointer.interfaces, i.kind = .pointer ∧ i.layout = .consolePointer) ∧ (∀ a ∈ aPointer.answers, a = .accepted) ∧
    ¬(∃ i ∈ aKeyboard.interfaces, i.kind = .pointer ∧ i.layout = .consolePointer) ∧
    ¬(∀ a ∈ aSilentKeyboard.answers, a = .accepted) := by decide

theorem witness_ConsolePortsDetach :
    (keyboard live [6]).taking = true ∧ (keyboard live [6]).ciu.keyboardPort = .ready ∧ (pointer live).ciu.pointerPort = .ready ∧
    (live.setCiu { live.ciu with keyboardPort := .refused, pointerPort := .configuring }).ciu.keyboardPort = .refused := by decide

theorem witness_KeyboardReportReplacesTheImage :
    live.ciu.keyboardPort ≠ .ready ∧ (keyboard live []).ciu.keyboardPort = .ready ∧ ([0, 0, 3, 0, 0, 0, 0] : List Byte).length < 8 ∧
    (∃ k ∈ (([0, 0, 0, 0, 0, 0, 0, 3] : List Byte).drop 2).take 6, k = 1 ∨ k = 2 ∨ k = 3) ∧
    ∀ k ∈ ([0, 4, 223, 224, 255, 4] : List Byte), k ≠ 1 ∧ k ≠ 2 ∧ k ≠ 3 := by decide

theorem witness_KeyPressIsRouted :
    (∀ k ∈ ([4, 223] : List Byte), KeysHeld (commanded .normal) [] ∧ UsableKey k ∧ (commanded .normal).hkm = .normal ∧
      k ≠ (commanded .normal).tables.leadKey ∧ (commanded .normal).chordFor k = none ∧
      (commanded .normal).candidate k = some 0 ∧ ((commanded .normal).access 0).inputAllowed = true ∧
      (commanded .normal).link 0 = .active ∧ (commanded .normal).isBlocked 0 k = false) ∧
    ((commanded .normal).setFc (Fc.reset 0 .follow)).candidate 4 = some 0 ∧ (keyboard live []).link 0 = .off ∧
    (State.setFc (keyboard live []) { (Fc.reset 0 .follow) with focus := none }).candidate 4 = none ∧
    (State.setTables (commanded .normal) { (commanded .normal).tables with
      slots := Table.all 8 { defaultSlotRecord with blocked := [⟨0, 4⟩] } }).isBlocked 0 4 = true ∧
    ((granted (commanded .normal) 0 fun e => { e with inputAllowed := false }).access 0).inputAllowed = false := by decide

theorem witness_KeyReleaseFollowsItsPress :
    KeysHeld (keyboard (active live 0) [6]) [6] ∧ heldKey 6 (keyboard live [6]).fc.held = none ∧
    heldKey 6 (holding (keyboard live [6]) .consumed).fc.held = some .consumed ∧
    heldKey 6 (holding (keyboard (active live 0) [6]) (.slot 0)).fc.held = some (.slot 0) ∧
    (holding (keyboard (active live 0) [6]) (.slot 0)).link 0 = .active ∧
    (holding (keyboard live [6]) (.slot 0)).link 0 = .off := by decide

theorem witness_ModifierChangeReachesTheFocus :
    let s := keyboard (active live 0) []
    KeysHeld s [] ∧ (1 : Modifiers) ≠ s.ciu.mods ∧ s.fc.focus = some 0 ∧ s.canReceive 0 = true ∧ s.link 0 = .active ∧
    (1 : Modifiers) &&& ~~~(s.fc.suppressed &&& ~~~(s.ciu.mods &&& ~~~1)) ≠ (s.sent 0).mods ∧
    (keyboard live []).canReceive 0 = false ∧ ((keyboard live []).sent 0).mods = 0 ∧
    (s.setFc { s.fc with focus := none }).fc.focus = none ∧
    (let r := s.setFc { s.fc with suppressed := 1 }
     (1 : Modifiers) &&& ~~~(r.fc.suppressed &&& ~~~(r.ciu.mods &&& ~~~1)) = (r.sent 0).mods) := by decide

theorem witness_LeadPressEntersLeadOne :
    KeysHeld (commanded .normal) [] ∧ UsableKey (commanded .normal).tables.leadKey ∧ (commanded .normal).hkm = .normal ∧
    (commanded .normal).fc.passNext = false ∧ KeysHeld (keyboard live [71]) [(keyboard live [71]).tables.leadKey] := by decide

theorem witness_CommandModeTakesPresses :
    KeysHeld (commanded .leadOne) [] ∧ UsableKey 71 ∧ (commanded .leadOne).hkm = .leadOne ∧
    (71 : Byte) = (commanded .leadOne).tables.leadKey ∧ (commanded .leadOne).fc.passNext = false ∧
    (4 : Byte) ≠ (commanded .leadOne).tables.leadKey ∧
    KeysHeld (commanded .command) [] ∧ UsableKey 41 ∧ (commanded .command).commandFor 223 = none ∧ UsableKey 223 ∧
    (commanded .command).commandFor 4 = some (commandEntry 4 .attend .none) ∧ (4 : Byte) ≠ 41 ∧ UsableKey 4 := by decide

theorem witness_ChordsMatchByFoldedModifiers :
    (hotkeyed live (chordEntry .follow)).chordFor 6 = none ∧ (chorded .follow false).chordFor 6 = some (chordEntry .follow) := by decide

theorem witness_ChordPressRunsItsAction :
    (∀ a ∈ [Action.glideLock, .follow, .passNext], ∀ p ∈ [true, false],
      KeysHeld (chorded a p) [] ∧ (chorded a p).hkm = .normal ∧ (chorded a p).chordFor 6 = some (chordEntry a) ∧
      (chorded a p).fc.passNext = p) ∧
    UsableKey 6 ∧ (6 : Byte) ≠ (chorded .follow false).tables.leadKey := by decide

/-- The focus at `f` in the follow mode `m`. -/
def focused (s : State) (f : Option Slot) (m : FollowMode) : State := s.setFc { s.fc with focus := f, follow := m }

theorem witness_ChordPressRunsItsAction_actions :
    let s := active (active live 0) 6
    let can (n : Slot) : Bool := s.canReceive n
    let alerted := s.setAtu ⟨[⟨6, 3⟩], []⟩
    let stacked (f : Option Slot) (x : Int) := (s.setAtu ⟨[⟨6, 1⟩], [⟨5, 1, f, x, 540⟩]⟩)
    OpenTo s 0 ∧ (s.access 0).manageActions = true ∧ s.fc.focus = some 0 ∧ s.fc.follow = .follow ∧
    (focused s (some 7) .separate).fc.follow = .separate ∧ can 6 = true ∧ can 0 = true ∧
    (∀ j : Slot, j ≠ 0 → j < 6 → can (0 + j) = false) ∧ (∀ j : Slot, j ≠ 0 → j < 2 → can (0 - j) = false) ∧
    can (0 - 2) = true ∧
    (focused s none .follow).fc.focus = none ∧ (∀ m : Slot, m < 0 → can m = false) ∧
    (∀ m : Slot, 6 < m → can m = false) ∧
    (∀ n : Slot, (active live 0).fc.focus ≠ some n → (active live 0).canReceive n = false) ∧
    alerted.atu.stack.head? = none ∧ alerted.atu.alerts = [] ++ ⟨6, 3⟩ :: [] ∧
    ((stacked none 0).atu.stack.head?.map fun e => e.level) = some 1 ∧ ¬(1 : Fin 4) < 1 ∧ s.atu.stack = [] ∧
    (s.cmp.active.displayAt (-2880) 540) = some 0 ∧ s.cmp.active.displayAt 4000 540 = none ∧ s.tileSlot 0 = some 0 ∧
    s.cmp.active.placed 0 = some ⟨-3840, 0, 1920, 1080⟩ ∧ (∀ i, s.tileSlot i = some 6 → s.cmp.active.placed i = none) := by decide

theorem witness_FocusRequestChangesTheFocus :
    let s := active (active live 0) 7
    let r := s.setFc { s.fc with follow := .separate }
    OpenTo r 0 ∧ (r.access 0).manageActions = true ∧ r.fc.follow = .separate ∧ r.fc.focus = some 0 ∧ (0 : Slot) ≠ 7 ∧
    r.link 0 = .active ∧ r.link 7 = .active ∧ (r.port 0).queue.length < 16 ∧ s.fc.follow = .follow ∧ s.fc.focus ≠ some 7 ∧
    (focused s none .follow).fc.focus = none ∧ s.tileSlot 1 = some 1 ∧
    s.cmp.active.placed 1 = some ⟨-1920, 0, 1920, 1080⟩ ∧
    (∀ j : TileIx, j < 1 → s.tileSlot j = some 1 → s.cmp.active.placed j = none) ∧
    (∀ i, s.tileSlot i = some 7 → s.cmp.active.placed i = none) ∧ s.gu.pointerSlot = some 0 ∧ s.link 1 = .off ∧
    takeEntry 0 [] (.abs 0 1 1 0) = some [.abs 0 1 1 0] := by decide

theorem witness_PointerMotionMovesP :
    let s := pointer (active live 0)
    s.taking = true ∧ s.ciu.pointerPort = .ready ∧ s.cmp.active.firstRect = some ⟨-3840, 0, 1920, 1080⟩ ∧
    (∀ n, s.delivered n = 0) ∧ s.gu.glideLock = false ∧ (s.cmp.active.displayAt s.gu.px s.gu.py).isSome = true ∧
    s.cmp.active.displayAt s.gu.px 1080 = none ∧ s.gu.display = some 0 ∧
    (s.cmp.active.displays.get 0).rect = some ⟨-3840, 0, 1920, 1080⟩ ∧
    (s.setGu { s.gu with glideLock := true }).gu.glideLock = true ∧ s.gu.tile = some 0 ∧
    s.cmp.active.placed 0 = some ⟨-3840, 0, 1920, 1080⟩ ∧
    (let d := s.setDelivered 0 1
     d.gu.pointerSlot = some 0 ∧ d.delivered 0 &&& ~~~(d.ciu.buttons &&& ~~~(1 : Byte).setWidth 5) ≠ 0 ∧
      d.cmp.active.tileAt (-1920) 540 = some 1 ∧ d.gu.tile ≠ some 1 ∧ d.tileSlot 1 ≠ some 0 ∧
      d.cmp.active.tileAt (-2880) 540 = d.gu.tile) ∧
    -- glide lock on a place of D0 without a tile
    (let g := s.setGu { s.gu with glideLock := true, tile := none, display := some 0 }
     g.taking = true ∧ g.ciu.pointerPort = .ready ∧ g.gu.glideLock = true ∧ g.gu.tile = none ∧ g.gu.display = some 0) := by decide

theorem witness_PointerMotionIsDelivered :
    let s := pointer (active (active live 0) 1)
    let t := run (.pointerReport [1, 16, 0, 0]) s
    exec (.pointerReport [1, 16, 0, 0]) s = .next t ∧ s.taking = true ∧ s.ciu.pointerPort = .ready ∧
    s.cmp.active.firstRect.isSome = true ∧ (∀ n, (s.port n).queue.length < 15) ∧
    -- within slot 0's tile
    (s.cmp.active.tileAt t.gu.px t.gu.py = some 0 ∧ s.cmp.active.placed 0 = some ⟨-3840, 0, 1920, 1080⟩ ∧ s.tileSlot 0 = some 0 ∧
      s.gu.pointerSlot = some 0 ∧ s.link 0 = .active ∧ (s.access 0).inputAllowed = true ∧ s.tileMode 0 = .absolute) ∧
    -- a crossing into slot 1's tile
    (let c := s.moveTo (-1921) 540
     let u := run (.pointerReport [1, 16, 0, 0]) c
     u.gu.px = -1905 ∧ c.cmp.active.tileAt u.gu.px u.gu.py = some 1 ∧ c.tileSlot 1 = some 1 ∧ c.gu.pointerSlot = some 0 ∧
      c.link 1 = .active ∧ (c.access 1).inputAllowed = true ∧ c.tileMode 1 ≠ .none ∧ c.fc.follow = .follow ∧
      c.cmp.active.placed 1 = some ⟨-1920, 0, 1920, 1080⟩) ∧
    -- a press in the tile of an OFF slot
    (let o := pointer live
     let u := run (.pointerReport [1, 0, 0, 0]) o
     (o.cmp.active.tileAt u.gu.px u.gu.py).bind o.tileSlot = o.gu.pointerSlot ∧ o.link 0 = .off ∧
      (5 : BitVec 5) &&& ~~~o.ciu.buttons ≠ 0) ∧
    -- a press in the tile of a SUSPENDED slot whose record asks for a wake on input, and a crossing into it
    (let o := (linked s 0 .suspended true).setTables
       { s.tables with slots := Table.all 8 { defaultSlotRecord with wakeOnInput := true, wakeOnFocus := false } }
     let c := o.moveTo (-1919) 540
     o.link 0 ≠ .off ∧ o.link 0 ≠ .active ∧ (o.slotRecord 0).wakeOnInput = true ∧ (o.slotRecord 0).wakeOnFocus = false ∧
      (5 : BitVec 5) &&& ~~~o.delivered 0 ≠ 0 ∧ c.gu.pointerSlot = some 1 ∧
      (run (.pointerReport [1, 0xC0, 0, 0]) c).gu.pointerSlot = some 0) ∧
    -- a RELATIVE tile, with and without a delta
    (storing.gu.tile = some 0 ∧ storing.tileMode 0 = .relative ∧ storing.gu.pointerSlot = some 0 ∧ storing.link 0 = .active ∧
      (storing.access 0).inputAllowed = true ∧ storing.ciu.buttons = 0 ∧ storing.gu.accX.get 0 = 100) := by
  refine ⟨rfl, ?_⟩
  decide

theorem witness_PointerReportsWithoutEffectOnP :
    let none4 : Layout := ⟨Table.all 4 ⟨none, 0, 0⟩, defaultTiles⟩
    let s := (pointer live).setCmp { live.cmp with active := activeOf (Table.all 8 defaultProfile) none4 }
    live.taking = true ∧ live.ciu.pointerPort ≠ .ready ∧ ([1, 2] : List Byte).length < 3 ∧ s.ciu.pointerPort = .ready ∧
    s.cmp.active.firstRect = none ∧
    -- an arrival without deltas or button change over a full accumulator
    (storing.taking = true ∧ storing.ciu.pointerPort = .ready ∧ (0xE0 : Byte).setWidth 5 = storing.ciu.buttons ∧
      storing.gu.display = some 0 ∧ storing.cmp.active.displayAt storing.gu.px storing.gu.py = some 0 ∧
      storing.gu.tile = storing.cmp.active.tileAt storing.gu.px storing.gu.py ∧
      storing.gu.pointerSlot = storing.slotOfTile storing.gu.tile ∧ storing.gu.px = -2880 ∧ storing.gu.py = 540 ∧
      storing.gu.rx = 0 ∧ storing.gu.ry = 0) ∧
    ((storing.setGu { storing.gu with accX := Table.all 8 15 }).gu.accX.get 0).natAbs < 16 ∧
    (storing.gu.accY.get 0).natAbs < 16 := by decide

theorem witness_LedTransfersEnd :
    live.taking = true ∧ live.ciu.transfer = none ∧
    (live.setCiu { live.ciu with transfer := some 31, composed := 31 }).ciu.transfer = some 31 ∧ live.ciu.resend = false ∧
    (live.setCiu { live.ciu with transfer := some 31, resend := true }).ciu.resend = true := by decide

theorem witness_SingleTimersExpire :
    live.taking = true ∧ (timed live .t0).bank.t0.due = true ∧ live.bank.t0.due = false ∧ (restarted live .t0).bank.t0.due = false ∧
    (timed (live.setHkm .leadOne) .t0).hkm = .leadOne ∧ (timed (live.setHkm .command) .t1).bank.t1.due = true ∧
    (live.setHkm .command).hkm = .command ∧ (timed live .t2).bank.t2.due = true ∧ (restarted live .t2).bank.t2.due = false := by
  decide

theorem witness_BusPowerAndIdle :
    live.taking = true ∧ live.link 7 = .off ∧ (active live 7).link 7 = .active ∧ (active live 7).link 7 ≠ .off ∧
    live.link 7 ≠ .active := by decide

/-- Slot `n` ACTIVE, with slot 7 attended over slot 5. -/
def attended (n : Slot) : State := (active live n).setAtu ⟨[], [⟨7, 3, some 2, 100, 100⟩, ⟨5, 1, none, 9000, 0⟩]⟩

theorem witness_BusPowerLostResetsTheSlot :
    (active live 7).taking = true ∧ (active live 7).link 7 ≠ .off ∧ AttentionLaw (active live 7) ∧ live.link 7 = .off ∧
    (attended 7).taking = true ∧ (attended 7).link 7 ≠ .off ∧ AttentionLaw (attended 7) ∧
    (attended 7).atu.stack = ⟨7, 3, some 2, 100, 100⟩ :: [⟨5, 1, none, 9000, 0⟩] ∧ some (2 : Slot) ≠ some 7 ∧
    (attended 5).atu.stack = [] ++ ⟨7, 3, some 2, 100, 100⟩ :: ⟨5, 1, none, 9000, 0⟩ :: [] ∧ (attended 5).link 5 ≠ .off := by decide

theorem witness_BusResetResetsTheSlot :
    (active live 7).taking = true ∧ (active live 7).link 7 ≠ .off ∧ (active live 7).atu.stack = [] ∧ AttentionLaw (active live 7) ∧
    (active live 7).link 7 = .active ∧ live.link 7 = .off ∧
    AttentionLaw (attended 7) ∧ (attended 7).taking = true ∧ (attended 7).link 7 ≠ .off ∧
    (attended 7).atu.stack = ⟨7, 3, some 2, 100, 100⟩ :: [⟨5, 1, none, 9000, 0⟩] ∧ some (2 : Slot) ≠ some 7 := by decide

theorem witness_LinksBecomeActive :
    live.taking = true ∧ (linked live 7 .attached false).link 7 = .attached ∧ (linked live 7 .suspended true).link 7 = .suspended ∧
    (linked live 7 .resuming true).link 7 = .resuming ∧ live.link 7 ≠ .attached := by decide

theorem witness_ComputerSetsFlagsAndLeds :
    live.taking = true ∧ (linked live 7 .attached false).link 7 = .attached ∧ (active live 0).link 0 = .active ∧
    (active live 0).fc.focus = some 0 ∧ (active live 7).fc.focus ≠ some 7 ∧ ((active live 0).setHkm .command).hkm = .command ∧
    (active live 0).hkm ≠ .command ∧ live.link 7 ≠ .active ∧
    -- composing: a transfer due, one outstanding, and a change back to the LED state sent under a retry hold
    (let c : Ciu := { live.ciu with keyboardPort := .ready, composed := 2, ledSent := some 2 }
     c.transfer = none ∧ c.ledSent ≠ some 3 ∧ c.composed ≠ 3 ∧ ({ c with transfer := some 2 } : Ciu).transfer ≠ none ∧
      ({ c with composed := 3, retryHold := true } : Ciu).composed ≠ 2 ∧
      ({ c with composed := 3, retryHold := true } : Ciu).ledSent = some 2) := by decide

theorem witness_PollsDeliverTheOldest :
    let s := live.setPort 7 { Port.reset with
      link := .active, queue := [Entry.release], responses := [⟨.done, 1, 0, 0, []⟩] }
    let r := live.setPort 7 { Port.reset with
      link := .active, hand := some Entry.release, responseHand := some ⟨.done, 1, 0, 0, []⟩ }
    s.taking = true ∧ s.link 7 = .active ∧ (s.port 7).hand = none ∧ (s.port 7).queue = Entry.release :: [] ∧
    (s.port 7).responseHand = none ∧ (s.port 7).responses = ⟨.done, 1, 0, 0, []⟩ :: [] ∧
    (r.port 7).hand = some Entry.release ∧ (r.port 7).queue = [] ∧ (r.port 7).responses = [] ∧ live.link 7 ≠ .active := by decide

theorem witness_QueuesTakeEntries :
    Entry.merge? (.abs 1 0 0 (-126)) (.abs 1 5 5 (-1)) = some (.abs 1 5 5 (-127)) ∧
    Entry.merge? (.rel 1 127 0 0) (.rel 1 1 0 0) = none ∧ (List.replicate 14 Entry.release).length < 15 ∧
    15 ≤ (List.replicate 15 Entry.release).length ∧
    pureMotion 0 (List.replicate 15 (.rel 0 127 0 0) ++ [.rel 0 127 0 0]) (.rel 0 1 0 0) = true ∧
    pureMotion 0 (List.replicate 15 (.rel 0 127 0 0) ++ [.rel 0 127 0 0]) (.rel 1 1 0 0) = false ∧
    evictOldest 0 (List.replicate 15 (.rel 0 127 0 0) ++ [.rel 0 127 0 0]) = some (List.replicate 15 (.rel 0 127 0 0)) ∧
    evictOldest 0 (List.replicate 16 (.keyboard KeyImage.empty)) = none ∧ pureMotion 0 [] Entry.release = true ∧
    evictOldest 0 [] = none ∧ takeEntry 0 [] Entry.release = some [Entry.release] ∧ live.link 7 = .off ∧
    (active live 7).link 7 ≠ .off ∧ takeEntry 0 ((active live 7).port 7).queue Entry.release = some [Entry.release] ∧
    takeEntry 0 (List.replicate 16 (.keyboard KeyImage.empty)) (.rel 1 0 0 0) = none := by decide

theorem witness_WakeRequestTriggersTheSlot :
    OpenTo (active live 0) 0 ∧ ((active live 0).access 0).manageActions = true ∧ (active live 0).link 0 = .active ∧
    (phased (active live 0) 7 .lineAwait).link 7 ≠ .active ∧
    ((phased (active live 0) 7 .lineAwait).wake 7).phase.inSequence = true ∧
    (linked (active live 0) 7 .attached false).link 7 = .attached ∧ ((active live 0).wake 7).phase = .idle ∧
    (linked (active live 0) 7 .suspended true).link 7 = .suspended ∧
    ((linked (active live 0) 7 .suspended true).port 7).remoteWake = true ∧ (active live 0).link 7 = .off ∧
    (active live 0).link 7 ≠ .resuming ∧ ((active live 1).access 1).manageActions = false ∧ 7 < (8 : Byte).toNat ∧
    (8 : Byte) ≠ 0xFF ∧ (0xFE : Byte) ≠ 0xFF := by decide

theorem witness_WakePhasesBegin :
    (linked live 7 .suspended true).link 7 = .suspended ∧ ((linked live 7 .suspended true).port 7).remoteWake = true ∧
    (live.slotRecord 7).policy = .keep ∧ (active live 7).link 7 = .active ∧ live.link 7 ≠ .active ∧ live.link 7 ≠ .suspended ∧
    ((live.setTables { live.tables with slots := Table.all 8 { defaultSlotRecord with policy := .discard } }).slotRecord 7).policy =
      .discard := by decide

theorem witness_WakeTimersExpire :
    let s := phased (live.setPort 7 { Port.reset with link := .resuming, signalling := .running 10 10 }) 7 .signal
    s.taking = true ∧ (s.port 7).signalling.due = true ∧ (s.wake 7).phase = .signal ∧
    (live.port 7).signalling.due = false ∧ ((timed (phased live 7 .await) (.t3 7)).timer (.t3 7)).due = true ∧
    ((timed (phased live 7 .await) (.t3 7)).wake 7).phase = .await ∧
    ((timed (phased live 7 .linePulse) (.t4 7)).timer (.t4 7)).due = true ∧ ((phased live 7 .linePulse).wake 7).phase = .linePulse ∧
    ((timed (phased live 7 .lineAwait) (.t5 7)).timer (.t5 7)).due = true ∧
    ((phased live 7 .lineAwait).wake 7).phase = .lineAwait ∧ ((restarted live (.t3 7)).timer (.t3 7)).due = false ∧
    (live.timer (.t4 7)).due = false ∧ (live.timer (.t5 7)).due = false := by decide

theorem witness_QueueHoldExpires :
    let s := timed (live.setPort 7 { Port.reset with link := .suspended, queue := [Entry.release] }) (.t6 7)
    s.taking = true ∧ (s.timer (.t6 7)).due = true ∧ s.link 7 ≠ .active ∧ (s.port 7).queue ≠ [] ∧
    (s.slotRecord 7).policy = .keep ∧ ((restarted s (.t6 7)).timer (.t6 7)).due = false ∧
    ((s.setTables { s.tables with slots := Table.all 8 { defaultSlotRecord with policy := .discard } }).slotRecord 7).policy =
      .discard := by decide

theorem witness_ChannelsMeasureLockAndLose :
    let line : List Rgb := [⟨1, 2, 3⟩]
    live.taking = true ∧ (live.channel 15).lock = .noSignal ∧ frameSize [line] = some (1, 1) ∧ frameSize [[]] = none ∧
    (let s := live.setChannel 15 ⟨.measuring, 1, 1, 0, 0, 0, false, .running 200 0, []⟩
     (s.channel 15).lock = .measuring ∧ (s.channel 15).width = 1 ∧ (s.channel 15).height = 1 ∧
      (s.channel 15).lossTimer.due = false) ∧
    (let s := live.setChannel 15 ⟨.locked, 1, 1, 0, 0, 4095, false, .running 200 0, []⟩
     (s.channel 15).lock = .locked ∧ (s.channel 15).width = 1 ∧ (s.channel 15).height = 1) ∧
    ((live.setChannel 15 ⟨.locked, 1, 1, 0, 0, 0, false, .running 200 200, []⟩).channel 15).lossTimer.due = true := by decide

theorem witness_HeadsSampleAtTheirBlanking :
    live.taking = true ∧ (live.cmp.heads.get 3).running = false ∧ live.cmp.ds.running = false ∧
    ((shown live).cmp.heads.get 0).running = true ∧ (shown live).cmp.armed.get 0 = none ∧
    (live.setCmp { live.cmp with ds := ⟨true, defaultProfile, defaultProfile, none⟩ }).cmp.ds.running = true := by decide

/-- A sample of the defaults: slot 0 ACTIVE, another SUSPENDED, D0 shown; then the same with every tile disabled. -/
theorem witness_HeadsSampleAtTheirBlanking_pictures :
    let p := (active live 0).sample (some 0)
    let t := p.layout.tiles.get 0
    (t.enabled = true ∧ t.display = 0 ∧ t.x ≤ 0 ∧ 0 < t.x + t.w ∧ t.y ≤ 0 ∧ 0 < t.y + t.h) ∧
    ((active live 0).cmp.active.displays.get 0).rect = some ⟨-3840, 0, 1920, 1080⟩ ∧
    Rect.holds ⟨-3840, 0, 1920, 1080⟩ (active live 0).gu.px (active live 0).gu.py = true ∧
    (active live 0).cmp.active.tileAt (active live 0).gu.px (active live 0).gu.py = some 0 ∧ (active live 0).tileSlot 0 = some 0 ∧
    (p.sources.get t.source).bound = some 0 ∧ (p.sources.get t.source).locked = false ∧ p.selection = some 0 ∧
    (live.sample (some 0)).cursor = some .waiting ∧ (live.sample none).cursor = none ∧ (live.sample none).selection = none ∧
    (p.layout.displays.get 0).record.profile ≠ none ∧
    ((live.setAtu ⟨[⟨3, 1⟩], [⟨2, 0, none, 0, 0⟩]⟩).sample none).slots.toList.map (·.mark) =
      [.none, .none, .attended, .showing, .none, .none, .none, .none] := by decide

theorem witness_ArmedLayoutsApplyAtTheirBlanking :
    let a : ArmedLayout := ⟨⟨⟨some 0, -3840, 0⟩, defaultProfile⟩, Table.all 16 none⟩
    let s := (shown live).setCmp { (shown live).cmp with armed := (Table.all 4 none).put 0 (some a) }
    s.taking = true ∧ (s.cmp.heads.get 0).running = true ∧ s.cmp.armed.get 0 = some a ∧ s.cmp.group [0] = [0] ∧
    s.cmp.active.displayAt s.gu.px s.gu.py = some 0 ∧
    -- D2 and D3 trade places: they form one group
    (let moved (x : Int) : Option ArmedLayout := some ⟨⟨⟨some 0, x, 0⟩, defaultProfile⟩, Table.all 16 none⟩
     let swap : Cmp := { live.cmp with armed := ((Table.all 4 none).put 2 (moved 1920)).put 3 (moved 0) }
     swap.group [3] = [2, 3]) ∧
    -- P on no display
    (live.moveTo 4000 2000).cmp.active.displayAt 4000 2000 = none ∧
    (live.cmp.active.displays.get 0).rect = some ⟨-3840, 0, 1920, 1080⟩ := by decide

theorem witness_RequestsNotTakenOrRefused :
    Instr.sender (.save 0 []) = some 0 ∧ live.link 0 ≠ .active ∧ 4 ≤ (crowded.port 0).responses.length ∧
    ([0, 0, 0, 0] : List Byte).length < 5 ∧ OpenTo (active live 0) 0 ∧ ([] : List Byte).length < (1 : Byte).toNat := by decide

theorem witness_ReadAnswersTheRecord :
    OpenTo (active live 7) 7 ∧ 1 < (2 : Byte).toNat ∧ 7 < (8 : Byte).toNat ∧ recordAt 7 (7 : Half).toNat = none ∧
    recordAt 7 (6 : Half).toNat = some (.timing 6) ∧ recordAt 0 (7 : Half).toNat = some (.access 7) ∧
    ((active live 0).access 0).readRights.getLsbD 7 = true ∧ ((active live 7).access 7).readRights.getLsbD 7 = false := by decide

theorem witness_TimingEntriesHoldUnitAndCount :
    OpenTo (active live 0) 0 ∧ ((active live 0).access 0).writeRights.getLsbD 7 = true ∧
    ((active live 0).access 0).readRights.getLsbD 7 = true ∧
    exec (.busReset 0) State.reset = .next State.reset := ⟨by decide, by decide, by decide, rfl⟩

theorem witness_WriteChecksAndStores :
    OpenTo (active live 0) 0 ∧ (List.replicate 58 (0 : Byte)).length ≤ 58 ∧ recordAt 3 (39 : Half).toNat = some (.profile 7) ∧
    Record.size (.profile 7) = 5 ∧ ((active live 0).access 0).writeRights.getLsbD 3 = true ∧
    ((active live 1).access 1).writeRights.getLsbD 3 = false ∧ recordAt 5 (31 : Half).toNat = some (.hotkey 31) ∧
    hotkeyOf [1, 2, 4, 1, 0] = some ⟨true, .chord, 2, false, 4, .next, .none, false⟩ ∧ hotkeyOf [1, 2, 3, 1, 0] = none ∧
    hotkeyOf [1, 2, 71, 1, 0] = some ⟨true, .chord, 2, false, 71, .next, .none, false⟩ ∧
    hotkeyOf [3, 0, 4, 1, 0] = some ⟨true, .command, 0, false, 4, .next, .none, false⟩ ∧
    anyCollision (live.tables.hotkeys.put 31 ⟨true, .command, 0, false, 4, .next, .none, false⟩).toList = true ∧
    anyCollision (live.tables.hotkeys.put 31 ⟨true, .chord, 2, false, 4, .next, .none, false⟩).toList = false ∧
    recordAt 6 (10 : Half).toNat = some (.color 10) := by decide

theorem witness_WriteChecksAndStores_records :
    (∀ c ∈ ([1, 2, 3, 4, 5, 6] : List Byte), ((active live 0).access 0).writeRights.getLsbD c.toNat = true) ∧
    recordAt 1 7 = some (.slot 7) ∧ slotRecordOf (List.replicate 13 0) ≠ none ∧ slotRecordOf (4 :: List.replicate 12 0) = none ∧
    ((active live 0).setAtu ⟨[⟨7, 0⟩], []⟩).atu.isPending 7 = true ∧ (active live 0).atu.isPending 7 = false ∧
    recordAt 2 15 = some (.source 15) ∧ sourceRecordOf [0, 0, 0, 1, 0, 0, 0, 1, 0, 0, 0] ≠ none ∧
    sourceRecordOf (List.replicate 11 0) = none ∧ live.gu.tile = some 0 ∧ (live.cmp.active.tiles.get 0).source = 0 ∧
    recordAt 3 3 = some (.display 3) ∧ recordAt 3 31 = some (.tile 15) ∧ displayRecordOf [0xFF, 0, 0, 0, 0] ≠ none ∧
    displayRecordOf [8, 0, 0, 0, 0] = none ∧ tileRecordOf [1, 3, 0, 0, 0, 0, 16, 0, 16, 0, 15, 2, 1, 8] ≠ none ∧
    tileRecordOf (List.replicate 14 0) = none ∧ recordAt 3 40 = some .shareHead ∧ shareRecordOf [7] = some (some 7) ∧
    shareRecordOf [0xFF] = some none ∧ shareRecordOf [8] = none ∧ live.cmp.ds.running = false ∧
    recordAt 4 195 = some (.presetDisplay 3 3) ∧ recordAt 4 223 = some (.presetTile 3 15) ∧ recordAt 5 35 = some (.window 3) ∧
    windowOf [0, 0, 7] ≠ none ∧ windowOf [0, 0, 8] = none ∧ recordAt 5 36 = some .general ∧
    generalOf [71, 1, 16, 7] ≠ none ∧ generalOf [3, 1, 16, 7] = none ∧
    (∃ e ∈ live.tables.hotkeys.toList, e.key = 4) ∧ (∀ e ∈ live.tables.hotkeys.toList, e.key ≠ 223) ∧
    recordAt 6 47 = some (.spriteRows 31) ∧ recordAt 6 51 = some (.hotSpot 3) ∧ recordAt 6 52 = some .shareCursor := by decide

theorem witness_AccessWritesKeepAWriter :
    let s := active live 0
    OpenTo s 0 ∧ (s.access 0).writeRights.getLsbD 0 = true ∧
    (∀ i : Slot, (if i = 0 then (0 : Byte) else (s.access i).writeRights).getLsbD 0 = false) ∧
    (∃ i : Slot, (if i = 7 then (0 : Byte) else (s.access i).writeRights).getLsbD 0 = true) ∧ (31 : Byte).getLsbD 1 = true ∧
    ((granted s 7 fun e => { e with inputAllowed := false }).access 7).inputAllowed = false ∧
    (s.access 7).inputAllowed = true ∧ (29 : Byte).getLsbD 1 = false := by decide

theorem witness_CommitArmsTheMaskedDisplays :
    let s := active live 0
    let l := clipLayout s.tables.profiles (fun _ => true) s.cmp.layout
    OpenTo s 0 ∧ (s.access 0).manageActions = true ∧ ((active live 1).access 1).manageActions = false ∧
    (s.cmp.future s.tables.profiles (fun _ => true) l).conflicts = false ∧
    (∀ d : DisplayIx, (0x0F : Byte).getLsbD d.val = true) ∧ (∀ d : DisplayIx, (0xF0 : Byte).getLsbD d.val = false) ∧
    (∀ d, (s.cmp.active.displays.get d).record.profile.isSome = true ∧ (s.cmp.layout.displays.get d).profile.isSome = true) ∧
    (let stacked : Layout := ⟨Table.all 4 ⟨some 0, 0, 0⟩, defaultTiles⟩
     (s.cmp.future s.tables.profiles (fun _ => true) (clipLayout s.tables.profiles (fun _ => true) stacked)).conflicts = true) ∧
    -- D0 goes to NONE: committed alone, and with D1, which is left waiting
    (let s1 := s.setCmp { s.cmp with layout := ⟨s.cmp.layout.displays.put 0 ⟨none, 0, 0⟩, s.cmp.layout.tiles⟩ }
     OpenTo s1 0 ∧ (s1.access 0).manageActions = true ∧ (s1.cmp.layout.displays.get 0).profile = none ∧
      (∀ b ∈ [(1 : Byte), 3], b.getLsbD 0 = true ∧
        (let mask : DisplayIx → Bool := fun d => b.getLsbD d.val
         let l1 := clipLayout s1.tables.profiles mask s1.cmp.layout
         (s1.cmp.future s1.tables.profiles mask l1).conflicts = false ∧
          ({ s1.cmp with layout := l1, armed := s1.cmp.arm s1.tables.profiles mask l1 } : Cmp).group [0] = [0]))) := by
  decide

theorem witness_ShareRequestsASelection :
    OpenTo (active live 0) 0 ∧ ((active live 0).access 0).manageActions = true ∧ ((active live 1).access 1).manageActions = false ∧
    3 < (4 : Byte).toNat ∧ (4 : Byte) ≠ 0xFF ∧ 3 < (0xFE : Byte).toNat := by decide

theorem witness_RaiseAndWithdrawActOnTheSender :
    let s := active live 7
    OpenTo s 7 ∧ (s.access 7).attentionAllowed = true ∧ s.atu.isStacked 7 = false ∧ s.atu.isPending 7 = false ∧
    (s.setAtu ⟨[⟨7, 0⟩], []⟩).atu.isPending 7 = true ∧ (s.setAtu ⟨[], [⟨7, 0, none, 0, 0⟩]⟩).atu.isStacked 7 = true ∧
    ((granted s 7 fun e => { e with attentionAllowed := false }).access 7).attentionAllowed = false ∧
    s.atu.alerts.Pairwise (fun a b => a.before b = true) ∧ ((0 : Byte) :: List.replicate 57 0).length ≤ 58 := by decide

theorem witness_StatusAnswersFromASnapshot :
    OpenTo (active live 7) 7 ∧ (0 : Half).toNat = 0 ∧ (3 : Half).toNat = 3 ∧ (3 : Byte).toNat ≤ 3 ∧ 3 < (4 : Byte).toNat ∧
    3 < (4 : Half).toNat ∧ (2 : Half).toNat = 2 ∧ (1 : Half).toNat = 1 := by decide

theorem witness_SaveAndRestartAreTaken :
    OpenTo (active live 0) 0 ∧ ((active live 0).access 0).manageActions = true ∧ (active live 0).pl.loader = .idle ∧
    OpenTo (loading (active live 0) (.saving .sign)) 0 ∧ (loading (active live 0) (.saving .sign)).pl.loader = .saving .sign ∧
    ((active live 1).access 1).manageActions = false := by decide

theorem witness_RecordsReadBackAsWritten :
    (∀ g ∈ [1, 64], slotRecordOf (SlotRecord.bytes ⟨3, 3, true, false, true, .discard, g, List.replicate 4 ⟨255, 223⟩⟩) ≠ none) ∧
    (-4096 : Int) ≤ -4096 ∧ (4095 : Int) ≤ 4095 ∧ (3840 % 8 = 0 ∧ 640 % 8 = 0) ∧ hotkeyOf [3, 9, 4, 5, 0xFE] ≠ none := by decide

theorem witness_MotionArithmeticLosesNothing :
    computedMove (-127) 64 (-15) = -508 ∧ computedMove 127 64 15 = 508 ∧ translateAxis 1 2 0 1 = 1 ∧
    (-2047 : Int) ≤ 2047 + -508 * 1 ∧ newAccumulator 0 127 16 = 0 := by decide

/-- A state that meets every law while the part takes events: T2 runs, and nothing else has happened. -/
def lawful : State := timed live .t2

theorem witness_StepsKeepTheFlash : FlashLaw lawful ∧ step lawful = .next lawful.tick := ⟨by decide, rfl⟩
theorem witness_StepsKeepPortsAndImages : PortLaw lawful ∧ ImageLaw lawful ∧ step lawful = .next lawful.tick :=
  ⟨by decide, by decide, rfl⟩
theorem witness_StepsKeepKeysAndModifiers : KeyLaw lawful ∧ ModifierLaw lawful ∧ step lawful = .next lawful.tick :=
  ⟨by decide, by decide, rfl⟩
theorem witness_StepsKeepWakesAndTimers : WakeLaw lawful ∧ TimerLaw lawful ∧ step lawful = .next lawful.tick :=
  ⟨by decide, by decide, rfl⟩
theorem witness_StepsKeepTheAttention :
    let s := lawful.setAtu ⟨[⟨2, 3⟩, ⟨1, 0⟩], [⟨7, 1, some 0, 0, 0⟩]⟩
    AttentionLaw s ∧ step s = .next s.tick := ⟨by decide, rfl⟩
theorem witness_StepsKeepQuietAndBlink : QuietLaw lawful ∧ BlinkLaw lawful ∧ step lawful = .next lawful.tick :=
  ⟨by decide, by decide, rfl⟩
theorem witness_StepsKeepAccessAndHotkeys : AccessLaw lawful ∧ HotkeyLaw lawful ∧ step lawful = .next lawful.tick :=
  ⟨by decide, by decide, rfl⟩
theorem witness_StepsKeepResiduesAndChannels : ResidueLaw lawful ∧ ChannelLaw lawful ∧ step lawful = .next lawful.tick :=
  ⟨by decide, by decide, rfl⟩

end Sys2Proof.Tests
end

/-! The chord match of the Hotkey Matcher (02, R28). -/

namespace Sys2Proof.Machine

/-- Bit `i` of the folded set is the left or the right modifier of kind `i`: CTRL, SHIFT, ALT, GUI for 0 to 3, nothing above. -/
theorem getLsbD_foldModifiers (m : Modifiers) (i : Nat) :
    (foldModifiers m).getLsbD i = (decide (i < 4) && (m.getLsbD i || m.getLsbD (i + 4))) := by
  have lowHalf : foldModifiers m = (m &&& BitVec.ofNat 8 (2 ^ 4 - 1)) ||| (m >>> 4) := rfl
  rw [lowHalf, BitVec.getLsbD_or, BitVec.getLsbD_and, BitVec.getLsbD_ofNat, Nat.testBit_two_pow_sub_one,
    BitVec.getLsbD_ushiftRight, Nat.add_comm 4 i]
  by_cases hi : i < 4
  · have inside : i < 8 := by omega
    simp [hi, inside]
  · have above : m.getLsbD (i + 4) = false := BitVec.getLsbD_of_ge m _ (by omega)
    simp [hi, above]

/-- Two sets fold to the same set when they hold the same of CTRL, SHIFT, ALT and GUI, each from either side. -/
theorem foldModifiers_eq_iff (a b : Modifiers) :
    foldModifiers a = foldModifiers b ↔
      ∀ i < 4, (a.getLsbD i || a.getLsbD (i + 4)) = (b.getLsbD i || b.getLsbD (i + 4)) := by
  constructor
  · intro h i hi
    simpa [getLsbD_foldModifiers, hi] using congrArg (·.getLsbD i) h
  · intro h
    apply BitVec.eq_of_getLsbD_eq
    intro i _
    rw [getLsbD_foldModifiers, getLsbD_foldModifiers]
    by_cases hi : i < 4
    · rw [h i hi]
    · simp [hi]

/-- Modifiers fit an exact entry when they are its set, and a side-free entry when both sets fold to the same. -/
theorem Hotkey.fits_iff (e : Hotkey) (m : Modifiers) :
    e.fits m = true ↔
      (e.sideFree = false ∧ m = e.mods) ∨ (e.sideFree = true ∧ foldModifiers m = foldModifiers e.mods) := by
  cases hside : e.sideFree with
  | false => simp [Hotkey.fits, hside, eq_comm]
  | true => simp [Hotkey.fits, hside, eq_comm]

theorem Hotkey.matchesChord_iff (e : Hotkey) (k : Byte) (m : Modifiers) :
    e.matchesChord k m = true ↔ e.enabled = true ∧ e.kind = .chord ∧ e.key = k ∧ e.fits m = true := by
  simp [Hotkey.matchesChord, and_assoc]

/-- The chord found for a press is an entry of the table, and it matches with the whole physical modifier set. -/
theorem State.chordFor_eq_some {s : State} {k : Byte} {e : Hotkey} (h : s.chordFor k = some e) :
    e ∈ s.tables.hotkeys.toList ∧ e.matchesChord k s.ciu.mods = true :=
  ⟨List.mem_of_find?_eq_some h, List.find?_some (p := (Hotkey.matchesChord · k s.ciu.mods)) h⟩

/-- A press has no chord exactly when no entry of the table matches it. -/
theorem State.chordFor_eq_none_iff {s : State} {k : Byte} :
    s.chordFor k = none ↔ ∀ e ∈ s.tables.hotkeys.toList, e.matchesChord k s.ciu.mods = false := by
  simp [State.chordFor]

/-- The chord found depends on the hotkey table and the physical modifiers only, on nothing of the focus controller (R28). -/
theorem State.chordFor_congr {s s' : State} (htable : s'.tables.hotkeys = s.tables.hotkeys)
    (hmods : s'.ciu.mods = s.ciu.mods) (k : Byte) : s'.chordFor k = s.chordFor k := by
  rw [State.chordFor, State.chordFor, htable, hmods]

/-- Settles O18: the match is a conjunction of tests whose last, the fit of the modifiers, is read bit by bit after folding; the
chord of a press is the first entry of the table that passes it. -/
theorem chordsMatchByFoldedModifiers : Obligations.ChordsMatchByFoldedModifiers := by
  refine ⟨fun e k m => ?matching, fun _ _ _ => State.chordFor_eq_some, fun _ _ => State.chordFor_eq_none_iff.mp,
    fun _ k _ => State.chordFor_congr rfl rfl k⟩
  case matching => rw [Hotkey.matchesChord_iff, Hotkey.fits_iff, foldModifiers_eq_iff]

end Sys2Proof.Machine

/-! The Timing Bank's entries (10, R161): what a duration is, how WRITE and READ reach an entry, and which operations keep or
install the tables. -/

namespace Sys2Proof.Machine

/-! ### A duration is a unit times a count -/

/-- The unit of an entry in milliseconds, by its prescale code (10, R161). -/
def TimingEntry.unit (e : TimingEntry) : Nat := if e.prescale = 0 then 1 else if e.prescale = 1 then 16 else 256

/-- The count of an entry: its constant, a constant of 0 counting 256 (10, R161). -/
def TimingEntry.count (e : TimingEntry) : Nat := if e.constant = 0 then 256 else e.constant.toNat

theorem TimingEntry.duration_eq_unit_mul_count (e : TimingEntry) : e.duration = e.unit * e.count := rfl

theorem TimingEntry.unit_of_code_zero {e : TimingEntry} (h : e.prescale.toNat = 0) : e.unit = 1 :=
  if_pos (BitVec.eq_of_toNat_eq h)

theorem TimingEntry.unit_of_code_one {e : TimingEntry} (h : e.prescale.toNat = 1) : e.unit = 16 := by
  have code : e.prescale = 1 := BitVec.eq_of_toNat_eq h
  simp [TimingEntry.unit, code]

/-- Codes 2 and 3 stand for the same unit. -/
theorem TimingEntry.unit_of_code_above {e : TimingEntry} (h0 : e.prescale.toNat ≠ 0) (h1 : e.prescale.toNat ≠ 1) :
    e.unit = 256 := by
  have not0 : e.prescale ≠ 0 := fun h => h0 (congrArg BitVec.toNat h)
  have not1 : e.prescale ≠ 1 := fun h => h1 (congrArg BitVec.toNat h)
  simp only [TimingEntry.unit, if_neg not0, if_neg not1]

theorem TimingEntry.count_eq (e : TimingEntry) : e.count = if e.constant.toNat = 0 then 256 else e.constant.toNat :=
  if_congr (BitVec.toNat_inj (y := 0)).symm rfl rfl

theorem TimingEntry.unit_bounds (e : TimingEntry) : 1 ≤ e.unit ∧ e.unit ≤ 256 := by
  unfold TimingEntry.unit
  split
  · omega
  · split <;> omega

theorem TimingEntry.count_bounds (e : TimingEntry) : 1 ≤ e.count ∧ e.count ≤ 256 := by
  have byteBound : e.constant.toNat < 256 := e.constant.isLt
  rw [TimingEntry.count_eq]
  split <;> omega

theorem TimingEntry.duration_bounds (e : TimingEntry) : 1 ≤ e.duration ∧ e.duration ≤ 65536 := by
  obtain ⟨unitLow, unitHigh⟩ := e.unit_bounds
  obtain ⟨countLow, countHigh⟩ := e.count_bounds
  rw [TimingEntry.duration_eq_unit_mul_count]
  exact ⟨Nat.mul_le_mul unitLow countLow, Nat.mul_le_mul unitHigh countHigh⟩

/-! ### READ and WRITE of a timing entry -/

/-- An open port answers a READ from its meaning (05, R93; 11, R167). -/
theorem exec_read_requestBytes {s : State} {n : Slot} (h : OpenTo s n) (code : Byte) (index : Half) (view : Byte)
    (payload : List Byte) (hp : payload.length < 256) :
    exec (.read n (requestBytes code index view payload)) s =
      let a := s.readRequest n ⟨1, code, index, view, payload, false⟩
      .next (a.state.respond n ⟨a.status, 1, code, index, a.payload⟩) :=
  (State.whenTaking_of_taking h.1 _).trans (congrArg _ (State.takeRequest_requestBytes h 1 code index view payload hp _))

/-- An open port answers a WRITE from its meaning (05, R93; 11, R167). -/
theorem exec_write_requestBytes {s : State} {n : Slot} (h : OpenTo s n) (code : Byte) (index : Half) (view : Byte)
    (payload : List Byte) (hp : payload.length < 256) :
    exec (.write n (requestBytes code index view payload)) s =
      let a := s.writeRequest n ⟨2, code, index, view, payload, false⟩
      .next (a.state.respond n ⟨a.status, 2, code, index, a.payload⟩) :=
  (State.whenTaking_of_taking h.1 _).trans (congrArg _ (State.takeRequest_requestBytes h 2 code index view payload hp _))

/-- Section code 7 holds the timing entries at indices 0 to 6 (11, R171). -/
theorem recordAt_timing (i : Fin 7) : recordAt 7 (BitVec.ofNat 16 i.val).toNat = some (.timing i) := by
  have index : (BitVec.ofNat 16 i.val).toNat = i.val := by rw [BitVec.toNat_ofNat]; omega
  rw [index]
  simp [recordAt, inRange, below]

/-- A prescale code and a constant decode to themselves. -/
theorem timingOf_pair (p : BitVec 2) (c : Byte) : timingOf [p.setWidth 8, c] = some ⟨p, c⟩ := by
  simp [timingOf]

/-- A timing entry is stored as written, and never refused for its value. -/
theorem State.writeRecord_timing (s : State) (i : Fin 7) (p : BitVec 2) (c : Byte) :
    s.writeRecord [p.setWidth 8, c] (.timing i) =
      (s.setTables { s.tables with timing := s.tables.timing.put i ⟨p, c⟩ }).accept .done := by
  rw [State.writeRecord, timingOf_pair]
  rfl

/-- A WRITE in view 0 that names a record, with a payload of its length and the section's write right, is the record's write
(11, R173). -/
theorem State.writeRequest_of_recordAt {s : State} {n : Slot} {r : Request} {x : Record} (hview : r.view = 0)
    (hsection : r.section_.toNat ≤ 7) (hrecord : recordAt r.section_ r.index.toNat = some x)
    (hlength : r.payload.length = x.size) (hright : (s.access n).writeRights.getLsbD r.section_.toNat = true) :
    s.writeRequest n r = s.writeRecord r.payload x := by
  have named : ¬ 7 < r.section_.toNat := by omega
  simp [State.writeRequest, badView, hview, named, hrecord, hlength, hright]

/-- A READ in view 0 without payload that names a record, with the section's read right, answers its pending bytes (11, R172). -/
theorem State.readRequest_of_recordAt {s : State} {n : Slot} {r : Request} {x : Record} (hview : r.view = 0)
    (hpayload : r.payload = []) (hsection : r.section_.toNat ≤ 7) (hrecord : recordAt r.section_ r.index.toNat = some x)
    (hright : (s.access n).readRights.getLsbD r.section_.toNat = true) :
    s.readRequest n r = ⟨s, .done, s.readRecord false x⟩ := by
  have named : ¬ 7 < r.section_.toNat := by omega
  simp [State.readRequest, State.mayRead, badView, hview, hpayload, named, hrecord, hright]

theorem State.writeRequest_timing {s : State} {n : Slot} (hright : (s.access n).writeRights.getLsbD 7 = true) (i : Fin 7)
    (p : BitVec 2) (c : Byte) :
    s.writeRequest n ⟨2, 7, BitVec.ofNat 16 i.val, 0, [p.setWidth 8, c], false⟩ =
      (s.setTables { s.tables with timing := s.tables.timing.put i ⟨p, c⟩ }).accept .done := by
  rw [← s.writeRecord_timing i p c]
  exact State.writeRequest_of_recordAt rfl (Nat.le_refl 7) (recordAt_timing i) rfl hright

theorem State.readRequest_timing {s : State} {n : Slot} (hright : (s.access n).readRights.getLsbD 7 = true) (i : Fin 7) :
    s.readRequest n ⟨1, 7, BitVec.ofNat 16 i.val, 0, [], false⟩ = ⟨s, .done, (s.tables.timing.get i).bytes⟩ :=
  State.readRequest_of_recordAt (x := .timing i) rfl rfl (Nat.le_refl 7) (recordAt_timing i) hright

/-! ### What keeps the tables, and what installs them -/

/-- An operation that keeps the outer state keeps the tables. -/
theorem State.tables_eq_of_outer_eq {s t : State} (h : t.outer = s.outer) : t.tables = s.tables := by
  simp only [State.outer, Prod.mk.injEq] at h
  obtain ⟨-, -, htables, -⟩ := h
  exact htables

@[simp] theorem State.restartWake_outer (s : State) (n : Slot) : (s.restartWake n).outer = s.outer := by
  simp [State.restartWake, apply_ite State.outer]

@[simp] theorem State.resetGu_outer (s : State) (held : Buttons) : (s.resetGu held).outer = s.outer := by
  simp [State.resetGu]

@[simp] theorem State.resetCmp_outer (s : State) : s.resetCmp.outer = s.outer := by
  simp [State.resetCmp]

@[simp] theorem State.restartFc_outer (s : State) (mode : FollowMode) : (s.restartFc mode).outer = s.outer := rfl

@[simp] theorem State.recordDefaulted_tables (s : State) (d : Byte) : (s.recordDefaulted d).tables = s.tables := by
  simp only [State.recordDefaulted]
  split <;> simp

@[simp] theorem State.install_tables (s : State) (x : Sections) : (s.install x).tables = tablesOf x := rfl

@[simp] theorem State.startHeads_tables (s : State) : s.startHeads.tables = s.tables :=
  State.tables_eq_of_outer_eq s.startHeads_outer

@[simp] theorem State.resetGu_tables (s : State) (held : Buttons) : (s.resetGu held).tables = s.tables :=
  State.tables_eq_of_outer_eq (s.resetGu_outer held)

@[simp] theorem State.resetCmp_tables (s : State) : s.resetCmp.tables = s.tables :=
  State.tables_eq_of_outer_eq s.resetCmp_outer

@[simp] theorem State.restartFc_tables (s : State) (mode : FollowMode) : (s.restartFc mode).tables = s.tables := rfl

/-- Restarting the wake controller for each slot of a list keeps the tables. -/
@[simp] theorem State.foldl_restartWake_tables (s : State) (l : List Slot) :
    (l.foldl State.restartWake s).tables = s.tables :=
  State.tables_eq_of_outer_eq (outer_foldl State.restartWake State.restartWake_outer l s)

/-- The end of a load installs the tables of the image found in the flash (12, R183, R184). -/
theorem State.powerOn_tables (s : State) (img : Option (List Byte)) :
    (s.powerOn img).tables = tablesOf (loadImage img).1 := by
  simp [State.powerOn]

/-- A desk restart installs the tables of the load copy (12, R188). -/
theorem State.deskRestart_tables (s : State) :
    s.deskRestart.tables = tablesOf (loadImage (judged s.pl.loadCopy)).1 := by
  simp [State.deskRestart]

/-- A guarded command whose operation keeps the tables keeps them, whether the part takes events or not. -/
theorem State.tables_eq_of_whenTaking {s t : State} {f : State → State} (hf : (f s).tables = s.tables)
    (h : s.whenTaking f = .next t) : t.tables = s.tables := by
  rw [State.whenTaking] at h
  obtain rfl := Host.Outcome.next.inj h
  split
  · exact hf
  · rfl

theorem exec_busReset_tables {s t : State} {n : Slot} (h : exec (.busReset n) s = .next t) : t.tables = s.tables :=
  State.tables_eq_of_whenTaking (f := (State.busResets · n)) (State.tables_eq_of_outer_eq (s.busResets_outer n)) h

theorem exec_busPowerLost_tables {s t : State} {n : Slot} (h : exec (.busPowerLost n) s = .next t) :
    t.tables = s.tables :=
  State.tables_eq_of_whenTaking (f := (State.powerLost · n)) (State.tables_eq_of_outer_eq (s.powerLost_outer n)) h

/-- Settles O43: a duration is a unit times a count, each within 1..256; WRITE and READ of section 7 reach the entry through
`recordAt_timing` and store and return it as written; the end of a load and a desk restart install the tables of the image they
load, and a link reset keeps the tables whole. -/
theorem timingEntriesHoldUnitAndCount : Obligations.TimingEntriesHoldUnitAndCount := by
  refine ⟨fun e => ⟨?duration, e.duration_bounds⟩, ⟨rfl, rfl, rfl⟩, fun s n i p c hopen hright => ?write,
    fun s n i hopen hright => ?read, fun s img => ⟨?load, ?restart, rfl⟩, fun s t n h => ?linkReset⟩
  case duration =>
    rw [TimingEntry.duration_eq_unit_mul_count, TimingEntry.count_eq]
    congr 1
    split
    case h_1 code => rw [TimingEntry.unit_of_code_zero code]
    case h_2 code => rw [TimingEntry.unit_of_code_one code]
    case h_3 not0 not1 => rw [TimingEntry.unit_of_code_above not0 not1]
  case write =>
    rw [exec_write_requestBytes hopen 7 _ 0 _ (by simp), State.writeRequest_timing hright]
    rfl
  case read =>
    rw [exec_read_requestBytes hopen 7 _ 0 _ (by simp), State.readRequest_timing hright]
    rfl
  case load => rw [State.powerOn_tables]; rfl
  case restart => rw [State.deskRestart_tables]; rfl
  case linkReset =>
    cases h with
    | inl reset => rw [exec_busReset_tables reset]
    | inr powerLost => rw [exec_busPowerLost_tables powerLost]

end Sys2Proof.Machine

/-! RAISE and WITHDRAW (07, R113, R115, R116; 11, R177): what joining and leaving the pending-alert set does, and how an open
port answers the two requests. -/

namespace Sys2Proof.Machine

/-! ### Pending order, and an alert put at its place in it -/

/-- Pending order read on the numbers, where `omega` decides it (07, R113). -/
theorem Alert.before_iff {a b : Alert} :
    a.before b = true ↔ b.level.val < a.level.val ∨ (a.level.val = b.level.val ∧ a.slot.val < b.slot.val) := by
  simp [Alert.before, Fin.ext_iff]

theorem Alert.before_trans {a b c : Alert} (hab : a.before b = true) (hbc : b.before c = true) : a.before c = true := by
  rw [Alert.before_iff] at *
  omega

/-- Pending order decides between any two alerts of different slots. -/
theorem Alert.before_of_not_before {a b : Alert} (hslot : a.slot ≠ b.slot) (h : ¬ a.before b = true) : b.before a = true := by
  have numbersDiffer : a.slot.val ≠ b.slot.val := Fin.val_ne_of_ne hslot
  rw [Alert.before_iff] at h ⊢
  omega

theorem mem_insertAlert {a x : Alert} {l : List Alert} : x ∈ insertAlert a l ↔ x ∈ l ∨ x = a := by
  induction l with
  | nil => simp [insertAlert]
  | cons b bs ih =>
    rw [insertAlert]
    split
    · rw [List.mem_cons, or_comm]
    · rw [List.mem_cons, ih, List.mem_cons, or_assoc]

/-- An alert of a slot that has none in the list keeps the list in pending order when put at its place (07, R113). -/
theorem pairwise_insertAlert {a : Alert} {l : List Alert} (hnew : ∀ b ∈ l, b.slot ≠ a.slot)
    (h : l.Pairwise fun x y => x.before y = true) : (insertAlert a l).Pairwise fun x y => x.before y = true := by
  induction l with
  | nil => exact List.pairwise_singleton _ a
  | cons b bs ih =>
    obtain ⟨headFirst, tailOrdered⟩ := List.pairwise_cons.mp h
    obtain ⟨headNew, tailNew⟩ := List.forall_mem_cons.mp hnew
    rw [insertAlert]
    split
    next first =>
      have firstOfAll : ∀ c ∈ b :: bs, a.before c = true :=
        List.forall_mem_cons.mpr ⟨first, fun c hc => Alert.before_trans first (headFirst c hc)⟩
      exact List.pairwise_cons.mpr ⟨firstOfAll, h⟩
    next notFirst =>
      refine List.pairwise_cons.mpr ⟨fun c hc => ?_, ih tailNew tailOrdered⟩
      cases mem_insertAlert.mp hc with
      | inl old => exact headFirst c old
      | inr new => exact new ▸ Alert.before_of_not_before headNew.symm notFirst

theorem mem_removeAlert {n : Slot} {x : Alert} {l : List Alert} : x ∈ removeAlert n l ↔ x ∈ l ∧ x.slot ≠ n := by
  simp [removeAlert]

theorem Atu.isPending_eq_false_iff {u : Atu} {n : Slot} : u.isPending n = false ↔ ∀ a ∈ u.alerts, a.slot ≠ n := by
  simp [Atu.isPending]

/-! ### The four answers to a RAISE (07, R115) -/

theorem State.raiseAlert_of_not_allowed {s : State} {n : Slot} (h : (s.access n).attentionAllowed = false) :
    s.raiseAlert n = (s, .denied) := by
  simp [State.raiseAlert, h]

theorem State.raiseAlert_of_stacked {s : State} {n : Slot} (hallowed : (s.access n).attentionAllowed = true)
    (hstacked : s.atu.isStacked n = true) : s.raiseAlert n = (s, .held) := by
  simp [State.raiseAlert, hallowed, hstacked]

theorem State.raiseAlert_of_pending {s : State} {n : Slot} (hallowed : (s.access n).attentionAllowed = true)
    (hstacked : s.atu.isStacked n = false) (hpending : s.atu.isPending n = true) : s.raiseAlert n = (s, .done) := by
  simp [State.raiseAlert, hallowed, hstacked, hpending]

/-- The state after a slot's new alert has joined the pending set at the level of its slot record (07, R115). -/
def State.alertJoined (s : State) (n : Slot) : State :=
  (s.setAtu { s.atu with alerts := insertAlert ⟨n, (s.slotRecord n).level⟩ s.atu.alerts }).raiseEvent .alertRaised

theorem State.raiseAlert_of_idle {s : State} {n : Slot} (hallowed : (s.access n).attentionAllowed = true)
    (hstacked : s.atu.isStacked n = false) (hpending : s.atu.isPending n = false) :
    s.raiseAlert n = (s.alertJoined n, .done) := by
  simp [State.raiseAlert, State.alertJoined, hallowed, hstacked, hpending]

@[simp] theorem State.alertJoined_alerts (s : State) (n : Slot) :
    (s.alertJoined n).atu.alerts = insertAlert ⟨n, (s.slotRecord n).level⟩ s.atu.alerts := rfl

/-! ### The requests at an open port -/

theorem State.bareRequest_of_no_payload {s : State} {r : Request} (h : r.payload = []) (a : Answer) : s.bareRequest r a = a :=
  if_pos h

theorem State.bareRequest_of_payload {s : State} {r : Request} (h : r.payload ≠ []) (a : Answer) :
    s.bareRequest r a = s.refuse .badRequest :=
  if_neg h

section OpenPort

variable {s : State} {n : Slot} (h : OpenTo s n) (code : Byte) (index : Half) (view : Byte)
include h

/-- A kind without payload is carried out when the request carries none, whatever its header names (11, R167, R168). -/
theorem State.takeRequest_bare_no_payload (kind : Byte) (a : Answer) :
    s.takeRequest n kind (requestBytes code index view []) (s.bareRequest · a) =
      a.state.respond n ⟨a.status, kind, code, index, a.payload⟩ := by
  rw [State.takeRequest_requestBytes h kind code index view [] (by simp), State.bareRequest_of_no_payload rfl]

/-- A kind without payload is refused when the request carries one (11, R167). -/
theorem State.takeRequest_bare_with_payload (kind : Byte) (a : Answer) {payload : List Byte} (hsome : payload ≠ [])
    (hlength : payload.length < 256) :
    s.takeRequest n kind (requestBytes code index view payload) (s.bareRequest · a) =
      s.respond n ⟨.badRequest, kind, code, index, []⟩ := by
  rw [State.takeRequest_requestBytes h kind code index view payload hlength, State.bareRequest_of_payload hsome]
  rfl

theorem exec_raise_no_payload :
    exec (.raise n (requestBytes code index view [])) s =
      .next ((s.raiseAlert n).1.respond n ⟨(s.raiseAlert n).2, 7, code, index, []⟩) :=
  (State.whenTaking_of_taking h.1 _).trans (congrArg _ (State.takeRequest_bare_no_payload h code index view 7 _))

theorem exec_withdraw_no_payload :
    exec (.withdraw n (requestBytes code index view [])) s =
      .next ((s.withdrawAlert n).respond n ⟨.done, 8, code, index, []⟩) :=
  (State.whenTaking_of_taking h.1 _).trans (congrArg _ (State.takeRequest_bare_no_payload h code index view 8 _))

variable {payload : List Byte} (hsome : payload ≠ []) (hlength : payload.length < 256)
include hsome hlength

theorem exec_raise_with_payload :
    exec (.raise n (requestBytes code index view payload)) s = .next (s.respond n ⟨.badRequest, 7, code, index, []⟩) :=
  (State.whenTaking_of_taking h.1 _).trans
    (congrArg _ (State.takeRequest_bare_with_payload h code index view 7 _ hsome hlength))

theorem exec_withdraw_with_payload :
    exec (.withdraw n (requestBytes code index view payload)) s = .next (s.respond n ⟨.badRequest, 8, code, index, []⟩) :=
  (State.whenTaking_of_taking h.1 _).trans
    (congrArg _ (State.takeRequest_bare_with_payload h code index view 8 _ hsome hlength))

end OpenPort

/-- Settles O48: each request without payload is `raiseAlert` or `withdrawAlert` of the sender, in which the header does not occur;
a new alert is put at its place in pending order, where every other entry stays, because its slot has none yet. -/
theorem raiseAndWithdrawActOnTheSender : Obligations.RaiseAndWithdrawActOnTheSender := by
  intro s n code view index hopen
  have raised := exec_raise_no_payload hopen code index view
  refine ⟨fun denied => ?denied, fun allowed stacked => ?held, fun allowed unstacked pending => ?again,
    fun allowed unstacked idle => ⟨s.alertJoined n, ?joins, fun a => ?members, fun ordered => ?order, rfl⟩,
    exec_withdraw_no_payload hopen code index view, fun _ => mem_removeAlert, fun b l hlength => ?payload⟩
  case denied => rw [raised, State.raiseAlert_of_not_allowed denied]
  case held => rw [raised, State.raiseAlert_of_stacked allowed stacked]
  case again => rw [raised, State.raiseAlert_of_pending allowed unstacked pending]
  case joins => rw [raised, State.raiseAlert_of_idle allowed unstacked idle]
  case members => rw [State.alertJoined_alerts, mem_insertAlert]
  case order => exact pairwise_insertAlert (Atu.isPending_eq_false_iff.mp idle) ordered
  case payload =>
    have short : (b :: l).length < 256 := by omega
    have carries : b :: l ≠ [] := List.cons_ne_nil b l
    exact ⟨exec_raise_with_payload hopen code index view carries short,
      exec_withdraw_with_payload hopen code index view carries short⟩

end Sys2Proof.Machine


/-! The Glide Unit's arithmetic (04, R63 to R70): the computed move and its residue, the relative output and its accumulator,
and the absolute translation. -/

namespace Sys2Proof.Machine

/-! ### Clamping -/

theorem le_clampInto {lo hi v : Int} (h : lo ≤ hi) : lo ≤ clampInto lo hi v := by
  unfold clampInto; split <;> [omega; (split <;> omega)]

theorem clampInto_le {lo hi v : Int} (h : lo ≤ hi) : clampInto lo hi v ≤ hi := by
  unfold clampInto; split <;> [omega; (split <;> omega)]

theorem clampInto_of_mem {lo hi v : Int} (h1 : lo ≤ v) (h2 : v ≤ hi) : clampInto lo hi v = v := by
  simp only [clampInto]; rw [if_neg (by omega), if_neg (by omega)]

/-- Division by 16 toward zero: the remainder is below 16 in size and has the sign of what is divided. -/
theorem tdiv_tmod_sixteen (t : Int) : 16 * t.tdiv 16 + t.tmod 16 = t ∧ (0 ≤ t → 0 ≤ t.tmod 16 ∧ t.tmod 16 ≤ 15) ∧
    (t ≤ 0 → -15 ≤ t.tmod 16 ∧ t.tmod 16 ≤ 0) := by
  have below := Int.tmod_lt_of_pos t (show (0 : Int) < 16 by decide)
  have above := Int.lt_tmod_of_pos t (show (0 : Int) < 16 by decide)
  refine ⟨Int.mul_tdiv_add_tmod t 16, fun h => ⟨Int.tmod_nonneg 16 h, by omega⟩, fun h => ⟨by omega, ?_⟩⟩
  have := Int.tmod_nonneg 16 (Int.neg_nonneg.mpr h)
  rw [Int.neg_tmod] at this
  omega

/-! ### Desk motion (04, R63) -/

theorem computedMove_add_newResidue (d v r : Int) : 16 * computedMove d v r + newResidue d v r = d * v + r := by
  unfold newResidue; omega

theorem newResidue_eq_tmod (d v r : Int) : newResidue d v r = (d * v + r).tmod 16 := by
  obtain ⟨sum, -⟩ := tdiv_tmod_sixteen (d * v + r)
  unfold newResidue computedMove; omega

theorem newResidue_bounds (d v r : Int) : -15 ≤ newResidue d v r ∧ newResidue d v r ≤ 15 := by
  obtain ⟨-, up, down⟩ := tdiv_tmod_sixteen (d * v + r)
  rw [newResidue_eq_tmod]
  omega

/-- The residue has the sign of the total, or is 0. -/
theorem newResidue_mul_nonneg (d v r : Int) : 0 ≤ newResidue d v r * (d * v + r) := by
  obtain ⟨-, up, down⟩ := tdiv_tmod_sixteen (d * v + r)
  rw [newResidue_eq_tmod]
  rcases Int.le_total 0 (d * v + r) with h | h
  · exact mul_nonneg (up h).1 h
  · exact mul_nonneg_of_nonpos_of_nonpos (down h).2 h

theorem computedMove_neg (d v r : Int) : computedMove (-d) v (-r) = -computedMove d v r := by
  unfold computedMove
  rw [show -d * v + -r = -(d * v + r) by ring, Int.neg_tdiv]

/-- A console delta at a desk speed moves by at most 508, which is 127 times 64 over 16. -/
theorem computedMove_bounds {d v r : Int} (hd : -127 ≤ d) (hd' : d ≤ 127) (hv : 1 ≤ v) (hv' : v ≤ 64) (hr : -15 ≤ r)
    (hr' : r ≤ 15) : -508 ≤ computedMove d v r ∧ computedMove d v r ≤ 508 := by
  obtain ⟨sum, up, down⟩ := tdiv_tmod_sixteen (d * v + r)
  have upper : d * v ≤ 8128 := by nlinarith
  have lower : -8128 ≤ d * v := by nlinarith
  unfold computedMove
  omega

/-! ### Relative output (04, R69, R70) -/

theorem relativeOutput_bounds (acc m g : Int) : -127 ≤ relativeOutput acc m g ∧ relativeOutput acc m g ≤ 127 :=
  ⟨le_clampInto (by decide), clampInto_le (by decide)⟩

theorem newAccumulator_bounds (acc m g : Int) : -2047 ≤ newAccumulator acc m g ∧ newAccumulator acc m g ≤ 2047 :=
  ⟨le_clampInto (by decide), clampInto_le (by decide)⟩

/-- Without a clamp the output takes whole sixteenths and the accumulator keeps the rest. -/
theorem relativeOutput_of_mem {acc m g : Int} (h : -2047 ≤ acc + m * g) (h' : acc + m * g ≤ 2047) :
    relativeOutput acc m g = (acc + m * g).tdiv 16 := by
  obtain ⟨sum, up, down⟩ := tdiv_tmod_sixteen (acc + m * g)
  exact clampInto_of_mem (by omega) (by omega)

theorem newAccumulator_of_mem {acc m g : Int} (h : -2047 ≤ acc + m * g) (h' : acc + m * g ≤ 2047) :
    newAccumulator acc m g = (acc + m * g).tmod 16 := by
  obtain ⟨sum, up, down⟩ := tdiv_tmod_sixteen (acc + m * g)
  have rest : acc + m * g - 16 * (acc + m * g).tdiv 16 = (acc + m * g).tmod 16 := by omega
  unfold newAccumulator
  rw [relativeOutput_of_mem h h', rest]
  exact clampInto_of_mem (by omega) (by omega)

theorem relativeOutput_add_newAccumulator {acc m g : Int} (h : -2047 ≤ acc + m * g) (h' : acc + m * g ≤ 2047) :
    16 * relativeOutput acc m g + newAccumulator acc m g = acc + m * g ∧ -15 ≤ newAccumulator acc m g ∧
      newAccumulator acc m g ≤ 15 := by
  obtain ⟨sum, up, down⟩ := tdiv_tmod_sixteen (acc + m * g)
  rw [relativeOutput_of_mem h h', newAccumulator_of_mem h h']
  omega

/-! ### Absolute translation (04, R65, R66) -/

theorem translateAxis_first {w : Int} (a0 a1 : Int) (hw : 2 ≤ w) : translateAxis 0 w a0 a1 = a0 := by
  have : (w - 1) / (2 * (w - 1)) = 0 := Int.ediv_eq_zero_of_lt (by omega) (by omega)
  simp [translateAxis, this]

theorem translateAxis_last {w : Int} (a0 a1 : Int) (hw : 2 ≤ w) : translateAxis (w - 1) w a0 a1 = a1 := by
  have split : 2 * (w - 1) * (a1 - a0) + (w - 1) = (w - 1) + (2 * (w - 1)) * (a1 - a0) := by ring
  have : (w - 1) / (2 * (w - 1)) = 0 := Int.ediv_eq_zero_of_lt (by omega) (by omega)
  rw [translateAxis, split, Int.add_mul_ediv_left _ _ (by omega), this]
  omega

theorem translateAxis_mono {w a0 a1 u v : Int} (hw : 2 ≤ w) (ha : a0 < a1) (huv : u ≤ v) :
    translateAxis u w a0 a1 ≤ translateAxis v w a0 a1 := by
  have scaled : 2 * u * (a1 - a0) ≤ 2 * v * (a1 - a0) := by nlinarith
  have := Int.ediv_le_ediv (show (0 : Int) < 2 * (w - 1) by omega)
    (show 2 * u * (a1 - a0) + (w - 1) ≤ 2 * v * (a1 - a0) + (w - 1) by omega)
  unfold translateAxis; omega

/-- Settles O24, one function of the unit's arithmetic after the other. -/
theorem motionArithmeticLosesNothing : Obligations.MotionArithmeticLosesNothing := by
  refine ⟨fun d v r hd hd' hv hv' hr hr' => ?desk, fun acc m g => ?output, fun acc m g h h' => ?unclamped,
    fun w a0 a1 hw ha => ⟨translateAxis_first a0 a1 hw, translateAxis_last a0 a1 hw, fun u v => translateAxis_mono hw ha,
      fun u hu huw => ?within⟩⟩
  case desk =>
    obtain ⟨lower, upper⟩ := computedMove_bounds hd hd' hv hv' hr hr'
    obtain ⟨lower', upper'⟩ := newResidue_bounds d v r
    exact ⟨lower, upper, lower', upper', computedMove_add_newResidue d v r, newResidue_mul_nonneg d v r, computedMove_neg d v r⟩
  case output =>
    obtain ⟨lower, upper⟩ := relativeOutput_bounds acc m g
    exact ⟨lower, upper, newAccumulator_bounds acc m g⟩
  case unclamped => exact relativeOutput_add_newAccumulator h h'
  case within =>
    have first := translateAxis_mono hw ha hu
    have last := translateAxis_mono hw ha (show u ≤ w - 1 by omega)
    rw [translateAxis_first a0 a1 hw] at first
    rw [translateAxis_last a0 a1 hw] at last
    exact ⟨first, last⟩

end Sys2Proof.Machine


/-! How the part's state evolves: one relation whose cases are the elementary changes that the commands are made of, and one lemma
for each operation that says it evolves the state so. A law that every elementary change keeps is kept by every operation. -/

namespace Sys2Proof.Machine

/-! ### What the elementary changes ask for -/

/-- The residues and the accumulators keep their ranges (04, R63, R70). -/
def Gu.Bounded (g : Gu) : Prop :=
  -15 ≤ g.rx ∧ g.rx ≤ 15 ∧ -15 ≤ g.ry ∧ g.ry ≤ 15 ∧
  ∀ n, -2047 ≤ g.accX.get n ∧ g.accX.get n ≤ 2047 ∧ -2047 ≤ g.accY.get n ∧ g.accY.get n ≤ 2047

theorem residueLaw_iff (s : State) : ResidueLaw s ↔ s.gu.Bounded := Iff.rfl

/-- The laws of the pending-alert set and the attended stack (07, R113, R114). -/
def Atu.Lawful (a : Atu) : Prop :=
  a.alerts.Pairwise (fun x y => x.before y = true) ∧ (a.alerts.map (·.slot)).Nodup ∧
  a.stack.Pairwise (fun x y => y.level < x.level) ∧ (a.stack.map (·.slot)).Nodup ∧
  ∀ x ∈ a.alerts, ∀ e ∈ a.stack, x.slot ≠ e.slot

theorem attentionLaw_iff (s : State) : AttentionLaw s ↔ s.atu.Lawful := Iff.rfl

/-- The owner of an instance waits for it (02, section 2.4; 06, section 6.3; 06, R110; 10, R164). -/
def State.owes (s : State) : TimerId → Prop
  | .t0 => s.hkm = .leadOne
  | .t1 => s.hkm = .command
  | .t2 => True
  | .t3 n => (s.wake n).phase = .await
  | .t4 n => (s.wake n).phase = .linePulse
  | .t5 n => (s.wake n).phase = .lineAwait
  | .t6 n => (s.port n).waits = true

/-- A port changes without a loss: it stays lawful, its newest image stays, its link becomes neither ACTIVE nor OFF, and it is given
no response. -/
structure Port.Leads (p q : Port) : Prop where
  lawful : p.Lawful → q.Lawful
  responses : q.responses.length ≤ p.responses.length
  image : p.Lawful → newestImage q.lastKeyboard q.queue = newestImage p.lastKeyboard p.queue
  active : q.link = .active → p.link = .active
  off : q.link = .off → p.link = .off

/-- The slot's wake sequence may go on: its link is not ACTIVE, where the sequence is IDLE (06, R106). -/
def State.MayWait (s : State) (n : Slot) : Prop := s.link n = .active → (s.wake n).phase ≠ .idle

/-- The attempts of a wake record: at most 8, and fewer while another may follow (06, R102). -/
def WakeRecord.Counted (w : WakeRecord) : Prop :=
  w.attempts ≤ 8 ∧ (w.phase = .signal ∨ w.phase = .await → w.attempts ≤ 7)

/-- The loss timer runs exactly outside NO_SIGNAL (08, R127, R130). -/
def Channel.Timed (c : Channel) : Prop := c.lossTimer.isRunning = true ↔ c.lock ≠ .noSignal

/-- No two enabled hotkey entries collide and none holds the lead key (02, R26, R27). -/
def Tables.HotkeysLawful (x : Tables) : Prop := anyCollision x.hotkeys.toList = false ∧ holdsKey x.hotkeys x.leadKey = false

/-- No slot record holds more than four blocked chords (01, R17). -/
def Tables.ChordsLawful (x : Tables) : Prop := ∀ n, (x.slots.get n).blocked.length ≤ 4

/-- Tables that keep the laws of the tables they replace. -/
structure Tables.Follows (x y : Tables) : Prop where
  writer : hasAccessWriter x.access = true → hasAccessWriter y.access = true
  hotkeys : x.HotkeysLawful → y.HotkeysLawful
  chords : x.ChordsLawful → y.ChordsLawful

/-- T0 runs exactly in LEAD_ONE and T1 exactly in COMMAND (02, section 2.4). -/
def State.CommandTimed (s : State) : Prop :=
  (s.bank.t0.isRunning = true ↔ s.hkm = .leadOne) ∧ (s.bank.t1.isRunning = true ↔ s.hkm = .command)

/-- The command state with T0 and T1. -/
def State.setCommandTimers (s : State) (c : CommandState) (w0 w1 : Wait) : State :=
  (s.setBank { s.bank with t0 := w0, t1 := w1 }).setHkm c

/-- The slot is ACTIVE and its response queue has room (05, R93). -/
def State.Open (s : State) (n : Slot) : Prop := s.link n = .active ∧ (s.port n).responses.length < Config.responseCapacity

/-- Which elementary changes there may be: with `typing`, those of the console keyboard's image, of the held-key map, of the
suppressed modifiers, and any of the tables; with a `sender`, only those that leave that slot's port open to its response. -/
structure Mode where
  typing : Bool
  sender : Option Slot

/-! ### The relation -/

/-- The elementary changes and their sequences. -/
inductive Evolves (b : Mode) : State → State → Prop
  | refl (s : State) : Evolves b s s
  | trans {s t u : State} : Evolves b s t → Evolves b t u → Evolves b s u
  | ciu (s : State) (x : Ciu) (hmods : x.mods = s.ciu.mods) (hkeys : x.keys = s.ciu.keys) : Evolves b s (s.setCiu x)
  | mgi (s : State) (x : Mgi) : Evolves b s (s.setMgi x)
  | cmp (s : State) (x : Cmp) : Evolves b s (s.setCmp x)
  | gu (s : State) (x : Gu) (h : s.gu.Bounded → x.Bounded) : Evolves b s (s.setGu x)
  | atu (s : State) (x : Atu) (h : s.atu.Lawful → x.Lawful) : Evolves b s (s.setAtu x)
  | fc (s : State) (x : Fc) (hfocus : x.focus = s.fc.focus) (hheld : x.held = s.fc.held)
      (hsuppressed : x.suppressed = s.fc.suppressed) (hsent : x.sent = s.fc.sent) : Evolves b s (s.setFc x)
  | command (s : State) (c : CommandState) (w0 w1 : Wait) (h : s.CommandTimed → (s.setCommandTimers c w0 w1).CommandTimed) :
      Evolves b s (s.setCommandTimers c w0 w1)
  | start (s : State) (i : TimerId) (h : s.owes i) : Evolves b s (s.startTimer i)
  | stop (s : State) (i : TimerId) (h : ¬ s.owes i) : Evolves b s (s.stopTimer i)
  | flush (s : State) (n : Slot) : Evolves b s (s.releaseFlush n)
  | focus (s : State) (t : Option Slot) (h : t ≠ s.fc.focus) : Evolves b s ((s.leaveFocus s.fc.focus).enterFocus t)
  | settle (s : State) (n : Slot) (p : Port) (h : (s.port n).Leads p)
      (hopen : b.sender = some n → (s.port n).link = .active → p.link = .active) : Evolves b s (s.settlePort n p)
  | put (s : State) (n : Slot) (p : Port) (h : (s.port n).Leads p)
      (hopen : b.sender = some n → (s.port n).link = .active → p.link = .active) (hwaits : p.waits = (s.port n).waits) :
      Evolves b s (s.setPort n p)
  | answer (s : State) (n : Slot) (r : Response) (h : s.Open n) (hsender : b.sender = none) : Evolves b s (s.respond n r)
  | lose (s : State) (n : Slot) (l : Link) (h : l = .off ∨ l = .attached) (hsender : b.sender = none) :
      Evolves b s ((s.settlePort n (Port.linkReset l)).fcLoss n)
  | becomeActive (s : State) (n : Slot) (h : s.link n ≠ .off) : Evolves b s (s.becomeActive n)
  | linePulse (s : State) (n : Slot) (w : WakeRecord) (hw : (s.wake n).Counted → w.attempts ≤ 8) (h : s.MayWait n) :
      Evolves b s ((s.setWake n w).enterLinePulse n)
  | lineAwait (s : State) (n : Slot) (w : WakeRecord) (hw : (s.wake n).Counted → w.attempts ≤ 8) (h : s.MayWait n) :
      Evolves b s ((s.setWake n w).enterLineAwait n)
  | failed (s : State) (n : Slot) (w : WakeRecord) (hw : (s.wake n).Counted → w.attempts ≤ 8) (h : s.MayWait n) :
      Evolves b s (((s.setWake n w).stopWakeTimers n).setPhase n .failed)
  | idle (s : State) (n : Slot) (w : WakeRecord) (hw : (s.wake n).Counted → w.attempts ≤ 8) :
      Evolves b s (((s.setWake n w).stopWakeTimers n).setPhase n .idle)
  | signal (s : State) (n : Slot) (w : WakeRecord) (hw : w.attempts ≤ 7) (h : (s.port n).canSignal = true) :
      Evolves b s ((((s.setWake n w).stopWakeTimers n).setPhase n .signal).settlePort n (s.port n).startSignal)
  | await (s : State) (n : Slot) (h : (s.wake n).phase = .signal) :
      Evolves b s (((s.setPort n { s.port n with signalling := .stopped }).setPhase n .await).startTimer (.t3 n))
  | rest (s : State) (n : Slot) : Evolves b s (s.restartWake n)
  | tables (s : State) (x : Tables) (hx : s.tables.Follows x)
      (h : b.typing = false → ∀ n, (s.access n).inputAllowed = true → (x.access.get n).inputAllowed = true) :
      Evolves b s (s.setTables x)
  | inputRemoved (s : State) (x : Tables) (n : Slot) (hx : s.tables.Follows x)
      (h : ∀ m, m ≠ n → (s.access m).inputAllowed = true → (x.access.get m).inputAllowed = true) :
      Evolves b s ((s.setTables x).fcInputRemoved n)
  | told (s : State) (n : Slot) (k : KeyImage) (l : List Entry) (hk : b.typing = false → k = s.sent n) (hlink : s.link n ≠ .off)
      (hlength : (s.port n).queue.length ≤ Config.reportCapacity → l.length ≤ Config.reportCapacity)
      (hnewest : newestImage (s.port n).lastKeyboard l = k) :
      Evolves b s ((s.setSent n k).settlePort n { s.port n with queue := l })
  | pl (s : State) (x : Pl) (h : x.loader = .loading ↔ s.pl.loader = .loading)
      (hbuffer : FlashLaw s → x.saveBuffer.length ≤ Config.imageArea) : Evolves b s (s.setPl x)
  | flash (s : State) (x : Memory) (h : FlashLaw s → x.wf = true) : Evolves b s (s.setFlash x)
  | cuts (s : State) (x : Nat) : Evolves b s (s.setCuts x)
  | channels (s : State) (x : Table Channel 16) (h : (∀ n, (s.channel n).Timed) → ∀ n, (x.get n).Timed)
      (hlawful : (∀ n, (s.channel n).Lawful) → ∀ n, (x.get n).Lawful) : Evolves b s (s.setChannels x)
  | image (ht : b.typing = true) (s : State) (m : Modifiers) (ks : List Byte) :
      Evolves b s (s.setCiu { s.ciu with mods := m, keys := ks })
  | input (ht : b.typing = true) (s : State) (x : Fc) (hsent : x.sent = s.fc.sent) : Evolves b s (s.setFc x)
  | tellOff (ht : b.typing = true) (s : State) (n : Slot) (k : KeyImage) (hlink : s.link n = .off)
      (h : s.sent n = KeyImage.empty → k = KeyImage.empty) : Evolves b s (s.setSent n k)

/-- Of two writes of one place the later stands. -/
theorem Table.put_put {α : Type} {n : Nat} (t : Table α n) (i : Fin n) (x y : α) : (t.put i x).put i y = t.put i y := by
  simp [Table.put]

variable {b : Mode}

/-- A sequence that ends in the state `t'`, written another way. -/
theorem Evolves.of_eq {s t t' : State} (h : Evolves b s t) (e : t' = t) : Evolves b s t' := e ▸ h

theorem Evolves.foldl {α : Type} {f : State → α → State} (h : ∀ s a, Evolves b s (f s a)) (l : List α) (s : State) :
    Evolves b s (l.foldl f s) := by
  induction l generalizing s with
  | nil => exact .refl s
  | cons a l ih => exact (h s a).trans (ih _)

/-! ### A release flush, written out (01, R22; 03, R60; 05, R89) -/

/-- The focus record after a loss of slot `n`: what named the slot is SUPPRESSED, its sent image is empty, and the held modifiers are
suppressed where it is the focus (01, R21, R22). -/
def State.lostFc (s : State) (n : Slot) : Fc :=
  { s.fc with
    held := s.fc.held.map fun e => (e.1, e.2.without n)
    sent := s.fc.sent.put n KeyImage.empty
    suppressed := if s.fc.focus = some n then s.fc.suppressed ||| s.ciu.mods else s.fc.suppressed }

theorem State.fcLoss_eq (s : State) (n : Slot) : s.fcLoss n = s.setFc (s.lostFc n) := by
  unfold State.fcLoss State.suppressFocusModifiers State.lostFc
  by_cases h : s.fc.focus = some n
  · rw [if_pos (show (s.suppressHeld n).fc.focus = some n from h), if_pos h]; rfl
  · rw [if_neg (show ¬ (s.suppressHeld n).fc.focus = some n from h), if_neg h]; rfl

/-- The pointer's state after a loss of slot `n`: its delivered buttons are suppressed and gone (03, R60). -/
def State.lostGu (s : State) (n : Slot) : Gu :=
  { s.gu with suppressed := s.gu.suppressed ||| s.gu.delivered.get n, delivered := s.gu.delivered.put n 0 }

/-- T6 after a port is replaced by `p` in a flush: anew from its full duration where entries wait (06, R110). -/
def State.holdTimer (s : State) (p : Port) : Wait :=
  if p.waits then .running (s.tables.timing.get 6).duration 0 else .stopped

theorem State.settleFlushedPort_eq (s : State) (n : Slot) (p : Port) :
    s.settleFlushedPort n p = (s.setPort n p).setBank (s.bank.setTimer (.t6 n) (s.holdTimer p)) := by
  unfold State.settleFlushedPort State.holdTimer
  split
  · simp [State.startTimer, State.stopTimer, State.setBank, Bank.setTimer, Table.put_put, TimerId.entry]
  · rfl

theorem State.releaseFlush_eq (s : State) (n : Slot) :
    s.releaseFlush n = (((s.setFc (s.lostFc n)).setGu (s.lostGu n)).setPort n (s.port n).flushed).setBank
      (s.bank.setTimer (.t6 n) (s.holdTimer (s.port n).flushed)) := by
  unfold State.releaseFlush
  rw [State.fcLoss_eq, State.settleFlushedPort_eq]
  rfl

/-! ### A hand-over (05, R84 to R88) -/

theorem newestImage_append (last : KeyImage) (q : List Entry) (e : Entry) :
    newestImage last (q ++ [e]) = newestImage (newestImage last q) [e] := List.foldl_append

theorem newestImage_pointer (last : KeyImage) {e : Entry} (h : e.buttons?.isSome = true) : newestImage last [e] = last := by
  cases e
  · cases h
  · rfl
  · rfl

theorem newestImage_append_pointer (last : KeyImage) (q : List Entry) {e : Entry} (h : e.buttons?.isSome = true) :
    newestImage last (q ++ [e]) = newestImage last q := by
  rw [newestImage_append, newestImage_pointer _ h]

theorem newestImage_append_keyboard (last : KeyImage) (q : List Entry) (k : KeyImage) :
    newestImage last (q ++ [.keyboard k]) = k := newestImage_append last q _

/-- Only POINTER entries merge, and into one (05, R86, R87). -/
theorem Entry.merge?_pointer {x e m : Entry} (h : x.merge? e = some m) :
    x.buttons?.isSome = true ∧ e.buttons?.isSome = true ∧ m.buttons?.isSome = true := by
  cases x <;> cases e <;> simp only [Entry.merge?, reduceCtorEq] at h
  all_goals
    obtain ⟨-, hm⟩ := Option.ite_none_right_eq_some.mp h
    obtain rfl := Option.some.inj hm
    exact ⟨rfl, rfl, rfl⟩

theorem mergeNewest_eq_some {q q' : List Entry} {e : Entry} (h : mergeNewest q e = some q') :
    ∃ l x m, q = l ++ [x] ∧ x.merge? e = some m ∧ q' = l ++ [m] := by
  unfold mergeNewest at h
  split at h
  · cases h
  next x hx =>
    obtain ⟨m, hm, rfl⟩ := Option.map_eq_some_iff.mp h
    obtain ⟨l, rfl⟩ := List.getLast?_eq_some_iff.mp hx
    exact ⟨l, x, m, rfl, hm, by rw [List.dropLast_concat]⟩

/-- An eviction takes one POINTER entry. -/
theorem evictOldest_eq_some {last : Buttons} {q r : List Entry} (h : evictOldest last q = some r) :
    r.length + 1 = q.length ∧ ∀ k, newestImage k r = newestImage k q := by
  induction q generalizing last r with
  | nil => cases h
  | cons e q ih =>
    rw [evictOldest] at h
    split at h
    next hkeyboard =>
      obtain ⟨r', hr', rfl⟩ := Option.map_eq_some_iff.mp h
      obtain ⟨length, image⟩ := ih hr'
      exact ⟨by rw [List.length_cons, length, List.length_cons], fun k => image _⟩
    next x hx =>
      have pointer (k : KeyImage) : newestImage k (e :: q) = newestImage k q := by
        have : newestImage k [e] = k := newestImage_pointer k (by rw [hx]; rfl)
        exact congrArg (fun k => newestImage k q) this
      split at h
      · obtain rfl := Option.some.inj h
        exact ⟨rfl, fun k => (pointer k).symm⟩
      · obtain ⟨r', hr', rfl⟩ := Option.map_eq_some_iff.mp h
        obtain ⟨length, image⟩ := ih hr'
        exact ⟨by rw [List.length_cons, length, List.length_cons], fun k => image _⟩

theorem takeEntry_length {last : Buttons} {q q' : List Entry} {e : Entry} (h : takeEntry last q e = some q')
    (hq : q.length ≤ Config.reportCapacity) : q'.length ≤ Config.reportCapacity := by
  rcases takeEntry_cases h with hm | ⟨-, room, rfl⟩ | ⟨-, -, -, rfl⟩ | ⟨-, -, -, r, hr, rfl⟩
  · obtain ⟨l, x, m, rfl, -, rfl⟩ := mergeNewest_eq_some hm
    simpa using hq
  · rw [List.length_append]
    exact room
  · exact hq
  · rw [List.length_append]
    exact (evictOldest_eq_some hr).1 ▸ hq

theorem takeEntry_image_pointer {last : Buttons} {q q' : List Entry} {e : Entry} (h : takeEntry last q e = some q')
    (he : e.buttons?.isSome = true) (k : KeyImage) : newestImage k q' = newestImage k q := by
  rcases takeEntry_cases h with hm | ⟨-, -, rfl⟩ | ⟨-, -, -, rfl⟩ | ⟨-, -, -, r, hr, rfl⟩
  · obtain ⟨l, x, m, rfl, hmerge, rfl⟩ := mergeNewest_eq_some hm
    obtain ⟨hx, -, hm⟩ := Entry.merge?_pointer hmerge
    rw [newestImage_append_pointer _ _ hx, newestImage_append_pointer _ _ hm]
  · exact newestImage_append_pointer _ _ he
  · rfl
  · rw [newestImage_append_pointer _ _ he]
    exact (evictOldest_eq_some hr).2 k

theorem takeEntry_image_keyboard {last : Buttons} {q q' : List Entry} {i : KeyImage}
    (h : takeEntry last q (.keyboard i) = some q') (k : KeyImage) : newestImage k q' = i := by
  rcases takeEntry_cases h with hm | ⟨-, -, rfl⟩ | ⟨-, -, pure, -⟩ | ⟨-, -, -, r, -, rfl⟩
  · obtain ⟨l, x, m, -, hmerge, -⟩ := mergeNewest_eq_some hm
    cases (Entry.merge?_pointer hmerge).2.1
  · exact newestImage_append_keyboard _ _ _
  · cases pure
  · exact newestImage_append_keyboard _ _ _

/-- A POINTER entry handed over: the queue takes it, or a release flush follows. -/
theorem Evolves.pointerEntry (s : State) (n : Slot) (e : Entry) (he : e.buttons?.isSome = true) : Evolves b s (s.handOver n e) := by
  rcases s.handOver_cases n e with ⟨-, h⟩ | ⟨hlink, q, hq, h⟩ | ⟨-, -, h⟩ <;> rw [h]
  · exact .refl s
  · refine .settle s n _ ⟨fun ⟨length, responses, _, signalling⟩ =>
      ⟨takeEntry_length hq length, responses, fun off => absurd off hlink, signalling⟩,
      Nat.le_refl _, fun _ => takeEntry_image_pointer hq he _, fun h => h, fun h => h⟩ fun _ h => h
  · exact (Evolves.flush s n).trans (.mgi _ _)

/-- A release flush empties the sent image, whatever it was. -/
theorem State.setSent_self (s : State) (n : Slot) : s.setSent n (s.sent n) = s := by
  simp only [State.setSent, State.setFc, State.sent, Table.put_get]

theorem State.releaseFlush_setSent (s : State) (n : Slot) (k : KeyImage) : (s.setSent n k).releaseFlush n = s.releaseFlush n := by
  have fc : (s.setSent n k).lostFc n = s.lostFc n := by
    simp only [State.lostFc, State.setSent, State.setFc, Table.put_put]
    rfl
  have gu : (s.setSent n k).lostGu n = s.lostGu n := rfl
  rw [State.releaseFlush_eq, State.releaseFlush_eq, fc, gu]
  rfl

/-- The slot is told of the sent image `k`. -/
theorem Evolves.tell (s : State) (n : Slot) (k : KeyImage) (hk : b.typing = false → k = s.sent n)
    (hoff : s.link n = .off → s.sent n = KeyImage.empty → k = KeyImage.empty) : Evolves b s ((s.setSent n k).queueImage n) := by
  unfold State.queueImage
  rw [State.setSent_sent, if_pos rfl]
  rcases (s.setSent n k).handOver_cases n (.keyboard k) with ⟨hlink, h⟩ | ⟨hlink, q, hq, h⟩ | ⟨-, -, h⟩ <;> rw [h]
  · cases ht : b.typing with
    | true => exact .tellOff ht s n k hlink (hoff hlink)
    | false => exact (Evolves.refl s).of_eq (by rw [hk ht, State.setSent_self])
  · exact .told s n k q hk hlink (takeEntry_length hq) (takeEntry_image_keyboard hq _)
  · rw [State.releaseFlush_setSent]
    exact (Evolves.flush s n).trans (.mgi _ _)

theorem Evolves.requeue (s : State) (n : Slot) : Evolves b s (s.queueImage n) :=
  (Evolves.tell s n (s.sent n) (fun _ => rfl) fun _ => id).of_eq (by rw [State.setSent_self])

/-! ### Events, LEDs, flushes -/

theorem State.raiseEvent_evolves (s : State) (e : EventKind) : Evolves b s (s.raiseEvent e) := .mgi s _

theorem State.updateLeds_evolves (s : State) : Evolves b s s.updateLeds :=
  let image := s.ciu.compose_image s.composedLeds
  .ciu s _ image.2.2.1 image.2.2.2.1

theorem State.applyHoldPolicy_evolves (s : State) (n : Slot) : Evolves b s (s.applyHoldPolicy n) := by
  unfold State.applyHoldPolicy
  split
  · exact .refl s
  · exact .flush s n

/-! ### Wake sequences (06) -/

@[simp] theorem State.setWake_self (s : State) (n : Slot) : s.setWake n (s.wake n) = s := by
  simp [State.setWake, State.setWakes, State.wake]

theorem State.mayWait_of_link {s : State} {n : Slot} (h : s.link n ≠ .active) : s.MayWait n := fun hl => absurd hl h

theorem State.enterLinePulse_evolves (s : State) (n : Slot) (h : s.MayWait n) : Evolves b s (s.enterLinePulse n) := by
  simpa using Evolves.linePulse (b := b) s n (s.wake n) And.left h

theorem State.enterLineAwait_evolves (s : State) (n : Slot) (h : s.MayWait n) : Evolves b s (s.enterLineAwait n) := by
  simpa using Evolves.lineAwait (b := b) s n (s.wake n) And.left h

section Record
variable (s : State) (n : Slot) (w : WakeRecord) (hw : (s.wake n).Counted → w.attempts ≤ 8) (h : s.MayWait n)
include hw h

theorem State.setWake_enterFailed_evolves : Evolves b s ((s.setWake n w).enterFailed n) :=
  ((Evolves.failed s n w hw h).trans (raiseEvent_evolves _ _)).trans (applyHoldPolicy_evolves _ n)

theorem State.setWake_wakeExhausted_evolves : Evolves b s ((s.setWake n w).wakeExhausted n) := by
  unfold State.wakeExhausted
  split
  · exact .linePulse s n w hw h
  · exact s.setWake_enterFailed_evolves n w hw h

end Record

theorem State.enterFailed_evolves (s : State) (n : Slot) (h : s.MayWait n) : Evolves b s (s.enterFailed n) := by
  simpa using s.setWake_enterFailed_evolves (b := b) n (s.wake n) And.left h

theorem State.wakeExhausted_evolves (s : State) (n : Slot) (h : s.MayWait n) : Evolves b s (s.wakeExhausted n) := by
  simpa using s.setWake_wakeExhausted_evolves (b := b) n (s.wake n) And.left h

/-! ### A phase entered in place of another (06, R101) -/

theorem State.setPhase_setPhase (s : State) (n : Slot) (p q : Phase) : (s.setPhase n p).setPhase n q = s.setPhase n q := by
  simp only [State.setPhase, State.setWake_wake_same]
  simp only [State.setWake, State.setWakes, Table.put_put]

theorem State.stopWakeTimers_setPhase (s : State) (n : Slot) (p : Phase) :
    (s.setPhase n p).stopWakeTimers n = (s.stopWakeTimers n).setPhase n p := rfl

theorem State.stopWakeTimers_stopWakeTimers (s : State) (n : Slot) : (s.stopWakeTimers n).stopWakeTimers n = s.stopWakeTimers n := by
  simp [State.stopWakeTimers, State.stopTimer, State.setBank, Bank.setTimer, Table.put_put]

/-- Of a phase left at once nothing stays. -/
theorem State.phase_after_phase (s : State) (n : Slot) (p q : Phase) :
    (((s.stopWakeTimers n).setPhase n q).stopWakeTimers n).setPhase n p = (s.stopWakeTimers n).setPhase n p := by
  rw [State.stopWakeTimers_setPhase, State.stopWakeTimers_stopWakeTimers, State.setPhase_setPhase]

theorem State.enterLinePulse_after_phase (s : State) (n : Slot) (q : Phase) :
    ((s.stopWakeTimers n).setPhase n q).enterLinePulse n = s.enterLinePulse n := by
  simp only [State.enterLinePulse, State.phase_after_phase]

theorem State.enterFailed_after_phase (s : State) (n : Slot) (q : Phase) :
    ((s.stopWakeTimers n).setPhase n q).enterFailed n = s.enterFailed n := by
  simp only [State.enterFailed, State.phase_after_phase]

theorem State.wakeExhausted_after_phase (s : State) (n : Slot) (q : Phase) :
    ((s.stopWakeTimers n).setPhase n q).wakeExhausted n = s.wakeExhausted n := by
  unfold State.wakeExhausted
  rw [State.enterLinePulse_after_phase, State.enterFailed_after_phase]
  rfl

/-- The port takes the remote wakeup. -/
theorem State.enterSignal_of_canSignal {s : State} {n : Slot} (h : (s.port n).canSignal = true) :
    s.enterSignal n = ((s.stopWakeTimers n).setPhase n .signal).settlePort n (s.port n).startSignal := by
  simp only [State.enterSignal, h, if_true]
  rfl

/-- The port refuses because the slot is ACTIVE. -/
theorem State.enterSignal_of_active {s : State} {n : Slot} (h : s.link n = .active) :
    s.enterSignal n = ((s.stopWakeTimers n).setPhase n .idle).raiseEvent .wakeDone := by
  have refused : (s.port n).canSignal = false := by
    simp only [State.link] at h
    simp [Port.canSignal, h]
  have running : ((s.stopWakeTimers n).setPhase n .signal |>.wake n).phase ≠ .idle := by simp [State.setPhase]
  simp only [State.enterSignal, refused, h, if_true, State.wakeOnActive, running, if_false, State.phase_after_phase]
  rfl

/-- The port refuses in another link state. -/
theorem State.enterSignal_of_refused {s : State} {n : Slot} (hlink : s.link n ≠ .active) (h : (s.port n).canSignal = false) :
    s.enterSignal n = s.wakeExhausted n := by
  simp only [State.enterSignal, h, hlink, if_false, State.wakeExhausted_after_phase]
  rfl

theorem State.setWake_enterSignal_evolves (s : State) (n : Slot) (w : WakeRecord) (hw : w.attempts ≤ 7) (h : s.MayWait n) :
    Evolves b s ((s.setWake n w).enterSignal n) := by
  have most : (s.wake n).Counted → w.attempts ≤ 8 := fun _ => by omega
  by_cases hc : (s.port n).canSignal = true
  · exact (Evolves.signal s n w hw hc).of_eq (State.enterSignal_of_canSignal (s := s.setWake n w) hc)
  · by_cases hl : s.link n = .active
    · rw [State.enterSignal_of_active (s := s.setWake n w) hl]
      exact (Evolves.idle s n w most).trans (raiseEvent_evolves _ _)
    · rw [State.enterSignal_of_refused (s := s.setWake n w) hl (by simpa using hc)]
      exact s.setWake_wakeExhausted_evolves n w most h

/-! ### Triggers (06, R99) -/

theorem State.startSequence_evolves (s : State) (n : Slot) (w : WakeRecord) (hw : w.attempts = 0) :
    Evolves b s ((s.setWake n w).startSequence n).1 ∨ s.link n = .active ∨ s.link n = .resuming := by
  have most : (s.wake n).Counted → w.attempts ≤ 8 := fun _ => by omega
  have few : w.attempts ≤ 7 := by omega
  have hlink : (s.setWake n w).link n = s.link n := rfl
  unfold State.startSequence
  rw [hlink]
  cases hl : s.link n
  case active => exact .inr (.inl rfl)
  case resuming => exact .inr (.inr rfl)
  all_goals
    have may : s.MayWait n := mayWait_of_link (by simp [hl])
    refine .inl ?_
  case attached => exact .lineAwait s n w most may
  case suspended =>
    dsimp only
    split
    · exact s.setWake_enterSignal_evolves n w few may
    · split
      · exact .linePulse s n w most may
      · exact s.setWake_enterFailed_evolves n w most may
  case off =>
    dsimp only
    split
    · exact .linePulse s n w most may
    · exact s.setWake_enterFailed_evolves n w most may

theorem State.trigger_evolves (s : State) (n : Slot) (c : Cause) : Evolves b s (s.trigger n c).1 := by
  rcases s.trigger_cases n c with ⟨-, h⟩ | ⟨-, -, h⟩ | ⟨hactive, hresuming, -, h⟩ <;> rw [h]
  · exact .refl s
  · exact .refl s
  · rcases s.startSequence_evolves (b := b) n { s.wake n with attempts := 0, cause := c } rfl with h | h | h
    · exact h
    · exact absurd h hactive
    · exact absurd h hresuming

theorem State.wakeOnFocus_evolves (s : State) (n : Slot) : Evolves b s (s.wakeOnFocus n) := by
  unfold State.wakeOnFocus
  split
  · exact s.trigger_evolves n _
  · exact .refl s

theorem State.wakeOnInput_evolves (s : State) (n : Slot) : Evolves b s (s.wakeOnInput n) := by
  unfold State.wakeOnInput
  split
  · exact s.trigger_evolves n _
  · exact .refl s

theorem State.wakeAll_evolves (s : State) : Evolves b s s.wakeAll.1 := by
  suffices h : ∀ (l : List Slot) (a : State × List WakeOutcome), Evolves b a.1 (l.foldl (fun (acc : State × List WakeOutcome) n =>
      let r := acc.1.trigger n .wakeAll
      (r.1, acc.2 ++ [r.2])) a).1 from h allSlots (s, [])
  intro l
  induction l with
  | nil => exact fun a => .refl _
  | cons n l ih => exact fun a => (a.1.trigger_evolves n .wakeAll).trans (ih (_, _))

theorem State.wakeOnBusReset_evolves (s : State) (n : Slot) : Evolves b s (s.wakeOnBusReset n) := by
  unfold State.wakeOnBusReset
  cases hp : (s.wake n).phase
  case signal | await | linePulse => exact s.enterLineAwait_evolves n fun _ => by simp [hp]
  case lineAwait | idle | failed => exact .refl s

theorem State.wakeOnPowerLost_evolves (s : State) (n : Slot) : Evolves b s (s.wakeOnPowerLost n) := by
  unfold State.wakeOnPowerLost
  cases hp : (s.wake n).phase
  case signal | await => exact s.wakeExhausted_evolves n fun _ => by simp [hp]
  case linePulse | lineAwait | idle | failed => exact .refl s

/-! ### Expiries and the end of signalling (06, R101 to R104, R111) -/

theorem State.signallingEnds_evolves (s : State) (n : Slot) : Evolves b s (s.signallingEnds n) := by
  have leads : (s.port n).Leads { s.port n with signalling := .stopped } :=
    ⟨fun ⟨hq, hr, ho, _⟩ => ⟨hq, hr, fun h => by rw [ho h]; rfl, nofun⟩, Nat.le_refl _, fun _ => rfl, id, id⟩
  unfold State.signallingEnds
  split
  · dsimp only
    split
    · exact .await s n ‹_›
    · exact .put s n _ leads (fun _ => id) rfl
  · exact .refl s

/-- Stopping T3, T4 or T5 before a phase is entered changes nothing: entering stops all three. -/
theorem State.stopTimer_stopWakeTimers (s : State) (n : Slot) {i : TimerId} (h : i = .t3 n ∨ i = .t4 n ∨ i = .t5 n) :
    (s.stopTimer i).stopWakeTimers n = s.stopWakeTimers n := by
  rcases h with rfl | rfl | rfl <;>
    simp [State.stopWakeTimers, State.stopTimer, State.setBank, Bank.setTimer, Table.put_put]

theorem State.stopTimer_enterLinePulse (s : State) (n : Slot) {i : TimerId} (h : i = .t3 n ∨ i = .t4 n ∨ i = .t5 n) :
    (s.stopTimer i).enterLinePulse n = s.enterLinePulse n := by
  simp only [State.enterLinePulse, s.stopTimer_stopWakeTimers n h]

theorem State.stopTimer_enterLineAwait (s : State) (n : Slot) {i : TimerId} (h : i = .t3 n ∨ i = .t4 n ∨ i = .t5 n) :
    (s.stopTimer i).enterLineAwait n = s.enterLineAwait n := by
  simp only [State.enterLineAwait, s.stopTimer_stopWakeTimers n h]

theorem State.stopTimer_enterFailed (s : State) (n : Slot) {i : TimerId} (h : i = .t3 n ∨ i = .t4 n ∨ i = .t5 n) :
    (s.stopTimer i).enterFailed n = s.enterFailed n := by
  simp only [State.enterFailed, s.stopTimer_stopWakeTimers n h]

theorem State.stopTimer_wakeExhausted (s : State) (n : Slot) {i : TimerId} (h : i = .t3 n ∨ i = .t4 n ∨ i = .t5 n) :
    (s.stopTimer i).wakeExhausted n = s.wakeExhausted n := by
  unfold State.wakeExhausted
  rw [s.stopTimer_enterLinePulse n h, s.stopTimer_enterFailed n h]
  rfl

theorem State.stopTimer_enterSignal (s : State) (n : Slot) {i : TimerId} (h : i = .t3 n ∨ i = .t4 n ∨ i = .t5 n) :
    (s.stopTimer i).enterSignal n = s.enterSignal n := by
  simp only [State.enterSignal, s.stopTimer_stopWakeTimers n h]
  rfl

theorem State.endRemoteWakeup_evolves (s : State) (n : Slot) : Evolves b s (s.endRemoteWakeup n) := by
  unfold State.endRemoteWakeup
  split
  · have leads : (s.port n).Leads { s.port n with link := .suspended, signalling := .stopped } :=
      ⟨fun ⟨hq, hr, _, _⟩ => ⟨hq, hr, by simp, by simp⟩, Nat.le_refl _, fun _ => rfl, by simp, by simp⟩
    have notActive : (s.port n).link ≠ .active := by simp [show (s.port n).link = .resuming from ‹_›]
    exact .settle s n _ leads fun _ h => absurd h notActive
  · exact .refl s

theorem State.settlePort_stopTimer (s : State) (n : Slot) (p : Port) :
    (s.stopTimer (.t3 n)).settlePort n p = (s.settlePort n p).stopTimer (.t3 n) := by
  have waits : ((s.stopTimer (.t3 n)).port n).waits = (s.port n).waits := rfl
  unfold State.settlePort
  dsimp only
  rw [waits]
  by_cases hp : p.waits = true <;> by_cases hs : (s.port n).waits = true <;> simp only [hp, hs, if_true] <;> rfl

theorem State.endRemoteWakeup_stopTimer (s : State) (n : Slot) :
    (s.stopTimer (.t3 n)).endRemoteWakeup n = (s.endRemoteWakeup n).stopTimer (.t3 n) := by
  have link : (s.stopTimer (.t3 n)).link n = s.link n := rfl
  unfold State.endRemoteWakeup
  rw [link]
  split
  · exact s.settlePort_stopTimer n _
  · rfl

@[simp] theorem State.endRemoteWakeup_wake (s : State) (n m : Slot) : (s.endRemoteWakeup n).wake m = s.wake m := by
  simp only [State.endRemoteWakeup, State.wake]
  split <;> simp

theorem SlotRecord.retries_le (r : SlotRecord) : r.retries ≤ 8 := by
  have : r.retriesCode.toNat ≤ 3 := by have := r.retriesCode.isLt; omega
  calc 2 ^ r.retriesCode.toNat ≤ 2 ^ 3 := Nat.pow_le_pow_right (by decide) this
    _ = 8 := rfl

/-- The state with one more attempt counted for slot `n`, its remote wakeup ended (06, R102). -/
def State.counted (s : State) (n : Slot) : State :=
  (s.endRemoteWakeup n).setWake n { s.wake n with attempts := (s.wake n).attempts + 1 }

@[simp] theorem State.endRemoteWakeup_tables (s : State) (n : Slot) : (s.endRemoteWakeup n).tables = s.tables :=
  State.tables_eq_of_outer_eq (s.endRemoteWakeup_outer n)

/-- A T3 expiry in AWAIT: the attempt is counted, and the port signals again or the attempts are exhausted (06, R102). -/
theorem State.t3Expires_of_await {s : State} {n : Slot} (hdue : (s.timer (.t3 n)).due = true) (hphase : (s.wake n).phase = .await) :
    s.t3Expires n = if (s.wake n).attempts + 1 < (s.slotRecord n).retries then (s.counted n).enterSignal n
      else (s.counted n).wakeExhausted n := by
  have record : (s.endRemoteWakeup n).slotRecord n = s.slotRecord n := by simp [State.slotRecord]
  have stopped : ((s.stopTimer (.t3 n)).endRemoteWakeup n).setWake n
      { ((s.stopTimer (.t3 n)).endRemoteWakeup n).wake n with
        attempts := (((s.stopTimer (.t3 n)).endRemoteWakeup n).wake n).attempts + 1 } = (s.counted n).stopTimer (.t3 n) := by
    rw [State.endRemoteWakeup_wake, State.endRemoteWakeup_stopTimer]
    rfl
  have phase : ((s.stopTimer (.t3 n)).wake n).phase = .await := hphase
  have attempts : (((s.counted n).stopTimer (.t3 n)).wake n).attempts = (s.wake n).attempts + 1 := by
    simp [State.counted]
  have retries : ((s.counted n).stopTimer (.t3 n)).slotRecord n = s.slotRecord n := record
  unfold State.t3Expires
  simp only [hdue, phase, if_true, stopped, attempts, retries, State.stopTimer_enterSignal _ n (.inl rfl),
    State.stopTimer_wakeExhausted _ n (.inl rfl)]

theorem State.t3Expires_evolves (s : State) (n : Slot) : Evolves b s (s.t3Expires n) := by
  by_cases hdue : (s.timer (.t3 n)).due = true
  case neg => simpa [State.t3Expires, hdue] using Evolves.refl s
  by_cases hphase : (s.wake n).phase = .await
  case neg =>
    have phase : ¬ ((s.stopTimer (.t3 n)).wake n).phase = .await := hphase
    simp only [State.t3Expires, hdue, phase, if_true, if_false]
    exact .stop s _ hphase
  have may : (s.endRemoteWakeup n).MayWait n := fun _ => by simp [hphase]
  have retries := (s.slotRecord n).retries_le
  rw [State.t3Expires_of_await hdue hphase]
  refine (s.endRemoteWakeup_evolves n).trans ?_
  split
  · exact State.setWake_enterSignal_evolves _ n _ (by dsimp only; omega) may
  · refine State.setWake_wakeExhausted_evolves _ n _ (fun ⟨_, few⟩ => ?_) may
    have := few (by simp [hphase])
    simp only [State.endRemoteWakeup_wake] at this
    dsimp only
    omega

theorem State.t4Expires_evolves (s : State) (n : Slot) : Evolves b s (s.t4Expires n) := by
  unfold State.t4Expires
  split
  case isFalse => exact .refl s
  dsimp only
  split
  case isTrue h =>
    have phase : (s.wake n).phase = .linePulse := h
    rw [s.stopTimer_enterLineAwait n (.inr (.inl rfl))]
    exact s.enterLineAwait_evolves n fun _ => by simp [phase]
  case isFalse h => exact .stop s _ h

theorem State.t5Expires_evolves (s : State) (n : Slot) : Evolves b s (s.t5Expires n) := by
  unfold State.t5Expires
  split
  case isFalse => exact .refl s
  dsimp only
  split
  case isTrue h =>
    have phase : (s.wake n).phase = .lineAwait := h
    rw [s.stopTimer_enterFailed n (.inr (.inr rfl))]
    exact s.enterFailed_evolves n fun _ => by simp [phase]
  case isFalse h => exact .stop s _ h

/-- A release flush stops T6 itself. -/
theorem State.stopTimer_releaseFlush (s : State) (n : Slot) : (s.stopTimer (.t6 n)).releaseFlush n = s.releaseFlush n := by
  have fc : (s.stopTimer (.t6 n)).lostFc n = s.lostFc n := rfl
  have gu : (s.stopTimer (.t6 n)).lostGu n = s.lostGu n := rfl
  have timer (p : Port) : (s.stopTimer (.t6 n)).holdTimer p = s.holdTimer p := rfl
  have bank (w : Wait) : (s.stopTimer (.t6 n)).bank.setTimer (.t6 n) w = s.bank.setTimer (.t6 n) w := by
    simp [State.stopTimer, State.setBank, Bank.setTimer, Table.put_put]
  rw [State.releaseFlush_eq, State.releaseFlush_eq, fc, gu, timer, bank]
  rfl

theorem State.t6Expires_evolves (s : State) (n : Slot) : Evolves b s (s.t6Expires n) := by
  unfold State.t6Expires State.applyHoldPolicy
  split
  case isFalse => exact .refl s
  have record : (s.stopTimer (.t6 n)).slotRecord n = s.slotRecord n := rfl
  dsimp only
  rw [record]
  cases (s.slotRecord n).policy
  case keep =>
    dsimp only
    split
    case isTrue h => exact (Evolves.start s (.t6 n) h).of_eq (by
      simp [State.startTimer, State.stopTimer, State.setBank, Bank.setTimer, Table.put_put])
    case isFalse h => exact .stop s _ h
  case discard =>
    dsimp only
    rw [State.stopTimer_releaseFlush]
    split
    case isTrue h => exact (Evolves.flush s n).trans (.start _ _ h)
    case isFalse => exact .flush s n

/-! ### The focus and the pointer (01, R18; 03) -/

theorem State.focusChange_evolves (s : State) (t : Option Slot) : Evolves b s (s.focusChange t) := by
  unfold State.focusChange
  split
  · exact .refl s
  · have changed := Evolves.focus (b := b) s t ‹_›
    cases t
    · exact changed
    · exact changed.trans (wakeOnFocus_evolves _ _)

theorem State.setDelivered_evolves (s : State) (n : Slot) (x : Buttons) : Evolves b s (s.setDelivered n x) := .gu s _ id

theorem State.releaseButtons_evolves (s : State) (n : Option Slot) : Evolves b s (s.releaseButtons n) := by
  unfold State.releaseButtons
  split
  · exact .refl s
  · split
    · exact .refl s
    · exact (setDelivered_evolves s _ 0).trans (.pointerEntry _ _ _ rfl)

theorem Gu.bounded_put {g : Gu} (h : g.Bounded) (n : Slot) {x y : Int} (hx : -2047 ≤ x ∧ x ≤ 2047) (hy : -2047 ≤ y ∧ y ≤ 2047) :
    ({ g with accX := g.accX.put n x, accY := g.accY.put n y } : Gu).Bounded := by
  obtain ⟨x0, x1, y0, y1, acc⟩ := h
  refine ⟨x0, x1, y0, y1, fun m => ?_⟩
  obtain ⟨a, b, c, d⟩ := acc m
  simp only [Table.get_put]
  split
  · exact ⟨hx.1, hx.2, hy⟩
  · exact ⟨a, b, c, d⟩

theorem Gu.bounded_of_still {g x : Gu} (h : g.Bounded) (hrx : x.rx = 0) (hry : x.ry = 0) (hx : x.accX = g.accX)
    (hy : x.accY = g.accY) : x.Bounded := by
  obtain ⟨-, -, -, -, acc⟩ := h
  rw [Gu.Bounded, hrx, hry, hx, hy]
  exact ⟨by decide, by decide, by decide, by decide, acc⟩

theorem State.clearAccumulators_evolves (s : State) (n : Slot) : Evolves b s (s.clearAccumulators n) :=
  .gu s _ fun h => Gu.bounded_put h n (by decide) (by decide)

theorem State.locate_evolves (s : State) : Evolves b s s.locate := .gu s _ id

theorem State.moveTo_evolves (s : State) (x y : Int) : Evolves b s (s.moveTo x y) :=
  (Evolves.gu s { s.gu with px := x, py := y } id).trans (locate_evolves _)

/-- The absolute entry a relocation to (x, y) hands to the tile it enters (03, R57). -/
def State.handPlace (s : State) (x y : Int) : State :=
  match s.delivers with
  | some (i, n) =>
    if s.tileMode i = .absolute then s.handOver n (.abs 0 (s.translate i x y).1 (s.translate i x y).2 0) else s
  | none => s

/-- The accumulators of a pointer slot that a relocation enters become 0 (03, R57). -/
def State.clearEntered (s : State) (before : Option Slot) : State :=
  match s.gu.pointerSlot with
  | some n => if before = some n then s else s.clearAccumulators n
  | none => s

/-- The held buttons suppressed and the residues 0 (03, R57). -/
def State.suppressButtons (s : State) : State :=
  s.setGu { s.gu with suppressed := s.gu.suppressed ||| s.ciu.buttons, rx := 0, ry := 0 }

theorem State.relocate_eq (s : State) (x y : Int) :
    s.relocate x y = ((((s.releaseButtons s.gu.pointerSlot).suppressButtons).moveTo x y).clearEntered s.gu.pointerSlot).handPlace x y :=
  rfl

theorem State.handPlace_evolves (s : State) (x y : Int) : Evolves b s (s.handPlace x y) := by
  unfold State.handPlace
  split
  · split
    · exact .pointerEntry _ _ _ rfl
    · exact .refl _
  · exact .refl _

theorem State.clearEntered_evolves (s : State) (before : Option Slot) : Evolves b s (s.clearEntered before) := by
  unfold State.clearEntered
  split
  · split
    · exact .refl s
    · exact s.clearAccumulators_evolves _
  · exact .refl s

theorem State.suppressButtons_evolves (s : State) : Evolves b s s.suppressButtons :=
  .gu s _ fun h => Gu.bounded_of_still h rfl rfl rfl rfl

theorem State.relocate_evolves (s : State) (x y : Int) : Evolves b s (s.relocate x y) := by
  rw [State.relocate_eq]
  exact ((((s.releaseButtons_evolves _).trans (suppressButtons_evolves _)).trans (moveTo_evolves _ x y)).trans
    (clearEntered_evolves _ _)).trans (handPlace_evolves _ x y)

theorem State.relocateHome_evolves (s : State) (n : Slot) : Evolves b s (s.relocateHome n) := by
  unfold State.relocateHome
  split
  · split
    · exact s.relocate_evolves _ _
    · exact .refl s
  · exact .refl s

theorem State.followPointer_evolves (s : State) (x : Option Slot) : Evolves b s (s.followPointer x) := by
  unfold State.followPointer
  split
  · exact s.focusChange_evolves _
  · exact .refl s

theorem State.reevaluateTo_evolves (s : State) (x y : Int) : Evolves b s (s.reevaluateTo x y) :=
  (s.relocate_evolves x y).trans (followPointer_evolves _ _)

theorem State.reevaluate_evolves (s : State) : Evolves b s s.reevaluate := by
  unfold State.reevaluate
  split <;> exact s.reevaluateTo_evolves _ _

theorem State.select_evolves (s : State) (n : Slot) : Evolves b s (s.select n) := by
  unfold State.select
  refine Evolves.trans ?_ (relocateHome_evolves _ n)
  split
  · exact s.wakeOnFocus_evolves n
  · exact s.focusChange_evolves _

theorem State.selectFirst_evolves (s : State) (order : List Slot) : Evolves b s (s.selectFirst order) := by
  unfold State.selectFirst
  split
  · exact s.select_evolves _
  · exact .refl s

/-! ### A pointer arrival (03, R47) -/

theorem State.crossing_evolves (s : State) (x y : Option Slot) (pressed : Buttons) : Evolves b s (s.crossing x y pressed) := by
  unfold State.crossing
  have left := (s.releaseButtons_evolves (b := b) x).trans (.gu _ { (s.releaseButtons x).gu with suppressed :=
    (s.releaseButtons x).gu.suppressed ||| ((s.releaseButtons x).ciu.buttons &&& ~~~pressed) } id)
  dsimp only
  split
  · exact left
  · have entered := left.trans (clearAccumulators_evolves _ ‹_›)
    split
    · exact entered.trans (focusChange_evolves _ _)
    · exact entered

theorem State.feedRelative_evolves (s : State) (n : Slot) (mx my : Int) : Evolves b s (s.feedRelative n mx my).1 :=
  .gu s _ fun h => Gu.bounded_put h n (newAccumulator_bounds _ _ _) (newAccumulator_bounds _ _ _)

theorem State.handPointer_evolves (s : State) (n : Slot) (e : Entry) (h : e.buttons?.isSome = true) :
    Evolves b s (s.handPointer n e) := by
  unfold State.handPointer
  have handed := (s.setDelivered_evolves (b := b) n s.deliverableButtons).trans (.pointerEntry _ n e h)
  dsimp only
  split
  · exact handed
  · exact handed.trans (wakeOnInput_evolves _ n)

theorem State.deliverArrival_evolves (s : State) (i : TileIx) (n : Slot) (mx my wheel : Int) (entered : Bool) :
    Evolves b s (s.deliverArrival i n mx my wheel entered) := by
  unfold State.deliverArrival
  dsimp only
  split
  · split
    · exact s.handPointer_evolves n _ rfl
    · exact .refl s
  · split
    · exact (s.feedRelative_evolves n mx my).trans (handPointer_evolves _ n _ rfl)
    · exact s.feedRelative_evolves n mx my
  · exact .refl s

theorem State.consumeArrival_evolves (s : State) (pressed : Buttons) : Evolves b s (s.consumeArrival pressed) := by
  unfold State.consumeArrival
  have consumed : Evolves b s (s.setGu { s.gu with suppressed := s.gu.suppressed ||| pressed }) := .gu s _ id
  dsimp only
  split
  · split
    · exact consumed.trans (wakeOnInput_evolves _ _)
    · exact consumed
  · exact consumed

theorem State.finishArrival_evolves (s : State) (a : Arrival) (mx my : Int) (crossed : Bool) :
    Evolves b s (s.finishArrival a mx my crossed) := by
  unfold State.finishArrival
  split
  · split
    · exact .refl s
    · exact s.deliverArrival_evolves _ _ _ _ _ _
  · exact s.consumeArrival_evolves _

/-- The state with the residues `rx` and `ry`. -/
def State.setResidues (s : State) (rx ry : Int) : State := s.setGu { s.gu with rx := rx, ry := ry }

/-- The step from the pointer slot to the slot of another place, where they differ. -/
def State.crossTo (s : State) (t : Option Slot) (pressed : Buttons) : State :=
  if decide (t ≠ s.gu.pointerSlot) then s.crossing s.gu.pointerSlot t pressed else s

theorem State.crossTo_evolves (s : State) (t : Option Slot) (pressed : Buttons) : Evolves b s (s.crossTo t pressed) := by
  unfold State.crossTo
  split
  · exact crossing_evolves _ _ _ _
  · exact .refl _

theorem State.setResidues_evolves (s : State) {rx ry : Int} (hx : -15 ≤ rx ∧ rx ≤ 15) (hy : -15 ≤ ry ∧ ry ≤ 15) :
    Evolves b s (s.setResidues rx ry) :=
  .gu s _ fun ⟨_, _, _, _, acc⟩ => ⟨hx.1, hx.2, hy.1, hy.2, acc⟩

/-- Where P goes on an arrival (03, R47, R48). -/
def State.arrivalPlace (s : State) (a : Arrival) : Int × Int :=
  s.judge a.released (clampInto Config.planeMin Config.planeMax (s.gu.px + computedMove a.dx s.tables.deskSpeed s.gu.rx))
    (clampInto Config.planeMin Config.planeMax (s.gu.py + computedMove a.dy s.tables.deskSpeed s.gu.ry))

/-- The residue of an axis that moved by `m` (03, R48; 04, R63). -/
def residueAfter (m d speed r : Int) : Int := if m = computedMove d speed r then newResidue d speed r else 0

/-- The state with an arrival's residues. -/
def State.residuesOf (s : State) (a : Arrival) : State :=
  s.setResidues (residueAfter ((s.arrivalPlace a).1 - s.gu.px) a.dx s.tables.deskSpeed s.gu.rx)
    (residueAfter ((s.arrivalPlace a).2 - s.gu.py) a.dy s.tables.deskSpeed s.gu.ry)

/-- The slot of the place that P goes to. -/
def State.arrivalSlot (s : State) (a : Arrival) : Option Slot :=
  s.slotOfTile (s.cmp.active.tileAt (s.arrivalPlace a).1 (s.arrivalPlace a).2)

theorem State.moveArrival_eq (s : State) (a : Arrival) :
    s.moveArrival a = ((((s.residuesOf a).crossTo (s.arrivalSlot a) a.pressed).moveTo (s.arrivalPlace a).1 (s.arrivalPlace a).2)
      |>.finishArrival a ((s.arrivalPlace a).1 - s.gu.px) ((s.arrivalPlace a).2 - s.gu.py)
        (decide (s.arrivalSlot a ≠ s.gu.pointerSlot))) := rfl

theorem residueAfter_bounds (m d speed r : Int) : -15 ≤ residueAfter m d speed r ∧ residueAfter m d speed r ≤ 15 := by
  have := newResidue_bounds d speed r
  unfold residueAfter
  split <;> omega

theorem State.residuesOf_evolves (s : State) (a : Arrival) : Evolves b s (s.residuesOf a) :=
  s.setResidues_evolves (residueAfter_bounds _ _ _ _) (residueAfter_bounds _ _ _ _)

theorem State.moveArrival_evolves (s : State) (a : Arrival) : Evolves b s (s.moveArrival a) := by
  rw [State.moveArrival_eq]
  exact ((s.residuesOf_evolves a).trans (crossTo_evolves _ _ _)).trans
    ((moveTo_evolves _ _ _).trans (finishArrival_evolves _ _ _ _ _))

theorem State.pointerArrival_evolves (s : State) (a : Arrival) : Evolves b s (s.pointerArrival a) := by
  unfold State.pointerArrival
  have released : Evolves b s (s.setGu { s.gu with suppressed := s.gu.suppressed &&& ~~~a.released }) := .gu s _ id
  dsimp only
  split
  · exact released.trans (moveArrival_evolves _ a)
  · refine (released.trans (.gu _ _ ?_)).trans (consumeArrival_evolves _ _)
    exact fun h => Gu.bounded_of_still h rfl rfl rfl rfl

theorem State.setButtons_evolves (s : State) (x : Buttons) : Evolves b s (s.setCiu { s.ciu with buttons := x }) :=
  .ciu s _ rfl rfl

theorem State.buttonArrival_evolves (s : State) (x : Buttons) (dx dy wheel : Int) :
    Evolves b s (s.buttonArrival x dx dy wheel) := by
  unfold State.buttonArrival
  exact (s.setButtons_evolves x).trans (pointerArrival_evolves _ _)

theorem State.guLoss_evolves (s : State) (n : Slot) : Evolves b s (s.guLoss n) := .gu s _ id

theorem State.guLinkReset_evolves (s : State) (n : Slot) : Evolves b s (s.guLinkReset n) :=
  (s.guLoss_evolves n).trans (clearAccumulators_evolves _ n)

theorem State.guInputRemoved_evolves (s : State) (n : Slot) : Evolves b s (s.guInputRemoved n) := by
  unfold State.guInputRemoved
  split
  · exact .refl s
  · exact (s.guLoss_evolves n).trans (.pointerEntry _ n _ rfl)

end Sys2Proof.Machine


/-! More operations, each an evolution of the state: attention, the Compositor, and what the console keyboard does. -/

namespace Sys2Proof.Machine

variable {b : Mode}

/-! ### Attention (07) -/

theorem pairwise_removeAlert {l : List Alert} {R : Alert → Alert → Prop} (n : Slot) (h : l.Pairwise R) :
    (removeAlert n l).Pairwise R := h.sublist List.filter_sublist

theorem nodup_removeAlert {l : List Alert} (n : Slot) (h : (l.map (·.slot)).Nodup) : ((removeAlert n l).map (·.slot)).Nodup :=
  h.sublist (List.filter_sublist.map _)

/-- An alert of a slot that has none joins the pending set once. -/
theorem nodup_insertAlert {a : Alert} {l : List Alert} (hnew : ∀ x ∈ l, x.slot ≠ a.slot) (h : (l.map (·.slot)).Nodup) :
    ((insertAlert a l).map (·.slot)).Nodup := by
  induction l with
  | nil => simp [insertAlert]
  | cons c cs ih =>
    obtain ⟨headNew, tailNew⟩ := List.forall_mem_cons.mp hnew
    rw [List.map_cons, List.nodup_cons] at h
    rw [insertAlert]
    split
    · rw [List.map_cons, List.nodup_cons]
      refine ⟨fun hmem => ?_, by simpa using h⟩
      obtain ⟨x, hx, hslot⟩ := List.mem_map.mp hmem
      exact hnew x hx hslot
    · rw [List.map_cons, List.nodup_cons]
      refine ⟨fun hmem => ?_, ih tailNew h.2⟩
      obtain ⟨x, hx, hslot⟩ := List.mem_map.mp hmem
      rcases mem_insertAlert.mp hx with old | rfl
      · exact h.1 (List.mem_map.mpr ⟨x, old, hslot⟩)
      · exact headNew hslot.symm

namespace Atu.Lawful

variable {a : Atu}

/-- A slot's pending alert goes. -/
theorem remove (h : a.Lawful) (n : Slot) : ({ a with alerts := removeAlert n a.alerts } : Atu).Lawful := by
  obtain ⟨order, once, rising, slots, apart⟩ := h
  exact ⟨pairwise_removeAlert n order, nodup_removeAlert n once, rising, slots,
    fun x hx => apart x (mem_removeAlert.mp hx).1⟩

/-- An alert of a slot that is neither pending nor attended joins. -/
theorem insert (h : a.Lawful) {x : Alert} (hnew : ∀ y ∈ a.alerts, y.slot ≠ x.slot) (hstack : ∀ e ∈ a.stack, x.slot ≠ e.slot) :
    ({ a with alerts := insertAlert x a.alerts } : Atu).Lawful := by
  obtain ⟨order, once, rising, slots, apart⟩ := h
  refine ⟨pairwise_insertAlert hnew order, nodup_insertAlert hnew once, rising, slots, fun y hy => ?_⟩
  rcases mem_insertAlert.mp hy with old | rfl
  · exact apart y old
  · exact hstack

/-- A pending entry takes a new level (07, R118). -/
theorem relevel (h : a.Lawful) (n : Slot) (l : Fin 4) : (a.relevel n l).Lawful := by
  unfold Atu.relevel
  split
  case isFalse => exact h
  case isTrue pending =>
    obtain ⟨y, hy, hslot⟩ := List.any_eq_true.mp pending
    have apart := h.2.2.2.2 y hy
    refine Atu.Lawful.insert (h.remove n) (x := ⟨n, l⟩) (fun z hz => (mem_removeAlert.mp hz).2) fun e he => ?_
    rw [show (⟨n, l⟩ : Alert).slot = y.slot from (of_decide_eq_true hslot).symm]
    exact apart e he

/-- The top of the stack goes. -/
theorem pop (h : a.Lawful) {top : Attended} {rest : List Attended} (hs : a.stack = top :: rest) :
    ({ a with stack := rest } : Atu).Lawful := by
  obtain ⟨order, once, rising, slots, apart⟩ := h
  rw [hs] at rising slots apart
  refine ⟨order, once, (List.pairwise_cons.mp rising).2, ?_, fun x hx e he => apart x hx e (.tail _ he)⟩
  rw [List.map_cons, List.nodup_cons] at slots
  exact slots.2

/-- A showing alert is taken onto the stack (07, R119). -/
theorem attend (h : a.Lawful) {x : Alert} (hx : x ∈ a.alerts) (hshowing : a.showing x.level = true) (f : Option Slot)
    (px py : Int) :
    (⟨removeAlert x.slot a.alerts, ⟨x.slot, x.level, f, px, py⟩ :: a.stack⟩ : Atu).Lawful := by
  obtain ⟨order, once, rising, slots, apart⟩ := h
  refine ⟨pairwise_removeAlert _ order, nodup_removeAlert _ once, List.pairwise_cons.mpr ⟨fun e he => ?_, rising⟩, ?_,
    fun y hy e he => ?_⟩
  · unfold Atu.showing at hshowing
    cases hs : a.stack with
    | nil => rw [hs] at he; cases he
    | cons top rest =>
      rw [hs] at hshowing he rising
      have above : top.level < x.level := of_decide_eq_true hshowing
      rcases List.mem_cons.mp he with rfl | lower
      · exact above
      · exact lt_trans ((List.pairwise_cons.mp rising).1 e lower) above
  · rw [List.map_cons, List.nodup_cons]
    refine ⟨fun hmem => ?_, slots⟩
    obtain ⟨e, he, hslot⟩ := List.mem_map.mp hmem
    exact apart x hx e he hslot.symm
  · obtain ⟨hold, hother⟩ := mem_removeAlert.mp hy
    rcases List.mem_cons.mp he with rfl | lower
    · exact hother
    · exact apart y hold e lower

end Atu.Lawful

/-- Slots and levels of the stack stay in a removal from below the top, but for the removed entry's. -/
theorem removeBelow_sublist (n : Slot) (l : List Attended) :
    ((removeBelow n l).map fun e => (e.slot, e.level)).Sublist (l.map fun e => (e.slot, e.level)) := by
  induction l using removeBelow.induct n with
  | case1 above e rest heq =>
    rw [removeBelow, if_pos heq]
    exact (List.sublist_cons_self _ _).cons_cons _
  | case2 above e rest hne ih =>
    rw [removeBelow, if_neg hne]
    exact ih.cons_cons _
  | case3 l hl =>
    rw [removeBelow]
    exact hl

namespace Atu.Lawful

variable {a : Atu}

/-- What of the stack the laws look at. -/
theorem of_stack_sublist (h : a.Lawful) {stack : List Attended}
    (hs : (stack.map fun e => (e.slot, e.level)).Sublist (a.stack.map fun e => (e.slot, e.level))) :
    ({ a with stack := stack } : Atu).Lawful := by
  obtain ⟨order, once, rising, slots, apart⟩ := h
  have rising' : (a.stack.map fun e => (e.slot, e.level)).Pairwise fun x y => y.2 < x.2 := List.pairwise_map.mpr rising
  have slots' : ((a.stack.map fun e => (e.slot, e.level)).map Prod.fst).Nodup := by rw [List.map_map]; exact slots
  refine ⟨order, once, List.pairwise_map.mp (rising'.sublist hs), ?_, fun x hx e he => ?_⟩
  · have kept := slots'.sublist (hs.map Prod.fst)
    rw [List.map_map] at kept
    exact kept
  · obtain ⟨e', he', heq⟩ := List.mem_map.mp (hs.subset (List.mem_map.mpr ⟨e, he, rfl⟩))
    rw [← (Prod.mk.inj heq).1]
    exact apart x hx e' he'

end Atu.Lawful

theorem State.restore_evolves (s : State) (f : Option Slot) (x y : Int) : Evolves b s (s.restore f x y) := by
  unfold State.restore
  refine (s.focusChange_evolves f).trans ?_
  dsimp only
  split
  · split
    · exact relocate_evolves _ _ _
    · split
      · exact relocate_evolves _ _ _
      · exact .refl _
  · exact .refl _

theorem State.attendTrigger_evolves (s : State) (n : Slot) : Evolves b s (s.attendTrigger n) := by
  unfold State.attendTrigger
  split
  · exact .refl s
  · exact s.trigger_evolves n _

theorem State.attend_evolves (s : State) : Evolves b s s.attend := by
  unfold State.attend
  split
  · exact .refl s
  next x hx =>
    have taken := Evolves.atu (b := b) s _ fun h =>
      h.attend (List.mem_of_find?_eq_some hx) (by simpa using List.find?_some hx) s.fc.focus s.gu.px s.gu.py
    exact ((taken.trans (select_evolves _ _)).trans (attendTrigger_evolves _ _)).trans (raiseEvent_evolves _ _)

theorem State.dismiss_evolves (s : State) : Evolves b s s.dismiss := by
  unfold State.dismiss
  split
  · exact .refl s
  next top rest hs => exact (Evolves.atu s _ fun h => h.pop hs).trans (restore_evolves _ _ _ _)

theorem State.atuLinkReset_evolves (s : State) (n : Slot) : Evolves b s (s.atuLinkReset n) := by
  unfold State.atuLinkReset
  dsimp only
  split
  next hs => exact .atu s _ fun h => (h.remove n).of_stack_sublist (by simp)
  next top rest hs =>
    split
    · have taken : Evolves b s (s.setAtu ⟨removeAlert n s.atu.alerts, rest⟩) := .atu s _ fun h => (h.remove n).pop hs
      split
      · exact taken
      · exact taken.trans (restore_evolves _ _ _ _)
    · refine .atu s _ fun h => (h.remove n).of_stack_sublist ?_
      show List.Sublist _ (s.atu.stack.map _)
      rw [hs]
      exact removeBelow_sublist n (top :: rest)

theorem Atu.isStacked_eq_false_iff {u : Atu} {n : Slot} : u.isStacked n = false ↔ ∀ e ∈ u.stack, e.slot ≠ n := by
  simp [Atu.isStacked]

theorem State.raiseAlert_evolves (s : State) (n : Slot) : Evolves b s (s.raiseAlert n).1 := by
  unfold State.raiseAlert
  split
  · exact .refl s
  · split
    · exact .refl s
    next unstacked =>
      split
      · exact .refl s
      next idle =>
        refine Evolves.trans (.atu s _ fun h => h.insert (fun y hy => ?_) fun e he => ?_) (raiseEvent_evolves _ _)
        · exact Atu.isPending_eq_false_iff.mp (by simpa using idle) y hy
        · exact (Atu.isStacked_eq_false_iff.mp (by simpa using unstacked) e he).symm

theorem State.withdrawAlert_evolves (s : State) (n : Slot) : Evolves b s (s.withdrawAlert n) := .atu s _ fun h => h.remove n

/-! ### The Compositor (09) -/

theorem State.blankHead_evolves (s : State) (d : DisplayIx) (v : FrameValues) : Evolves b s (s.blankHead d v) := .cmp s _

theorem State.stopHead_evolves (s : State) (d : DisplayIx) : Evolves b s (s.stopHead d) := .cmp s _

theorem State.settleHead_evolves (s : State) (d : DisplayIx) : Evolves b s (s.settleHead d) := by
  unfold State.settleHead
  dsimp only
  split
  · exact s.stopHead_evolves d
  · exact s.blankHead_evolves d _

theorem State.activate_evolves (s : State) (start : List DisplayIx) : Evolves b s (s.activate start) := by
  unfold State.activate
  dsimp only
  split
  · exact .refl s
  · exact (((Evolves.cmp s _).trans (raiseEvent_evolves _ _)).trans (.foldl State.settleHead_evolves _ _)).trans
      (.foldl (fun s _ => s.reevaluate_evolves) _ _)

theorem State.commitMask_evolves (s : State) (mask : DisplayIx → Bool) : Evolves b s (s.commitMask mask).1 := by
  unfold State.commitMask
  dsimp only
  split
  · exact .refl s
  · exact (Evolves.cmp s _).trans (activate_evolves _ _)

theorem State.applyPreset_evolves (s : State) (p : Fin 4) : Evolves b s (s.applyPreset p) :=
  (Evolves.cmp s _).trans (commitMask_evolves _ _)

theorem State.blankShare_evolves (s : State) : Evolves b s s.blankShare := (Evolves.cmp s _).trans (.cmp _ _)

theorem State.writeShareRecord_evolves (s : State) (r : Option ProfileIx) : Evolves b s (s.writeShareRecord r) := by
  have stored : Evolves b s (s.setTables { s.tables with shareRecord := r }) := .tables s _ ⟨id, id, id⟩ fun _ _ => id
  unfold State.writeShareRecord
  dsimp only
  split
  · exact stored.trans (.cmp _ _)
  · split
    · exact stored.trans (.cmp _ _)
    · exact stored.trans (blankShare_evolves _)

theorem State.shareDisplay_evolves (s : State) (d : Option DisplayIx) : Evolves b s (s.shareDisplay d) := by
  unfold State.shareDisplay
  split <;> exact .cmp s _

theorem State.headBlanks_evolves (s : State) (h : HeadIx) : Evolves b s (s.headBlanks h) := by
  unfold State.headBlanks
  split
  · split
    · split
      · exact s.activate_evolves _
      · exact s.blankHead_evolves _ _
    · exact .refl s
  · split
    · exact s.blankShare_evolves
    · exact .refl s

theorem State.startShare_evolves (s : State) : Evolves b s (if s.tables.shareRecord.isSome then s.blankShare else s) := by
  split
  · exact s.blankShare_evolves
  · exact .refl s

theorem State.startHeads_evolves (s : State) : Evolves b s s.startHeads := by
  unfold State.startHeads
  exact (((Evolves.foldl State.stopHead_evolves _ _).trans (.cmp _ _)).trans (.foldl State.settleHead_evolves _ _)).trans
    (startShare_evolves _)

theorem State.blinkExpires_evolves (s : State) : Evolves b s s.blinkExpires := by
  unfold State.blinkExpires
  split
  · exact ((Evolves.cmp s _).trans (.start _ .t2 trivial)).trans (updateLeds_evolves _)
  · exact .refl s

/-! ### The command state (02) -/

theorem State.setCommand_evolves (s : State) (c : CommandState) (h : s.CommandTimed → (s.setHkm c).CommandTimed) :
    Evolves b s (s.setCommand c) :=
  (Evolves.command s c s.bank.t0 s.bank.t1 h).trans (updateLeds_evolves _)

theorem State.setCommandTimers_normal_stopped (s : State) : (s.setCommandTimers .normal .stopped .stopped).CommandTimed :=
  ⟨⟨nofun, nofun⟩, ⟨nofun, nofun⟩⟩

theorem State.commandToNormal_evolves (s : State) : Evolves b s s.commandToNormal :=
  (Evolves.command s .normal .stopped .stopped fun _ => s.setCommandTimers_normal_stopped).trans (updateLeds_evolves _)

theorem State.t0Expires_evolves (s : State) : Evolves b s s.t0Expires := by
  unfold State.t0Expires
  split
  case isFalse => exact .refl s
  dsimp only
  split
  case isTrue h =>
    have lead : s.hkm = .leadOne := h
    refine .command s .normal .stopped s.bank.t1 fun ⟨_, h1⟩ => ⟨⟨nofun, nofun⟩, h1.trans ?_⟩
    rw [lead]
    exact ⟨nofun, nofun⟩
  case isFalse h => exact .stop s .t0 h

theorem State.t1Expires_evolves (s : State) : Evolves b s s.t1Expires := by
  unfold State.t1Expires
  split
  case isFalse => exact .refl s
  dsimp only
  split
  case isTrue h =>
    have command : s.hkm = .command := h
    refine Evolves.trans (.command s .normal s.bank.t0 .stopped fun ⟨h0, _⟩ => ⟨h0.trans ?_, ⟨nofun, nofun⟩⟩) (updateLeds_evolves _)
    rw [command]
    exact ⟨nofun, nofun⟩
  case isFalse h => exact .stop s .t1 h

/-! ### The twelve actions (02, R37) -/

theorem State.wakeAction_evolves (s : State) (x : Argument) : Evolves b s (s.wakeAction x) := by
  unfold State.wakeAction
  split
  · exact s.trigger_evolves _ _
  · split
    · exact s.trigger_evolves _ _
    · exact .refl s
  · exact .refl s
  · exact .refl s

theorem State.shareAction_evolves (s : State) (x : Argument) : Evolves b s (s.shareAction x) := by
  unfold State.shareAction
  split
  · split
    · exact s.shareDisplay_evolves _
    · exact .refl s
  · exact s.shareDisplay_evolves _
  · exact .refl s
  · exact .refl s

theorem State.runAction_evolves (s : State) (a : Action) (x : Argument) : Evolves b s (s.runAction a x) := by
  cases a <;> simp only [State.runAction]
  case select => cases x <;> first | exact s.select_evolves _ | exact .refl s
  case next => exact s.selectFirst_evolves _
  case previous => exact s.selectFirst_evolves _
  case attend => exact s.attend_evolves
  case dismiss => exact s.dismiss_evolves
  case wake => exact s.wakeAction_evolves x
  case wakeAll => exact s.wakeAll_evolves
  case preset =>
    cases x
    case number n =>
      dsimp only
      split
      · exact s.applyPreset_evolves _
      · exact .refl s
    all_goals exact .refl s
  case glideLock => exact .gu s _ id
  case follow => exact .fc s _ rfl rfl rfl rfl
  case share => exact s.shareAction_evolves x
  case passNext => exact .fc s _ rfl rfl rfl rfl

end Sys2Proof.Machine


/-! What the console keyboard does, the link changes, the requests and every other command: each an evolution of the state. -/

namespace Sys2Proof.Machine

variable {b : Mode}

/-! ### The console keyboard (01, R3, R11 to R16; 02, R29 to R34) -/

/-- The suppressed modifiers after a modifier change (01, R16). -/
def State.regroupModifiers (s : State) (released pressed : Modifiers) : State :=
  s.setFc { s.fc with suppressed := (s.fc.suppressed &&& ~~~released) ||| (if s.deliverable then 0 else pressed) }

/-- The focus slot is told of its modifiers where they differ from the sent ones (01, R16). -/
def State.tellModifiers (s : State) : State :=
  match s.fc.focus with
  | none => s
  | some f =>
    if s.focusModifiers = (s.sent f).mods then s
    else (s.setSent f { s.sent f with mods := s.focusModifiers }).queueImage f

theorem State.modifierChange_eq (s : State) (released pressed : Modifiers) :
    s.modifierChange released pressed = (s.regroupModifiers released pressed).tellModifiers := rfl

theorem State.focusModifiers_of_off {s : State} {f : Slot} (hfocus : s.fc.focus = some f) (hlink : s.link f = .off) :
    s.focusModifiers = 0 := by
  simp [State.focusModifiers, State.deliverable, hfocus, State.canReceive, hlink]

theorem State.runAction_hkm (s : State) (a : Action) (x : Argument) : (s.runAction a x).hkm = s.hkm :=
  congrArg (fun c => c.2.1) (s.runAction_consoleSide a x)

/-- COMMAND is left: T1 stops (02, R34). -/
theorem State.leaveCommand_evolves (s : State) (h : s.hkm = .command) : Evolves b s ((s.stopTimer .t1).setCommand .normal) := by
  refine Evolves.trans (.command s .normal s.bank.t0 .stopped fun ⟨h0, _⟩ => ?_) (updateLeds_evolves _)
  exact ⟨h0.trans ⟨fun hc => absurd (h.symm.trans hc) (by decide), nofun⟩, ⟨nofun, nofun⟩⟩

section Typing
variable (hb : b.typing = true)
include hb

theorem State.hold_evolves (s : State) (k : Byte) (d : Destination) : Evolves b s (s.hold k d) := .input hb s _ rfl

theorem State.regroupModifiers_evolves (s : State) (released pressed : Modifiers) :
    Evolves b s (s.regroupModifiers released pressed) := .input hb s _ rfl

theorem State.tellModifiers_evolves (s : State) : Evolves b s s.tellModifiers := by
  unfold State.tellModifiers
  split
  · exact .refl s
  next f hf =>
    split
    · exact .refl s
    · refine .tell s f _ (fun ht => absurd (hb.symm.trans ht) (by decide)) fun hoff hempty => ?_
      rw [hempty, State.focusModifiers_of_off hf hoff]
      rfl

theorem State.modifierChange_evolves (s : State) (released pressed : Modifiers) :
    Evolves b s (s.modifierChange released pressed) := by
  rw [State.modifierChange_eq]
  exact (s.regroupModifiers_evolves hb released pressed).trans (tellModifiers_evolves hb _)

theorem State.releaseKey_evolves (s : State) (k : Byte) : Evolves b s (s.releaseKey k) := by
  unfold State.releaseKey
  dsimp only
  refine Evolves.trans ?_ (.input hb _ _ rfl)
  split
  · refine .tell s _ _ (fun ht => absurd (hb.symm.trans ht) (by decide)) fun _ hempty => ?_
    rw [hempty]
    rfl
  · exact .refl s

theorem State.deliverPress_evolves (s : State) (n : Slot) (k : Byte) (hlink : s.link n ≠ .off) :
    Evolves b s (s.deliverPress n k) := by
  unfold State.deliverPress
  exact ((s.hold_evolves hb k _).trans (.tell _ n _ (fun ht => absurd (hb.symm.trans ht) (by decide)) fun hoff => absurd hoff hlink)).trans (wakeOnInput_evolves _ n)

theorem State.routePress_evolves (s : State) (k : Byte) : Evolves b s (s.routePress k) := by
  unfold State.routePress
  split
  · exact s.hold_evolves hb k _
  · split
    · exact s.hold_evolves hb k _
    · split
      · exact (s.hold_evolves hb k _).trans (wakeOnInput_evolves _ _)
      · split
        · exact (s.hold_evolves hb k _).trans (raiseEvent_evolves _ _)
        · exact s.deliverPress_evolves hb _ k ‹_›

theorem State.passPress_evolves (s : State) (k : Byte) : Evolves b s (s.passPress k) := by
  unfold State.passPress
  exact (Evolves.fc s { s.fc with passNext := false } rfl rfl rfl rfl).trans (routePress_evolves hb _ k)

theorem State.normalPress_evolves (s : State) (k : Byte) (h : s.hkm = .normal) : Evolves b s (s.normalPress k) := by
  unfold State.normalPress
  split
  · split
    · exact s.passPress_evolves hb k
    · refine (s.hold_evolves hb k _).trans (.command _ .leadOne (.running (s.tables.timing.get 0).duration 0) _ fun ⟨_, h1⟩ => ?_)
      exact ⟨⟨fun _ => rfl, fun _ => rfl⟩, h1.trans ⟨fun hc => absurd (h.symm.trans hc) (by decide), nofun⟩⟩
  · split
    · split
      · exact s.passPress_evolves hb k
      · exact (s.hold_evolves hb k _).trans (runAction_evolves _ _ _)
    · exact s.routePress_evolves hb k

theorem State.leadOnePress_evolves (s : State) (k : Byte) (h : s.hkm = .leadOne) : Evolves b s (s.leadOnePress k) := by
  unfold State.leadOnePress
  dsimp only
  split
  · refine ((s.hold_evolves hb k .consumed).trans (.command _ .command .stopped (.running (s.tables.timing.get 1).duration 0)
      fun _ => ?_)).trans (updateLeds_evolves _)
    exact ⟨⟨nofun, nofun⟩, ⟨fun _ => rfl, fun _ => rfl⟩⟩
  · refine Evolves.trans (.command s .normal .stopped s.bank.t1 fun ⟨_, h1⟩ => ?_) (normalPress_evolves hb _ k rfl)
    exact ⟨⟨nofun, nofun⟩, h1.trans ⟨fun hc => absurd (h.symm.trans hc) (by decide), nofun⟩⟩

theorem State.commandPress_evolves (s : State) (k : Byte) (h : s.hkm = .command) : Evolves b s (s.commandPress k) := by
  unfold State.commandPress
  refine (s.hold_evolves hb k .consumed).trans ?_
  have command : (s.hold k .consumed).hkm = .command := h
  generalize s.hold k .consumed = u at command
  dsimp only
  split
  · exact u.leaveCommand_evolves command
  · split
    · split
      · exact (u.runAction_evolves _ _).trans (.start _ .t1 ((u.runAction_hkm _ _).trans command))
      · exact (u.leaveCommand_evolves command).trans (runAction_evolves _ _ _)
    · exact .start u .t1 command

theorem State.press_evolves (s : State) (k : Byte) : Evolves b s (s.press k) := by
  unfold State.press
  split
  · exact s.normalPress_evolves hb k ‹_›
  · exact s.leadOnePress_evolves hb k ‹_›
  · exact s.commandPress_evolves hb k ‹_›

theorem State.keyboardArrival_evolves (s : State) (mods : Modifiers) (keys : List Byte) :
    Evolves b s (s.keyboardArrival mods keys) := by
  unfold State.keyboardArrival
  refine Evolves.trans (Evolves.trans (Evolves.trans (.image hb s mods (sortKeys keys)) ?_)
    (.foldl (releaseKey_evolves hb) _ _)) (.foldl (press_evolves hb) _ _)
  split
  · exact .refl _
  · exact modifierChange_evolves hb _ _ _

end Typing

/-! ### Slot links (05) -/

/-- A link reset of a slot by every block but the port and the FC (05, R79, R80). -/
theorem State.fcPowerLost_eq (s : State) (n : Slot) :
    s.fcPowerLost n = if s.fc.focus = some n then (s.fcLoss n).focusChange none else s.fcLoss n := by
  have focus : (s.fcLoss n).fc.focus = s.fc.focus := by rw [State.fcLoss_eq]; rfl
  unfold State.fcPowerLost
  dsimp only
  rw [focus]

section Lost
variable (hb : b.sender = none)
include hb

theorem State.takeBusReset_evolves (s : State) (n : Slot) : Evolves b s (s.takeBusReset n) := by
  unfold State.takeBusReset
  exact (((((Evolves.lose s n .attached (.inr rfl) hb).trans (guLinkReset_evolves _ n)).trans (atuLinkReset_evolves _ n)).trans
    (wakeOnBusReset_evolves _ n)).trans (.mgi _ _)).trans (updateLeds_evolves _)

theorem State.takePowerLoss_evolves (s : State) (n : Slot) : Evolves b s (s.takePowerLoss n) := by
  have lost : Evolves b s ((s.settlePort n (Port.linkReset .off)).fcPowerLost n) := by
    rw [State.fcPowerLost_eq]
    split
    · exact (Evolves.lose s n .off (.inl rfl) hb).trans (focusChange_evolves _ none)
    · exact .lose s n .off (.inl rfl) hb
  unfold State.takePowerLoss
  exact ((((lost.trans (guLinkReset_evolves _ n)).trans (atuLinkReset_evolves _ n)).trans
    (wakeOnPowerLost_evolves _ n)).trans (.mgi _ _)).trans (updateLeds_evolves _)

theorem State.powerLost_evolves (s : State) (n : Slot) : Evolves b s (s.powerLost n) := by
  unfold State.powerLost
  split
  · exact .refl s
  all_goals exact s.takePowerLoss_evolves hb n

theorem State.busResets_evolves (s : State) (n : Slot) : Evolves b s (s.busResets n) := by
  unfold State.busResets
  split
  · exact .refl s
  all_goals exact s.takeBusReset_evolves hb n

theorem State.deconfigures_evolves (s : State) (n : Slot) : Evolves b s (s.deconfigures n) := by
  unfold State.deconfigures
  split
  · exact s.takeBusReset_evolves hb n
  all_goals exact .refl s

theorem State.suspends_evolves (s : State) (n : Slot) : Evolves b s (s.suspends n) := by
  unfold State.suspends
  split
  case h_1 h =>
    have active : (s.port n).link = .active := h
    refine .settle s n _ ⟨fun ⟨hq, hr, _, hs⟩ => ⟨hq, hr, nofun, fun running => ?_⟩, Nat.le_refl _, fun _ => rfl, nofun, nofun⟩
      fun h => by rw [hb] at h; cases h
    exact absurd (active.symm.trans (hs running)) (by decide)
  all_goals exact .refl s

end Lost

theorem Port.lawful_reset : Port.reset.Lawful := ⟨Nat.zero_le _, Nat.zero_le _, fun _ => rfl, nofun⟩

/-- An OFF port is at its power-on values; a link reset leaves them but for the link (05, R76, R80). -/
theorem Port.leads_linkReset {p : Port} (hlink : p.link = .off) : p.Leads (Port.linkReset .attached) :=
  ⟨fun _ => ⟨Nat.zero_le _, Nat.zero_le _, nofun, nofun⟩, Nat.zero_le _, fun ⟨_, _, ho, _⟩ => by rw [ho hlink]; rfl, nofun, nofun⟩

theorem State.powerSensed_evolves (s : State) (n : Slot) : Evolves b s (s.powerSensed n) := by
  unfold State.powerSensed
  split
  case h_1 h =>
    have off : (s.port n).link = .off := h
    exact .settle s n _ (Port.leads_linkReset off) fun _ hactive => absurd (off.symm.trans hactive) (by decide)
  all_goals exact .refl s

theorem State.configures_evolves (s : State) (n : Slot) : Evolves b s (s.configures n) := by
  unfold State.configures
  split
  case h_1 h => exact .becomeActive s n (by rw [h]; decide)
  all_goals exact .refl s

theorem State.resumes_evolves (s : State) (n : Slot) : Evolves b s (s.resumes n) := by
  unfold State.resumes
  split
  case h_1 h => exact .becomeActive s n (by rw [h]; decide)
  case h_2 h => exact .becomeActive s n (by rw [h]; decide)
  all_goals exact .refl s

/-- A port that is not OFF and keeps its link, its queue, what was delivered, its responses and its signalling leads on. -/
theorem Port.leads_of_kept {p q : Port} (hlink : q.link = p.link) (hoff : p.link ≠ .off) (hqueue : q.queue = p.queue)
    (hlast : q.lastKeyboard = p.lastKeyboard) (hresponses : q.responses.length ≤ p.responses.length)
    (hsignalling : q.signalling = p.signalling) : p.Leads q := by
  refine ⟨fun ⟨hq, hr, _, hs⟩ => ⟨hqueue ▸ hq, Nat.le_trans hresponses hr, fun h => absurd (hlink ▸ h) hoff, ?_⟩, hresponses,
    fun _ => by rw [hqueue, hlast], fun h => hlink ▸ h, fun h => hlink ▸ h⟩
  rw [hsignalling, hlink]
  exact hs

theorem State.put_kept_evolves (s : State) (n : Slot) {q : Port} (hlink : q.link = s.link n) (hoff : s.link n ≠ .off)
    (hqueue : q.queue = (s.port n).queue) (hlast : q.lastKeyboard = (s.port n).lastKeyboard)
    (hresponses : q.responses.length ≤ (s.port n).responses.length) (hsignalling : q.signalling = (s.port n).signalling) :
    Evolves b s (s.setPort n q) :=
  .put s n q (Port.leads_of_kept hlink hoff hqueue hlast hresponses hsignalling) (fun _ h => hlink.trans h) (by
    rw [Port.waits, Port.waits, hqueue, hlink]
    rfl)

theorem State.permitRemoteWake_evolves (s : State) (n : Slot) (x : Bool) : Evolves b s (s.permitRemoteWake n x) := by
  unfold State.permitRemoteWake
  split
  case h_1 h => exact s.put_kept_evolves n rfl (by rw [h]; decide) rfl rfl (Nat.le_refl _) rfl
  case h_2 h => exact s.put_kept_evolves n rfl (by rw [h]; decide) rfl rfl (Nat.le_refl _) rfl
  all_goals exact .refl s

theorem State.setsLeds_evolves (s : State) (n : Slot) (l : Leds) : Evolves b s (s.setsLeds n l) := by
  unfold State.setsLeds
  split
  case isFalse => exact .refl s
  case isTrue h =>
    have lit : Evolves b s (s.setPort n { s.port n with leds := l }) :=
      s.put_kept_evolves n rfl (by rw [h]; decide) rfl rfl (Nat.le_refl _) rfl
    dsimp only
    split
    · exact lit.trans (updateLeds_evolves _)
    · exact lit

/-! ### Polls (05, R90, R94) -/

theorem Port.leads_deliver {p : Port} {e : Entry} {rest : List Entry} (hlink : p.link = .active) (hqueue : p.queue = e :: rest) :
    p.Leads (p.deliver e rest) := by
  refine ⟨fun ⟨hq, hr, _, hs⟩ => ⟨?_, hr, fun h => ?_, hs⟩, Nat.le_refl _, fun _ => ?_, fun h => h, fun h => h⟩
  · rw [hqueue] at hq
    exact Nat.le_of_succ_le hq
  · exact absurd (hlink.symm.trans h) (by decide)
  · rw [hqueue]
    cases e <;> rfl

theorem State.polls_evolves (s : State) (n : Slot) : Evolves b s (s.polls n) := by
  unfold State.polls
  split
  case isFalse => exact .refl s
  case isTrue h =>
    split
    next e rest hqueue => exact .settle s n _ (Port.leads_deliver h.1 hqueue) fun _ => id
    · exact .refl s

theorem State.acknowledges_evolves (s : State) (n : Slot) : Evolves b s (s.acknowledges n) := by
  unfold State.acknowledges
  split
  case isTrue h => exact s.put_kept_evolves n rfl (by rw [h]; decide) rfl rfl (Nat.le_refl _) rfl
  case isFalse => exact .refl s

theorem State.managementPolls_evolves (s : State) (n : Slot) : Evolves b s (s.managementPolls n) := by
  unfold State.managementPolls
  split
  case isFalse => exact .refl s
  case isTrue h =>
    split
    next r rest hresponses =>
      refine s.put_kept_evolves n rfl (by rw [h.1]; decide) rfl rfl ?_ rfl
      rw [hresponses]
      exact Nat.le_succ _
    · exact .refl s

theorem State.acknowledgesResponse_evolves (s : State) (n : Slot) : Evolves b s (s.acknowledgesResponse n) := by
  unfold State.acknowledgesResponse
  split
  case isTrue h => exact s.put_kept_evolves n rfl (by rw [h]; decide) rfl rfl (Nat.le_refl _) rfl
  case isFalse => exact .refl s

/-! ### The console's ports (01) -/

theorem Ciu.setAttach_image (c : Ciu) (p : ConsolePort) (a : Attach) :
    (c.setAttach p a).mods = c.mods ∧ (c.setAttach p a).keys = c.keys := by
  cases p <;> exact ⟨rfl, rfl⟩

theorem Ciu.becomeReady_image (c : Ciu) (p : ConsolePort) :
    (c.becomeReady p).mods = c.mods ∧ (c.becomeReady p).keys = c.keys := by
  cases p <;> exact ⟨rfl, rfl⟩

theorem Ciu.detach_image (c : Ciu) (p : ConsolePort) : (c.detach p).mods = c.mods ∧ (c.detach p).keys = c.keys := by
  cases p <;> exact ⟨rfl, rfl⟩

theorem Ciu.transferCompletes_image (c : Ciu) : c.transferCompletes.mods = c.mods ∧ c.transferCompletes.keys = c.keys := by
  unfold Ciu.transferCompletes
  split
  · exact ⟨rfl, rfl⟩
  · dsimp only
    split <;> exact ⟨rfl, rfl⟩

theorem Ciu.transferFails_image (c : Ciu) : c.transferFails.mods = c.mods ∧ c.transferFails.keys = c.keys := by
  unfold Ciu.transferFails
  split
  · exact ⟨rfl, rfl⟩
  · dsimp only
    split <;> exact ⟨rfl, rfl⟩

theorem Ciu.restart_image (c : Ciu) (x : Leds) : (c.restart x).mods = c.mods ∧ (c.restart x).keys = c.keys := by
  unfold Ciu.restart
  dsimp only
  split
  · split <;> exact ⟨rfl, rfl⟩
  · exact ⟨rfl, rfl⟩

theorem Evolves.ciu_of_image {s : State} {x : Ciu} (h : x.mods = s.ciu.mods ∧ x.keys = s.ciu.keys) : Evolves b s (s.setCiu x) :=
  .ciu s x h.1 h.2

theorem State.deviceConnects_evolves (s : State) (p : ConsolePort) : Evolves b s (s.deviceConnects p) := by
  unfold State.deviceConnects
  split
  · exact .ciu_of_image (s.ciu.setAttach_image p _)
  · exact .refl s

theorem State.configurationEnds_evolves (s : State) (p : ConsolePort) (d : ConsoleDevice) :
    Evolves b s (s.configurationEnds p d) := by
  unfold State.configurationEnds
  split
  · split
    · exact .ciu_of_image (s.ciu.becomeReady_image p)
    · exact .ciu_of_image (s.ciu.setAttach_image p _)
  · exact .refl s

theorem State.pointerReports_evolves (s : State) (bytes : List Byte) : Evolves b s (s.pointerReports bytes) := by
  unfold State.pointerReports
  split
  · split
    · exact s.buttonArrival_evolves _ _ _ _
    · exact .refl s
  · exact .refl s

section Typing
variable (hb : b.typing = true)
include hb

theorem State.finalArrival_evolves (s : State) (p : ConsolePort) : Evolves b s (s.finalArrival p) := by
  unfold State.finalArrival
  split
  · cases p
    · exact s.commandToNormal_evolves.trans (keyboardArrival_evolves hb _ 0 [])
    · exact s.buttonArrival_evolves 0 0 0 0
  · exact .refl s

theorem State.deviceDisconnects_evolves (s : State) (p : ConsolePort) : Evolves b s (s.deviceDisconnects p) :=
  (s.finalArrival_evolves hb p).trans (.ciu_of_image ((s.finalArrival p).ciu.detach_image p))

theorem State.keyboardReports_evolves (s : State) (bytes : List Byte) : Evolves b s (s.keyboardReports bytes) := by
  unfold State.keyboardReports
  split
  · split
    · exact s.keyboardArrival_evolves hb _ _
    · exact .refl s
  · exact .refl s

end Typing

/-! ### The video channels (08) -/

/-- A channel that has completed a frame runs its loss timer outside NO_SIGNAL. -/
theorem Channel.timed_complete (c : Channel) (period : Nat) (f : Frame) (threshold : Nat) :
    (c.complete period f threshold).Timed := by
  have judged : (c.judgeFrame (frameSize f) (frameSignature f) threshold).lock ≠ .noSignal := by
    unfold Channel.judgeFrame
    split
    · exact nofun
    · split
      · split
        next locked => exact fun h => by rw [show (c.compare _ _).lock = c.lock from rfl, locked] at h; cases h
        all_goals exact nofun
      · exact nofun
  exact ⟨fun _ => judged, fun _ => rfl⟩

theorem Channel.timed_frameStart (c : Channel) (period : Nat) (f : Frame) (threshold : Nat) :
    (c.frameStart period f threshold).Timed := by
  unfold Channel.frameStart
  split
  · exact ⟨nofun, fun _ => rfl⟩
  · exact c.timed_complete period f threshold
  · exact c.timed_complete period f threshold

theorem Channel.lawful_reset : Channel.reset.Lawful := by decide

theorem Channel.lawful_measure {c : Channel} (h : c.Lawful) {w l : Nat} (hw : w ≤ Config.frameLimit) (hl : l ≤ Config.frameLimit) :
    (c.measure w l).Lawful := by
  obtain ⟨-, -, -, -, -, period⟩ := h
  exact ⟨nofun, fun _ => ⟨rfl, rfl⟩, Nat.zero_le _, hw, hl, period⟩

theorem Channel.lawful_lockOn {c : Channel} (h : c.Lawful) : c.lockOn.Lawful := by
  obtain ⟨-, -, -, width, height, period⟩ := h
  exact ⟨nofun, fun _ => ⟨rfl, rfl⟩, Nat.zero_le _, width, height, period⟩

theorem nextStillCount_le (n : Nat) (equal : Bool) : nextStillCount n equal ≤ Config.stillCountMax := by
  unfold nextStillCount
  split
  · exact Nat.min_le_right _ _
  · exact Nat.zero_le _

theorem Channel.lawful_compare {c : Channel} (h : c.Lawful) (hlock : c.lock = .locked) (signature : BitVec 32) (threshold : Nat) :
    (c.compare signature threshold).Lawful := by
  obtain ⟨-, -, -, width, height, period⟩ := h
  have locked : (c.compare signature threshold).lock = .locked := hlock
  exact ⟨fun hn => absurd (locked.symm.trans hn) (by decide), fun hn => absurd locked hn, nextStillCount_le _ _, width, height, period⟩

theorem frameSize_le {f : Frame} {w l : Nat} (h : frameSize f = some (w, l)) : w ≤ Config.frameLimit ∧ l ≤ Config.frameLimit := by
  unfold frameSize at h
  dsimp only at h
  split at h
  next usable =>
    obtain ⟨rfl, rfl⟩ := Prod.mk.inj (Option.some.inj h)
    obtain ⟨-, width, -, height⟩ := usable
    exact ⟨width, height⟩
  · cases h

/-- What a completed frame makes of a channel's size and lock is lawful, and not NO_SIGNAL (08, R128, R129). -/
theorem Channel.lawful_judgeFrame {c : Channel} (h : c.Lawful) (f : Frame) (signature : BitVec 32) (threshold : Nat) :
    (c.judgeFrame (frameSize f) signature threshold).Lawful := by
  unfold Channel.judgeFrame
  split
  · exact Channel.lawful_measure h (Nat.zero_le _) (Nat.zero_le _)
  next w l hsize =>
    split
    · split
      next hlock => exact Channel.lawful_compare h hlock signature threshold
      all_goals exact Channel.lawful_lockOn h
    · exact Channel.lawful_measure h (frameSize_le hsize).1 (frameSize_le hsize).2

theorem Channel.lawful_complete {c : Channel} (h : c.Lawful) {period : Nat} (hperiod : period < 200000) (f : Frame) (threshold : Nat) :
    (c.complete period f threshold).Lawful := by
  obtain ⟨-, still, count, width, height, -⟩ := Channel.lawful_judgeFrame h f (frameSignature f) threshold
  exact ⟨fun hlock => absurd hlock ((c.timed_complete period f threshold).mp rfl), still, count, width, height, hperiod⟩

theorem Channel.lawful_frameStart {c : Channel} (h : c.Lawful) {period : Nat} (hperiod : period < 200000) (f : Frame) (threshold : Nat) :
    (c.frameStart period f threshold).Lawful := by
  unfold Channel.frameStart
  split
  next hlock =>
    obtain ⟨-, still, count, width, height, before⟩ := h
    have cleared : c.stillCount = 0 ∧ c.still = false := still (by rw [hlock]; nofun)
    exact ⟨nofun, fun _ => cleared, count, width, height, before⟩
  · exact Channel.lawful_complete h hperiod f threshold
  · exact Channel.lawful_complete h hperiod f threshold

theorem State.setChannel_evolves (s : State) (n : SourceIx) (c : Channel) (h : c.Timed) (hc : (s.channel n).Lawful → c.Lawful) :
    Evolves b s (s.setChannel n c) := by
  refine .channels s _ (fun timed m => ?_) fun lawful m => ?_ <;> rw [Table.get_put] <;> split
  · exact h
  · exact timed m
  · exact hc (lawful n)
  · exact lawful m

theorem State.frameStarts_evolves (s : State) (n : SourceIx) {period : Nat} (hperiod : period < 200000) (f : Frame) :
    Evolves b s (s.frameStarts n period f) := by
  unfold State.frameStarts
  have started : Evolves b s (s.setChannel n ((s.channel n).frameStart period f (s.source n).stillThreshold)) :=
    s.setChannel_evolves n _ ((s.channel n).timed_frameStart _ _ _) fun h => Channel.lawful_frameStart h hperiod f _
  dsimp only
  split
  · exact started.trans (raiseEvent_evolves _ _)
  · exact started

theorem State.lossExpires_evolves (s : State) (n : SourceIx) : Evolves b s (s.lossExpires n) := by
  unfold State.lossExpires
  have reset : Evolves b s (s.setChannel n Channel.reset) :=
    s.setChannel_evolves n _ ⟨nofun, fun h => absurd rfl h⟩ fun _ => Channel.lawful_reset
  split
  · dsimp only
    split
    · exact reset.trans (raiseEvent_evolves _ _)
    · exact reset
  · exact .refl s

/-! ### Records written (11, R173) -/

/-- Tables whose access entries, slot records, hotkeys and lead key are those of before. -/
theorem Tables.follows_of_eq {x y : Tables} (haccess : y.access = x.access) (hslots : y.slots = x.slots)
    (hhotkeys : y.hotkeys = x.hotkeys) (hlead : y.leadKey = x.leadKey) : x.Follows y := by
  refine ⟨by rw [haccess]; exact id, ?_, ?_⟩
  · rw [Tables.HotkeysLawful, Tables.HotkeysLawful, hhotkeys, hlead]
    exact id
  · rw [Tables.ChordsLawful, Tables.ChordsLawful, hslots]
    exact id

theorem State.setTables_evolves (s : State) (x : Tables) (hx : s.tables.Follows x) (h : x.access = s.tables.access) :
    Evolves b s (s.setTables x) :=
  .tables s x hx fun _ n hn => by rw [h]; exact hn

/-- Other tables than the access entries, the slot records and the hotkeys change. -/
theorem State.setOtherTables_evolves (s : State) (x : Tables) (haccess : x.access = s.tables.access)
    (hslots : x.slots = s.tables.slots) (hhotkeys : x.hotkeys = s.tables.hotkeys) (hlead : x.leadKey = s.tables.leadKey) :
    Evolves b s (s.setTables x) :=
  s.setTables_evolves x (Tables.follows_of_eq haccess hslots hhotkeys hlead) haccess

theorem State.setAccess_evolves (s : State) (n : Slot) (e : AccessEntry) (he : hasAccessWriter (s.tables.access.put n e) = true) :
    Evolves b s (s.setAccess n e) := by
  have follows : s.tables.Follows { s.tables with access := s.tables.access.put n e } := ⟨fun _ => he, id, id⟩
  have others (m : Slot) (hm : m ≠ n) (h : (s.access m).inputAllowed = true) :
      ((s.tables.access.put n e).get m).inputAllowed = true := by
    rwa [Table.get_put_ne _ _ hm]
  unfold State.setAccess
  have entered : Evolves b s (if (s.access n).inputAllowed = true ∧ e.inputAllowed = false
      then ((s.setTables { s.tables with access := s.tables.access.put n e }).fcInputRemoved n).guInputRemoved n
      else s.setTables { s.tables with access := s.tables.access.put n e }) := by
    split
    · exact (Evolves.inputRemoved s _ n follows others).trans (guInputRemoved_evolves _ n)
    next kept =>
      refine .tables s _ follows fun _ m h => ?_
      by_cases hm : m = n
      · subst hm
        simpa [h] using kept
      · exact others m hm h
  dsimp only
  split
  · exact entered
  · exact entered.trans (.mgi _ _)

theorem State.setSlotRecord_evolves (s : State) (n : Slot) (r : SlotRecord) (hr : r.blocked.length ≤ 4) :
    Evolves b s (s.setSlotRecord n r) := by
  have follows : s.tables.Follows { s.tables with slots := s.tables.slots.put n r } := by
    refine ⟨id, id, fun chords m => ?_⟩
    rw [Table.get_put]
    split
    · exact hr
    · exact chords m
  exact (s.setTables_evolves _ follows rfl).trans (.atu _ _ fun h => h.relevel n r.level)

theorem State.setSourceRecord_evolves (s : State) (n : SourceIx) (r : SourceRecord) : Evolves b s (s.setSourceRecord n r) := by
  unfold State.setSourceRecord
  have stored : Evolves b s (s.setTables { s.tables with sources := s.tables.sources.put n r }) := s.setOtherTables_evolves _ rfl rfl rfl rfl
  dsimp only
  split
  · split
    · exact stored.trans (reevaluateTo_evolves _ _ _)
    · exact stored
  · exact stored

theorem State.leadKeyChanges_evolves (s : State) (k : Byte) :
    Evolves b s (if k = s.tables.leadKey then s else s.commandToNormal) := by
  split
  · exact .refl s
  · exact s.commandToNormal_evolves

/-- The fields of the general input record, stored (11, R173). -/
def State.storeGeneral (s : State) (g : GeneralInput) : State :=
  (s.setTables { s.tables with leadKey := g.leadKey, deskSpeed := g.deskSpeed, startSlot := g.startSlot }).setFc
    { s.fc with follow := g.follow }

theorem State.storeGeneral_evolves (s : State) (g : GeneralInput) (hg : holdsKey s.tables.hotkeys g.leadKey = false) :
    Evolves b s (s.storeGeneral g) := by
  have follows : s.tables.Follows { s.tables with leadKey := g.leadKey, deskSpeed := g.deskSpeed, startSlot := g.startSlot } :=
    ⟨id, fun ⟨apart, _⟩ => ⟨apart, hg⟩, id⟩
  exact (s.setTables_evolves _ follows rfl).trans (.fc _ { s.fc with follow := g.follow } rfl rfl rfl rfl)

theorem State.setGeneral_eq (s : State) (g : GeneralInput) :
    s.setGeneral g = (if g.leadKey = s.tables.leadKey then s else s.commandToNormal).storeGeneral g := rfl

theorem State.commandToNormal_tables (s : State) : s.commandToNormal.tables = s.tables := rfl

theorem State.setGeneral_evolves (s : State) (g : GeneralInput) (hg : holdsKey s.tables.hotkeys g.leadKey = false) :
    Evolves b s (s.setGeneral g) := by
  rw [State.setGeneral_eq]
  refine (s.leadKeyChanges_evolves g.leadKey).trans (storeGeneral_evolves _ g ?_)
  split
  · exact hg
  · exact hg

theorem chordsOf_length_le (n : Nat) (l : List Byte) : (chordsOf n l).length ≤ n := by
  induction n generalizing l with
  | zero => simp [chordsOf]
  | succ n ih =>
    match l with
    | [] | [_] => simp [chordsOf]
    | _ :: _ :: rest => simpa [chordsOf] using ih rest

/-- A slot record accepted holds at most four blocked chords (01, R17). -/
theorem slotRecordOf_blocked {l : List Byte} {r : SlotRecord} (h : slotRecordOf l = some r) : r.blocked.length ≤ 4 := by
  unfold slotRecordOf at h
  split at h
  next count chords =>
    dsimp only at h
    split at h
    · cases h
    · split at h
      · cases h
      next few =>
        obtain rfl := Option.some.inj h
        have := chordsOf_length_le count.toNat chords
        rw [not_or] at few
        dsimp only
        omega
  · cases h

theorem holdsKey_put {t : Table Hotkey 32} {i : Fin 32} {e : Hotkey} {k : Byte} (hk : e.key ≠ k) (h : holdsKey t k = false) :
    holdsKey (t.put i e) k = false := by
  simp only [holdsKey, List.any_eq_false, decide_eq_true_eq] at h ⊢
  intro x hx
  obtain ⟨j, hj, rfl⟩ := Vector.mem_iff_getElem.mp (Vector.mem_toList_iff.mp hx)
  have get : (t.put i e)[j] = if (⟨j, hj⟩ : Fin 32) = i then e else t[j] := Table.get_put t i ⟨j, hj⟩ e
  rw [get]
  split
  · exact hk
  · exact h _ (Vector.mem_toList_iff.mpr (Vector.getElem_mem hj))

theorem State.checked_evolves {α : Type} (s : State) (x : Option α) (f : α → Answer) (h : ∀ a, x = some a → Evolves b s (f a).state) :
    Evolves b s (s.checked x f).state := by
  unfold State.checked
  split
  · exact .refl s
  · exact h _ rfl

theorem State.writeRecord_evolves (s : State) (payload : List Byte) (x : Record) : Evolves b s (s.writeRecord payload x).state := by
  cases x <;> refine s.checked_evolves _ _ fun a ha => ?_
  case access n =>
    unfold State.writeAccess
    split
    · exact s.setAccess_evolves n a ‹_›
    · exact .refl s
  case slot n => exact s.setSlotRecord_evolves n a (slotRecordOf_blocked ha)
  case source n => exact s.setSourceRecord_evolves n a
  case display d => exact .cmp s _
  case tile i => exact .cmp s _
  case shareHead => exact s.writeShareRecord_evolves a
  case hotkey i =>
    unfold State.writeHotkey
    split
    · exact .refl s
    next other =>
      split
      · exact .refl s
      next apart =>
        exact s.setTables_evolves _ ⟨id, fun ⟨_, free⟩ => ⟨by simpa using apart, holdsKey_put other free⟩, id⟩ rfl
  case general =>
    unfold State.writeGeneral
    split
    · exact .refl s
    · exact s.setGeneral_evolves a (by simpa using ‹¬ holdsKey _ _ = true›)
  all_goals exact s.setOtherTables_evolves _ rfl rfl rfl rfl

end Sys2Proof.Machine


/-! Sections: the length of the image a save writes, and the laws of the tables that a load or a desk restart installs. -/

namespace Sys2Proof.Machine

/-! ### Lengths (13, R193) -/

theorem length_flatMap_toList {α : Type} {n : Nat} (t : Table α n) (f : α → List Byte) (k : Nat) (h : ∀ i, (f (t.get i)).length = k) :
    (t.toList.flatMap f).length = n * k := by
  have each : ∀ x ∈ t.toList, (f x).length = k := by
    intro x hx
    obtain ⟨i, hi, rfl⟩ := Vector.mem_iff_getElem.mp (Vector.mem_toList_iff.mp hx)
    exact h ⟨i, hi⟩
  rw [List.length_flatMap, List.map_congr_left each, List.map_const', List.sum_replicate, Vector.length_toList, smul_eq_mul]

theorem padTo_length {n : Nat} {l : List Byte} (h : l.length ≤ n) : (padTo n l).length = n := by
  rw [padTo, List.length_append, List.length_replicate]
  omega

theorem SlotRecord.bytes_length {r : SlotRecord} (h : r.blocked.length ≤ 4) : r.bytes.length = 13 := by
  have chords : (r.blocked.flatMap fun c => [c.mods, c.key]).length ≤ 8 := by
    have : (r.blocked.flatMap fun c => [c.mods, c.key]).length = r.blocked.length * 2 := by
      rw [List.length_flatMap]
      simp
    omega
  rw [SlotRecord.bytes, List.length_append, padTo_length chords]
  rfl

theorem layoutBytes_length (d : Table DisplayRecord 4) (t : Table TileRecord 16) : (layoutBytes d.toList t.toList).length = 244 := by
  rw [layoutBytes, List.length_append, length_flatMap_toList d _ 5 fun _ => rfl, length_flatMap_toList t _ 14 fun _ => rfl]

theorem savedHeader_length : savedHeader.length = 40 := by decide

/-- The lengths of the eight sections of a save (13, R193). -/
theorem State.sectionImages_lengths {s : State} (h : s.tables.ChordsLawful) :
    s.sectionImages.map List.length = [24, 104, 176, 285, 976, 176, 1066, 14] := by
  have active : (layoutBytes (s.cmp.active.displays.toList.map (·.record)) s.cmp.active.tiles.toList).length = 244 := by
    rw [show s.cmp.active.displays.toList.map (·.record) = (s.cmp.active.displays.map (·.record)).toList from
      Vector.toList_map.symm]
    exact layoutBytes_length _ _
  have access := length_flatMap_toList s.tables.access AccessEntry.bytes 3 fun _ => rfl
  have slots := length_flatMap_toList s.tables.slots SlotRecord.bytes 13 fun n => SlotRecord.bytes_length (h n)
  have sources := length_flatMap_toList s.tables.sources SourceRecord.bytes 11 fun _ => rfl
  have profiles := length_flatMap_toList s.tables.profiles FrameValues.bytes 5 fun _ => rfl
  have presets := length_flatMap_toList s.tables.presets (fun p => layoutBytes p.displays.toList p.tiles.toList) 244
    fun _ => layoutBytes_length _ _
  have hotkeys := length_flatMap_toList s.tables.hotkeys Hotkey.bytes 5 fun _ => rfl
  have windows := length_flatMap_toList s.tables.windows KeyWindow.bytes 3 fun _ => rfl
  have colors := length_flatMap_toList s.tables.colors colorBytes 3 fun _ => rfl
  have sprites := length_flatMap_toList s.tables.sprites Vector.toList 32 fun _ => Vector.length_toList
  have spots := length_flatMap_toList s.tables.hotSpots HotSpot.bytes 2 fun _ => rfl
  have timing := length_flatMap_toList s.tables.timing TimingEntry.bytes 2 fun _ => rfl
  have general : s.general.bytes.length = 4 := rfl
  simp only [State.sectionImages, List.map_cons, List.map_nil, List.length_append, List.length_cons, List.length_nil, active,
    access, slots, sources, profiles, presets, hotkeys, windows, colors, sprites, spots, timing, general]

theorem State.buildImage_length {s : State} (h : s.tables.ChordsLawful) : s.buildImage.length = 2861 := by
  rw [State.buildImage, List.length_append, List.length_flatten, State.sectionImages_lengths h, savedHeader_length]
  rfl

/-! ### Records read from a section (12, R184) -/

theorem tableOf_eq_some {α : Type} {n : Nat} {l : List α} {t : Table α n} (h : tableOf n l = some t) : l = t.toList := by
  unfold tableOf at h
  split at h
  · obtain rfl := Option.some.inj h
    rfl
  · cases h

/-- Each record of a section that stands is one that the record's rule accepts. -/
theorem recordsOf_get {α : Type} {n size : Nat} {dec : List Byte → Option α} {l : List Byte} {t : Table α n}
    (h : recordsOf n size dec l = some t) (i : Fin n) : ∃ x, dec x = some (t.get i) := by
  obtain ⟨records, hrecords, htable⟩ := Option.bind_eq_some_iff.mp h
  obtain rfl := tableOf_eq_some htable
  have decoded : ∀ (c : List (List Byte)) (r : List α), c.mapM dec = some r → ∀ y ∈ r, ∃ x, dec x = some y := by
    intro c
    induction c with
    | nil =>
      intro r hr y hy
      simp only [List.mapM_nil, Option.pure_def, Option.some.injEq] at hr
      rw [← hr] at hy
      cases hy
    | cons a c ih =>
      intro r hr y hy
      simp only [List.mapM_cons, Option.pure_def, Option.bind_eq_bind, Option.bind_eq_some_iff, Option.some.injEq] at hr
      obtain ⟨z, hz, zs, hzs, rfl⟩ := hr
      rcases List.mem_cons.mp hy with rfl | hy
      · exact ⟨a, hz⟩
      · exact ih zs hzs y hy
  exact decoded _ _ hrecords _ (Vector.mem_toList_iff.mpr (Vector.getElem_mem i.isLt))

/-! ### The laws of loaded tables (12, R184) -/

theorem defaultSections_lawful :
    hasAccessWriter defaultSections.access = true ∧ (tablesOf defaultSections).HotkeysLawful ∧
      (tablesOf defaultSections).ChordsLawful := by
  refine ⟨by decide, ⟨by decide, by decide⟩, fun n => ?_⟩
  show ((Table.all 8 defaultSlotRecord).get n).blocked.length ≤ 4
  rw [Table.get_all]
  decide

theorem accessSection_writer {l : List Byte} {t : Table AccessEntry 8} (h : accessSection l = some t) : hasAccessWriter t = true :=
  (Option.filter_eq_some_iff.mp h).2

theorem inputSection_lawful {l : List Byte} {x : InputSection} (h : inputSection l = some x) :
    anyCollision x.hotkeys.toList = false ∧ holdsKey x.hotkeys x.general.leadKey = false := by
  unfold inputSection at h
  split at h
  · split at h
    · cases h
    next lawful =>
      obtain rfl := Option.some.inj h
      simpa [and_comm] using lawful
  · cases h

theorem getD_of_forall {α : Type} {P : α → Prop} {x : Option α} {d : α} (hx : ∀ a, x = some a → P a) (hd : P d) : P (x.getD d) := by
  cases x with
  | none => exact hd
  | some a => exact hx a rfl

/-- The tables that an image installs, valid or not, meet the laws of the tables. -/
theorem loadImage_lawful (img : Option (List Byte)) :
    hasAccessWriter (loadImage img).1.access = true ∧ (tablesOf (loadImage img).1).HotkeysLawful ∧
      (tablesOf (loadImage img).1).ChordsLawful := by
  obtain ⟨writer, hotkeys, chords⟩ := defaultSections_lawful
  cases img with
  | none => exact ⟨writer, hotkeys, chords⟩
  | some bytes =>
    refine ⟨?_, ?_, ?_⟩
    · refine getD_of_forall (P := fun t => hasAccessWriter t = true) (fun t h => ?_) writer
      obtain ⟨l, -, hl⟩ := Option.bind_eq_some_iff.mp h
      exact accessSection_writer hl
    · refine getD_of_forall (P := fun x : InputSection => anyCollision x.hotkeys.toList = false ∧
        holdsKey x.hotkeys x.general.leadKey = false) (fun x h => ?_) hotkeys
      obtain ⟨l, -, hl⟩ := Option.bind_eq_some_iff.mp h
      exact inputSection_lawful hl
    · refine getD_of_forall (P := fun t : Table SlotRecord 8 => ∀ n, (t.get n).blocked.length ≤ 4) (fun t h n => ?_) chords
      obtain ⟨l, -, hl⟩ := Option.bind_eq_some_iff.mp h
      obtain ⟨x, hx⟩ := recordsOf_get hl n
      exact slotRecordOf_blocked hx

end Sys2Proof.Machine


/-! The requests and the remaining commands: each an evolution of the state, and with them every command the part takes. -/

namespace Sys2Proof.Machine

variable {b : Mode}

/-! ### The ports after the elementary changes -/

theorem State.settlePort_port (s : State) (n m : Slot) (p : Port) :
    (s.settlePort n p).port m = if m = n then p else s.port m := by
  split
  next h => rw [h, State.settlePort_port_same]
  next h => exact s.settlePort_port_ne p h

theorem State.releaseFlush_port (s : State) (n m : Slot) :
    (s.releaseFlush n).port m = if m = n then (s.port n).flushed else s.port m := by
  rw [State.releaseFlush_eq]
  exact s.setPort_port n m _

/-- A hand-over changes the slot's queue, and no other port. -/
theorem State.handOver_port (s : State) (n : Slot) (e : Entry) :
    ∃ q, ∀ m, (s.handOver n e).port m = if m = n then { s.port n with queue := q } else s.port m := by
  rcases s.handOver_cases n e with ⟨-, h⟩ | ⟨-, q, -, h⟩ | ⟨-, -, h⟩
  · refine ⟨(s.port n).queue, fun m => ?_⟩
    rw [h]
    split
    next hm => rw [hm]
    · rfl
  · exact ⟨q, fun m => by rw [h, State.settlePort_port]⟩
  · exact ⟨(s.port n).flushEntries, fun m => by rw [h]; exact s.releaseFlush_port n m⟩

/-- What a focus change leaves of the ports: the queue of the slot left changes, and nothing else. -/
theorem State.leaveFocus_port (s : State) (f : Option Slot) (m : Slot) : ∃ q, (s.leaveFocus f).port m = { s.port m with queue := q } := by
  cases f with
  | none => exact ⟨_, rfl⟩
  | some n =>
    obtain ⟨q, hq⟩ := (s.suppressHeld n).handOver_port n (.keyboard ((s.suppressHeld n).sent n))
    have port := hq m
    by_cases hm : m = n
    · subst hm
      exact ⟨q, by rw [if_pos rfl] at port; exact port⟩
    · exact ⟨(s.port m).queue, by rw [if_neg hm] at port; exact port⟩

theorem State.wakeOnActive_port (s : State) (n m : Slot) : (s.wakeOnActive n).port m = s.port m := by
  unfold State.wakeOnActive
  split <;> rfl

theorem State.fcLoss_port (s : State) (n m : Slot) : (s.fcLoss n).port m = s.port m := by
  rw [State.fcLoss_eq]
  rfl

/-- What a removal of INPUT_ALLOWED leaves of the ports: at most the slot's queue changes. -/
theorem State.fcInputRemoved_port (s : State) (n m : Slot) : ∃ q, (s.fcInputRemoved n).port m = { s.port m with queue := q } := by
  unfold State.fcInputRemoved
  split
  · exact ⟨_, s.fcLoss_port n m⟩
  · obtain ⟨q, hq⟩ := (s.fcLoss n).handOver_port n (.keyboard ((s.fcLoss n).sent n))
    have port := hq m
    rw [State.fcLoss_port, State.fcLoss_port] at port
    by_cases hm : m = n
    · subst hm
      exact ⟨q, by rw [if_pos rfl] at port; exact port⟩
    · exact ⟨(s.port m).queue, by rw [if_neg hm] at port; exact port⟩

/-- The port after the WKC's part of a desk restart (06, R96). -/
def Port.wakeRestarted (p : Port) : Port :=
  { p with link := if p.link = .resuming then .suspended else p.link, signalling := .stopped }

/-- The wake part of a desk restart for slot `n`, with T6 running exactly where entries wait (06, R96). -/
theorem State.restartWake_eq (s : State) (n : Slot) :
    s.restartWake n = (((s.setPort n (s.port n).wakeRestarted).setWake n WakeRecord.reset).stopWakeTimers n).setBank
      ((s.stopWakeTimers n).bank.setTimer (.t6 n) (s.holdTimer (s.port n).wakeRestarted)) := by
  unfold State.restartWake State.holdTimer
  dsimp only
  rw [show (⟨if (s.port n).link = .resuming then .suspended else (s.port n).link, (s.port n).queue, (s.port n).hand,
    (s.port n).lastKeyboard, (s.port n).lastButtons, (s.port n).leds, (s.port n).remoteWake, (s.port n).responses,
    (s.port n).responseHand, .stopped⟩ : Port) = (s.port n).wakeRestarted from rfl]
  split
  · simp [State.startTimer, State.stopTimer, State.setBank, Bank.setTimer, Table.put_put, TimerId.entry, State.stopWakeTimers,
      State.setWake, State.setWakes, State.setPort, State.setPorts]
  · rfl

theorem State.restartWake_port (s : State) (n m : Slot) :
    (s.restartWake n).port m = if m = n then (s.port n).wakeRestarted else s.port m := by
  rw [State.restartWake_eq]
  exact s.setPort_port n m _

/-! ### The sender's port stays open -/

/-- A port goes on ACTIVE where it was, and is given no response. -/
def Port.StaysOpen (p q : Port) : Prop := (p.link = .active → q.link = .active) ∧ q.responses.length ≤ p.responses.length

theorem Port.StaysOpen.refl (p : Port) : p.StaysOpen p := ⟨id, Nat.le_refl _⟩

theorem Port.StaysOpen.queue (p : Port) (q : List Entry) : p.StaysOpen { p with queue := q } := ⟨id, Nat.le_refl _⟩

theorem Port.StaysOpen.of_ports {s t : State} {n : Slot} (h : t.ports = s.ports) : (s.port n).StaysOpen (t.port n) := by
  rw [State.port, State.port, h]
  exact .refl _

/-- A port replaced at one slot. -/
theorem Port.StaysOpen.ite {s : State} {m n : Slot} {q : Port} (h : m = n → (s.port n).StaysOpen q) :
    (s.port m).StaysOpen (if m = n then q else s.port m) := by
  split
  next hm => subst hm; exact h rfl
  · exact .refl _

theorem State.Open.of_staysOpen {s t : State} {n : Slot} (h : (s.port n).StaysOpen (t.port n)) (ho : s.Open n) : t.Open n :=
  ⟨h.1 ho.1, Nat.lt_of_le_of_lt h.2 ho.2⟩

/-- Every elementary change that a request may make leaves the sender's port open to its response. -/
theorem Evolves.staysOpen {s t : State} {n : Slot} (h : Evolves b s t) (hn : b.sender = some n) : (s.port n).StaysOpen (t.port n) := by
  induction h with
  | trans _ _ ih₁ ih₂ => exact ⟨ih₂.1 ∘ ih₁.1, Nat.le_trans ih₂.2 ih₁.2⟩
  | flush s m =>
    rw [State.releaseFlush_port]
    exact .ite fun _ => .queue _ _
  | focus s f =>
    obtain ⟨q, hq⟩ := s.leaveFocus_port s.fc.focus n
    show (s.port n).StaysOpen ((s.leaveFocus s.fc.focus).port n)
    rw [hq]
    exact .queue _ _
  | settle s m p h hopen =>
    rw [State.settlePort_port]
    exact .ite fun hm => ⟨hopen (hm ▸ hn), h.responses⟩
  | put s m p h hopen =>
    rw [State.setPort_port]
    exact .ite fun hm => ⟨hopen (hm ▸ hn), h.responses⟩
  | answer s m r h hsender | lose s m l h hsender => rw [hn] at hsender; cases hsender
  | becomeActive s m h =>
    show (s.port n).StaysOpen (((s.settlePort m _).wakeOnActive m).port n)
    rw [State.wakeOnActive_port, State.settlePort_port]
    exact .ite fun _ => ⟨fun _ => rfl, Nat.le_refl _⟩
  | signal s m w hw h =>
    rw [State.settlePort_port]
    have suspended : (s.port m).link = .suspended := by
      simp only [Port.canSignal, Bool.and_eq_true, decide_eq_true_eq] at h
      exact h.1
    exact .ite fun _ => ⟨fun hl => absurd (suspended.symm.trans hl) (by decide), Nat.le_refl _⟩
  | await s m h =>
    show (s.port n).StaysOpen ((s.setPort m _).port n)
    rw [State.setPort_port]
    exact .ite fun _ => ⟨id, Nat.le_refl _⟩
  | rest s m =>
    rw [State.restartWake_port]
    refine .ite fun _ => ⟨fun hl => ?_, Nat.le_refl _⟩
    simp [Port.wakeRestarted, hl]
  | inputRemoved s x m h =>
    obtain ⟨q, hq⟩ := (s.setTables x).fcInputRemoved_port m n
    rw [hq]
    exact .queue _ _
  | told s m k l hk hlink hlength hnewest =>
    rw [State.settlePort_port]
    exact .ite (s := s) fun _ => .queue _ _
  | refl s | ciu s | mgi s | cmp s | gu s | atu s | fc s | command s | start s | stop s | tables s | pl s | flash s | cuts s | channels s
  | image _ s | input _ s | tellOff _ s =>
    exact .of_ports (s := s) rfl
  | linePulse s | lineAwait s | failed s | idle s =>
    simp only [State.enterLinePulse, State.enterLineAwait, State.startTimer_port, State.setPhase_port, State.stopWakeTimers_port,
      State.setWake_port]
    exact .refl _

/-! ### The requests (11) -/

/-- A request answered: its effect leaves the sender's port open, and the response joins its queue (05, R93; 11, R167). -/
theorem State.takeRequest_evolves (s : State) (n : Slot) (kind : Byte) (report : List Byte) (f : Request → Answer)
    (hb : b.sender = none) (h : ∀ (sender : Option Slot) (r : Request), Evolves ⟨b.typing, sender⟩ s (f r).state) :
    Evolves b s (s.takeRequest n kind report f) := by
  obtain ⟨typing, sender⟩ := b
  obtain rfl : sender = none := hb
  unfold State.takeRequest
  split
  case isFalse => exact .refl s
  case isTrue takes =>
    split
    case h_2 => exact .refl s
    case h_1 r _ =>
      have isOpen : s.Open n := by
        simp only [State.takesRequest, Bool.and_eq_true, decide_eq_true_eq] at takes
        exact takes
      have effect (sender : Option Slot) : Evolves ⟨typing, sender⟩ s (if r.overrun then s.refuse .badRequest else f r).state := by
        split
        · exact .refl s
        · exact h sender r
      exact (effect none).trans (.answer _ n _ (isOpen.of_staysOpen ((effect (some n)).staysOpen rfl)) rfl)

theorem State.readRequest_evolves (s : State) (n : Slot) (r : Request) : Evolves b s (s.readRequest n r).state := by
  unfold State.readRequest
  split
  · exact .refl s
  · split
    · exact .refl s
    · split
      · exact .refl s
      · split <;> exact .refl s

theorem State.writeRequest_evolves (s : State) (n : Slot) (r : Request) : Evolves b s (s.writeRequest n r).state := by
  unfold State.writeRequest
  split
  · exact .refl s
  · split
    · exact .refl s
    · split
      · exact .refl s
      · split
        · exact .refl s
        · split
          · exact s.writeRecord_evolves _ _
          · exact .refl s

theorem State.byteAction_evolves (s : State) (n : Slot) (r : Request) (f : Byte → Answer) (h : ∀ x, Evolves b s (f x).state) :
    Evolves b s (s.byteAction n r f).state := by
  unfold State.byteAction
  split
  · split
    · exact h _
    · exact .refl s
  · exact .refl s

theorem State.bareRequest_evolves (s : State) (r : Request) (a : Answer) (h : Evolves b s a.state) :
    Evolves b s (s.bareRequest r a).state := by
  unfold State.bareRequest
  split
  · exact h
  · exact .refl s

theorem State.bareAction_evolves (s : State) (n : Slot) (r : Request) (a : Answer) (h : Evolves b s a.state) :
    Evolves b s (s.bareAction n r a).state := by
  refine s.bareRequest_evolves r _ ?_
  split
  · exact h
  · exact .refl s

theorem State.accept_state (s : State) (x : Status) : (s.accept x).state = s := rfl

theorem answerOf_state (x : State × Status) : (answerOf x).state = x.1 := rfl

theorem State.commitRequest_evolves (s : State) (n : Slot) (r : Request) : Evolves b s (s.commitRequest n r).state := by
  unfold State.commitRequest
  refine s.byteAction_evolves n r _ fun x => ?_
  rw [answerOf_state]
  exact s.commitMask_evolves _

theorem State.focusRequest_evolves (s : State) (n : Slot) (r : Request) : Evolves b s (s.focusRequest n r).state := by
  unfold State.focusRequest
  refine s.byteAction_evolves n r _ fun _ => s.checked_evolves _ _ fun f _ => ?_
  cases f with
  | some m => exact s.select_evolves m
  | none => exact s.focusChange_evolves none

theorem State.wakeRequest_evolves (s : State) (n : Slot) (r : Request) : Evolves b s (s.wakeRequest n r).state := by
  unfold State.wakeRequest
  refine s.byteAction_evolves n r _ fun _ => s.checked_evolves _ _ fun f _ => ?_
  cases f with
  | some m =>
    dsimp only
    exact s.trigger_evolves m .wake
  | none =>
    dsimp only
    exact s.wakeAll_evolves

theorem State.shareRequest_evolves (s : State) (n : Slot) (r : Request) : Evolves b s (s.shareRequest n r).state :=
  s.byteAction_evolves n r _ fun _ => s.checked_evolves _ _ fun d _ => s.shareDisplay_evolves d

theorem State.statusPage_evolves (s : State) (n : Slot) (f : Snapshot → List Byte) : Evolves b s (s.statusPage n f).state := by
  unfold State.statusPage
  split
  · exact .refl s
  · exact .mgi s _

theorem State.statusRequest_evolves (s : State) (n : Slot) (r : Request) : Evolves b s (s.statusRequest n r).state := by
  refine s.bareRequest_evolves r _ ?_
  split
  · exact (Evolves.mgi s _).trans (.mgi _ _)
  · exact s.statusPage_evolves n _
  · exact s.statusPage_evolves n _
  · split
    · exact .refl s
    · exact s.statusPage_evolves n _
  · exact .refl s

theorem State.saving_eq_true_iff (s : State) : s.saving = true ↔ ∃ x, s.pl.loader = .saving x := by
  unfold State.saving
  split
  next x h => exact ⟨fun _ => ⟨x, h⟩, fun _ => rfl⟩
  all_goals
    next h =>
      refine ⟨nofun, fun ⟨x, hx⟩ => ?_⟩
      rw [h] at hx
      cases hx

theorem State.atSaveStep_evolves (s : State) (x : SaveStep) (f : State → State) (h : Evolves b s (f s)) :
    Evolves b s (s.atSaveStep x f) := by
  unfold State.atSaveStep
  split
  · exact h
  · exact .refl s

section Loader
variable {s : State} (hload : s.pl.loader ≠ .loading)
include hload

/-- The Profile Loader goes from one state that is not LOADING to another, keeping the save buffer. -/
theorem Evolves.pl_of_not_loading (x : Pl) (hx : x.loader ≠ .loading) (hbuffer : x.saveBuffer = s.pl.saveBuffer) :
    Evolves b s (s.setPl x) :=
  .pl s x ⟨fun h => absurd h hx, fun h => absurd h hload⟩ fun ⟨_, short, _⟩ => by rw [hbuffer]; exact short

/-- A save takes an image that fits the image area (12, R186; 13, R193). -/
theorem State.startSave_evolves : Evolves b s s.startSave := by
  refine .pl s _ ⟨nofun, fun h => absurd h hload⟩ fun ⟨_, _, chords⟩ => ?_
  rw [State.buildImage_length chords]
  decide

theorem State.saveRequest_evolves (n : Slot) (r : Request) : Evolves b s (s.saveRequest n r).state := by
  refine s.bareAction_evolves n r _ ?_
  split
  · exact .refl s
  · exact s.startSave_evolves hload

theorem State.saveFails_evolves : Evolves b s s.saveFails :=
  (Evolves.pl_of_not_loading hload { s.pl with loader := .idle, loadCopy := none } (by nofun) rfl).trans (raiseEvent_evolves _ _)

theorem State.saveSucceeds_evolves : Evolves b s s.saveSucceeds :=
  (Evolves.pl_of_not_loading hload { s.pl with loader := .idle, loadCopy := some s.pl.saveBuffer } (by nofun) rfl).trans
    (raiseEvent_evolves _ _)

/-- The flash and the step of a save change together. -/
theorem State.saveStep_evolves (m : Memory) (hm : FlashLaw s → m.wf = true) (x : SaveStep) :
    Evolves b s ((s.setFlash m).setPl { s.pl with loader := .saving x }) :=
  (Evolves.flash s m hm).trans (.pl_of_not_loading (s := s.setFlash m) hload { s.pl with loader := .saving x } (by nofun) rfl)

theorem State.eraseEnds_evolves : Evolves b s s.eraseEnds := s.saveStep_evolves hload [] (fun _ => Memory.wf_nil) .program

theorem State.programEnds_evolves : Evolves b s s.programEnds :=
  s.saveStep_evolves hload _ (fun ⟨_, short, _⟩ => Memory.wf_unsigned (Memory.wf_ofBytes short)) .verify

theorem State.verifyEnds_evolves (changed : List Host.Cell) : Evolves b s (s.verifyEnds changed) := by
  have canonical (h : FlashLaw s) : (s.flash.change changed).wf = true := Memory.wf_change h.1 changed
  unfold State.verifyEnds
  dsimp only
  split
  · exact saveStep_evolves hload _ canonical .sign
  · exact (Evolves.flash s _ canonical).trans (saveFails_evolves hload)

theorem State.signEnds_evolves (changed : List Host.Cell) : Evolves b s (s.signEnds changed) := by
  have canonical (signature : List Host.Cell) (h : FlashLaw s) : ((s.flash.change signature).change changed).wf = true :=
    Memory.wf_change (Memory.wf_change h.1 signature) changed
  unfold State.signEnds
  dsimp only
  split
  · exact (Evolves.flash s _ (canonical _)).trans (saveSucceeds_evolves hload)
  · exact (Evolves.flash s _ (canonical _)).trans (saveFails_evolves hload)

end Loader

theorem State.flashTimesOut_evolves (s : State) : Evolves b s s.flashTimesOut := by
  unfold State.flashTimesOut
  split
  · exact .refl s
  · split
    next x h =>
      have notLoading : s.pl.loader ≠ .loading := by rw [h]; nofun
      have canonical (h : FlashLaw s) := Memory.wf_failed h.1 h.2.1 x (Config.cutShortFlash s.cuts)
      exact ((Evolves.flash s _ canonical).trans (.cuts _ _)).trans (saveFails_evolves notLoading)
    · exact .pl s _ Iff.rfl fun h => h.2.1
    · exact .refl s

/-! ### The desk restart (12, R188) -/

theorem Port.leads_restarted (p : Port) : p.Leads p.restarted :=
  ⟨fun ⟨hq, _, ho, hs⟩ => ⟨hq, Nat.zero_le _, fun h => by rw [ho h]; rfl, hs⟩, Nat.zero_le _, fun _ => rfl, id, id⟩

/-- A change of every port made slot by slot. -/
theorem Table.foldl_put_each {α : Type} (t : Table α 8) (f : α → α) :
    allSlots.foldl (fun u n => u.put n (f (t.get n))) t = t.each f := by
  refine Table.ext_get fun i => ?_
  have member : ∀ i : Fin 8, i ∈ allSlots := by decide
  have written (l : List Slot) (u : Table α 8) (i : Slot) :
      (l.foldl (fun u n => u.put n (f (t.get n))) u).get i = if i ∈ l then f (t.get i) else u.get i := by
    induction l generalizing u with
    | nil => simp
    | cons n l ih =>
      rw [List.foldl_cons, ih, Table.get_put]
      by_cases hl : i ∈ l <;> by_cases hn : i = n <;> simp [hl, hn]
  rw [written, if_pos (member i), Table.get_each]

/-- Every port's responses emptied (05, R95). -/
def State.emptyResponses (s : State) : State := s.setPorts (s.ports.each Port.restarted)

theorem State.foldl_setPort (s : State) (f : Slot → Port) (l : List Slot) :
    l.foldl (fun u n => u.setPort n (f n)) s = s.setPorts (l.foldl (fun t n => t.put n (f n)) s.ports) := by
  induction l generalizing s with
  | nil => rfl
  | cons n l ih => rw [List.foldl_cons, ih]; rfl

theorem State.emptyResponses_evolves (s : State) : Evolves b s s.emptyResponses := by
  have each : s.emptyResponses = allSlots.foldl (fun u n => u.setPort n (u.port n).restarted) s := by
    have same (l : List Slot) (hl : l.Nodup) (u : State) (hu : ∀ n ∈ l, u.port n = s.port n) :
        l.foldl (fun u n => u.setPort n (u.port n).restarted) u = l.foldl (fun u n => u.setPort n (s.port n).restarted) u := by
      induction l generalizing u with
      | nil => rfl
      | cons n l ih =>
        obtain ⟨hn, hl⟩ := List.nodup_cons.mp hl
        rw [List.foldl_cons, List.foldl_cons, hu n (.head _)]
        refine ih hl _ fun m hm => ?_
        rw [State.setPort_port, if_neg (ne_of_mem_of_not_mem hm hn)]
        exact hu m (.tail _ hm)
    rw [same allSlots (by decide) s fun _ _ => rfl, State.foldl_setPort s fun n => (s.port n).restarted]
    exact congrArg s.setPorts (Table.foldl_put_each s.ports Port.restarted).symm
  rw [each]
  exact .foldl (fun u n => .put u n _ (Port.leads_restarted _) (fun _ => id) rfl) _ _

theorem State.recordDefaulted_evolves (s : State) (x : Byte) : Evolves b s (s.recordDefaulted x) := by
  have recorded : Evolves b s (s.setPl { s.pl with defaulted := x }) := .pl s _ Iff.rfl fun h => h.2.1
  unfold State.recordDefaulted
  dsimp only
  split
  · exact recorded
  · exact recorded.trans (raiseEvent_evolves _ _)

theorem Gu.bounded_of_zero {g : Gu} (hrx : g.rx = 0) (hry : g.ry = 0) (hx : g.accX = Table.all 8 0) (hy : g.accY = Table.all 8 0) :
    g.Bounded := by
  rw [Gu.Bounded, hrx, hry, hx, hy]
  simp

theorem State.resetGu_evolves (s : State) (held : Buttons) : Evolves b s (s.resetGu held) := by
  unfold State.resetGu
  exact (Evolves.gu s _ fun _ => Gu.bounded_of_zero rfl rfl rfl rfl).trans (locate_evolves _)

theorem State.resetCmp_evolves (s : State) : Evolves b s s.resetCmp := (Evolves.cmp s _).trans (.start _ .t2 trivial)

theorem Atu.lawful_empty : (⟨[], []⟩ : Atu).Lawful := ⟨.nil, .nil, .nil, .nil, nofun⟩

/-- The desk restart after the ports' part and the sections installed. -/
def State.restartBlocks (s : State) (mode : FollowMode) (held : Buttons) : State :=
  ((((s.restartFc mode).setHkm .normal).stopTimer .t0).stopTimer .t1).resetGu held

/-- The blocks that a desk restart resets after the GU. -/
def State.restartRest (s : State) : State :=
  (((allSlots.foldl State.restartWake s).setAtu ⟨[], []⟩).setChannels (Table.all 16 Channel.reset)).resetCmp

/-- The CIU's part of a desk restart. -/
def State.restartCiu (s : State) : State := s.setCiu (s.ciu.restart s.composedLeds)

/-- Steps 1 to 3 of a desk restart: the MGI's and the ports' part and the sections installed. -/
def State.restartLoaded (s : State) : State :=
  ((s.restartMgi.restartPorts).install (loadImage (judged s.pl.loadCopy)).1).recordDefaulted (loadImage (judged s.pl.loadCopy)).2

theorem State.deskRestart_eq (s : State) :
    s.deskRestart = (((s.restartLoaded.restartBlocks (loadImage (judged s.pl.loadCopy)).1.input.general.follow
      s.restartLoaded.ciu.buttons).restartRest).restartCiu).startHeads := rfl

theorem State.restartPorts_evolves (s : State) : Evolves b s s.restartPorts :=
  (Evolves.foldl (fun u n => .flush u n) allSlots s).trans (emptyResponses_evolves _)

theorem State.emptyAtu_evolves (s : State) : Evolves b s (s.setAtu ⟨[], []⟩) := .atu s _ fun _ => Atu.lawful_empty

theorem State.resetChannels_evolves (s : State) : Evolves b s (s.setChannels (Table.all 16 Channel.reset)) := by
  refine .channels s _ (fun _ n => ?_) fun _ n => ?_ <;> rw [Table.get_all]
  · exact ⟨nofun, fun h => absurd rfl h⟩
  · exact Channel.lawful_reset

theorem State.restartRest_evolves (s : State) : Evolves b s s.restartRest := by
  unfold State.restartRest
  exact (((Evolves.foldl (fun u n => .rest u n) allSlots s).trans (emptyAtu_evolves _)).trans (resetChannels_evolves _)).trans
    (resetCmp_evolves _)

theorem State.restartCiu_evolves (s : State) : Evolves b s s.restartCiu := .ciu_of_image (s.ciu.restart_image _)

theorem Tables.follows_loadImage (x : Tables) (img : Option (List Byte)) : x.Follows (tablesOf (loadImage img).1) := by
  obtain ⟨writer, hotkeys, chords⟩ := loadImage_lawful img
  exact ⟨fun _ => writer, fun _ => hotkeys, fun _ => chords⟩

theorem State.restartMgi_evolves (s : State) : Evolves b s s.restartMgi := .mgi s _

/-- The command state is NORMAL, with T0 and T1 stopped. -/
theorem State.stopCommand_evolves (s : State) : Evolves b s (((s.setHkm .normal).stopTimer .t0).stopTimer .t1) :=
  .command s .normal .stopped .stopped fun _ => s.setCommandTimers_normal_stopped

section Typing
variable (hb : b.typing = true)
include hb

theorem State.install_evolves (s : State) (x : Sections) (hx : s.tables.Follows (tablesOf x)) : Evolves b s (s.install x) :=
  (Evolves.tables s (tablesOf x) hx fun h => absurd (hb.symm.trans h) (by decide)).trans (.cmp _ _)

theorem State.restartLoaded_evolves (s : State) : Evolves b s s.restartLoaded := by
  unfold State.restartLoaded
  exact ((s.restartMgi_evolves.trans (restartPorts_evolves _)).trans (install_evolves hb _ _ (Tables.follows_loadImage _ _))).trans (recordDefaulted_evolves _ _)

theorem State.restartFc_evolves (s : State) (mode : FollowMode) : Evolves b s (s.restartFc mode) := .input hb s _ rfl

theorem State.restartBlocks_evolves (s : State) (mode : FollowMode) (held : Buttons) : Evolves b s (s.restartBlocks mode held) := by
  unfold State.restartBlocks
  exact ((s.restartFc_evolves hb mode).trans (stopCommand_evolves _)).trans (resetGu_evolves _ _)

theorem State.deskRestart_evolves (s : State) : Evolves b s s.deskRestart := by
  rw [State.deskRestart_eq]
  exact ((((s.restartLoaded_evolves hb).trans (restartBlocks_evolves hb _ _ _)).trans (restartRest_evolves _)).trans
    (restartCiu_evolves _)).trans (startHeads_evolves _)

theorem State.restartRequest_evolves (s : State) (n : Slot) (r : Request) : Evolves b s (s.restartRequest n r).state := by
  refine s.bareAction_evolves n r _ ?_
  split
  · exact .refl s
  · rw [State.accept_state]
    exact s.deskRestart_evolves hb

end Typing

/-! ### Every command the part takes -/

end Sys2Proof.Machine

namespace Sys2Proof

/-- A command that changes the console keyboard's image, or the access table together with it. -/
def Instr.isTyping : Instr → Bool
  | .keyboardReport _ | .consoleDeviceDisconnected _ | .restart _ _ => true
  | _ => false

/-- A command that starts the part anew: RESET itself and the end of a load (12, R183). -/
def Instr.isReset : Instr → Bool
  | .resetAsserted | .resetReleased | .loadEnd _ => true
  | _ => false

end Sys2Proof

namespace Sys2Proof.Machine

variable {b : Mode}

theorem State.whenTaking_evolves {s t : State} {f : State → State} (ht : s.whenTaking f = .next t)
    (h : s.taking = true → Evolves b s (f s)) : Evolves b s t := by
  unfold State.whenTaking at ht
  obtain rfl := Host.Outcome.next.inj ht
  split
  · exact h ‹_›
  · exact .refl s

/-- Every command but RESET and the end of a load is a sequence of elementary changes. -/
theorem exec_evolves {s t : State} {c : Instr} (hc : c.isReset = false) (htyping : c.isTyping = true → b.typing = true)
    (hsender : b.sender = none) (h : exec c s = .next t) : Evolves b s t := by
  have loading (ht : s.taking = true) : s.pl.loader ≠ .loading := (s.taking_iff.mp ht).2
  cases c <;> simp only [Instr.isReset, Bool.true_eq_false] at hc
  all_goals simp only [exec,
    execConsoleDeviceConnected, execConsoleConfigurationEnd, execConsoleDeviceDisconnected, execKeyboardReport,
    execPointerReport, execLedTransferComplete, execLedTransferFailed, execLeadWindowExpiry, execCommandIdleExpiry,
    execBlinkExpiry, execBusPowerSensed, execBusPowerLost, execBusReset, execConfiguration1Selected,
    execConfiguration0Selected, execBusIdle, execResumeSignalling, execResumeSignallingEnd, execSetRemoteWakeupFeature,
    execClearRemoteWakeupFeature, execSlotLedReport, execInPoll, execReportAcknowledged, execManagementInPoll,
    execResponseAcknowledged, execRead, execWrite, execCommit, execFocus, execWake, execShare, execRaise, execWithdraw,
    execStatus, execSave, execRestart, execWakeResponseExpiry, execWakePulseExpiry, execPowerUpWaitExpiry,
    execQueueHoldExpiry, execFrameStart, execLossTimerExpiry, execVerticalBlanking, execSaveEraseEnd, execSaveProgramEnd,
    execSaveVerifyEnd, execSaveSignEnd, execFlashBusyTimeout, execUnknownKind] at h
  case consoleDeviceConnected p => exact State.whenTaking_evolves h fun _ => s.deviceConnects_evolves p
  case consoleConfigurationEnd p d => exact State.whenTaking_evolves h fun _ => s.configurationEnds_evolves p d
  case consoleDeviceDisconnected p => exact State.whenTaking_evolves h fun _ => s.deviceDisconnects_evolves (htyping rfl) p
  case keyboardReport bytes => exact State.whenTaking_evolves h fun _ => s.keyboardReports_evolves (htyping rfl) bytes
  case pointerReport bytes => exact State.whenTaking_evolves h fun _ => s.pointerReports_evolves bytes
  case ledTransferComplete => exact State.whenTaking_evolves h fun _ => .ciu_of_image s.ciu.transferCompletes_image
  case ledTransferFailed => exact State.whenTaking_evolves h fun _ => .ciu_of_image s.ciu.transferFails_image
  case leadWindowExpiry => exact State.whenTaking_evolves h fun _ => s.t0Expires_evolves
  case commandIdleExpiry => exact State.whenTaking_evolves h fun _ => s.t1Expires_evolves
  case blinkExpiry => exact State.whenTaking_evolves h fun _ => s.blinkExpires_evolves
  case busPowerSensed n => exact State.whenTaking_evolves h fun _ => s.powerSensed_evolves n
  case busPowerLost n => exact State.whenTaking_evolves h fun _ => s.powerLost_evolves hsender n
  case busReset n => exact State.whenTaking_evolves h fun _ => s.busResets_evolves hsender n
  case configuration1Selected n => exact State.whenTaking_evolves h fun _ => s.configures_evolves n
  case configuration0Selected n => exact State.whenTaking_evolves h fun _ => s.deconfigures_evolves hsender n
  case busIdle n => exact State.whenTaking_evolves h fun _ => s.suspends_evolves hsender n
  case resumeSignalling n => exact State.whenTaking_evolves h fun _ => s.resumes_evolves n
  case resumeSignallingEnd n => exact State.whenTaking_evolves h fun _ => s.signallingEnds_evolves n
  case setRemoteWakeupFeature n => exact State.whenTaking_evolves h fun _ => s.permitRemoteWake_evolves n true
  case clearRemoteWakeupFeature n => exact State.whenTaking_evolves h fun _ => s.permitRemoteWake_evolves n false
  case slotLedReport n leds => exact State.whenTaking_evolves h fun _ => s.setsLeds_evolves n (ledsOf leds)
  case inPoll n => exact State.whenTaking_evolves h fun _ => s.polls_evolves n
  case reportAcknowledged n => exact State.whenTaking_evolves h fun _ => s.acknowledges_evolves n
  case managementInPoll n => exact State.whenTaking_evolves h fun _ => s.managementPolls_evolves n
  case responseAcknowledged n => exact State.whenTaking_evolves h fun _ => s.acknowledgesResponse_evolves n
  case read n report =>
    exact State.whenTaking_evolves h fun _ => s.takeRequest_evolves n 1 report _ hsender fun _ r => s.readRequest_evolves n r
  case write n report =>
    exact State.whenTaking_evolves h fun _ => s.takeRequest_evolves n 2 report _ hsender fun _ r => s.writeRequest_evolves n r
  case commit n report =>
    exact State.whenTaking_evolves h fun _ => s.takeRequest_evolves n 3 report _ hsender fun _ r => s.commitRequest_evolves n r
  case focus n report =>
    exact State.whenTaking_evolves h fun _ => s.takeRequest_evolves n 4 report _ hsender fun _ r => s.focusRequest_evolves n r
  case wake n report =>
    exact State.whenTaking_evolves h fun _ => s.takeRequest_evolves n 5 report _ hsender fun _ r => s.wakeRequest_evolves n r
  case share n report =>
    exact State.whenTaking_evolves h fun _ => s.takeRequest_evolves n 6 report _ hsender fun _ r => s.shareRequest_evolves n r
  case raise n report =>
    exact State.whenTaking_evolves h fun _ => s.takeRequest_evolves n 7 report _ hsender fun _ r =>
      s.bareRequest_evolves r _ (s.raiseAlert_evolves n)
  case withdraw n report =>
    exact State.whenTaking_evolves h fun _ => s.takeRequest_evolves n 8 report _ hsender fun _ r =>
      s.bareRequest_evolves r _ (s.withdrawAlert_evolves n)
  case status n report =>
    exact State.whenTaking_evolves h fun _ => s.takeRequest_evolves n 9 report _ hsender fun _ r => s.statusRequest_evolves n r
  case save n report =>
    exact State.whenTaking_evolves h fun ht => s.takeRequest_evolves n 10 report _ hsender fun _ r =>
      State.saveRequest_evolves (loading ht) n r
  case restart n report =>
    exact State.whenTaking_evolves h fun _ => s.takeRequest_evolves n 11 report _ hsender fun sender r =>
      State.restartRequest_evolves (b := ⟨b.typing, sender⟩) (htyping rfl) s n r
  case wakeResponseExpiry n => exact State.whenTaking_evolves h fun _ => s.t3Expires_evolves n
  case wakePulseExpiry n => exact State.whenTaking_evolves h fun _ => s.t4Expires_evolves n
  case powerUpWaitExpiry n => exact State.whenTaking_evolves h fun _ => s.t5Expires_evolves n
  case queueHoldExpiry n => exact State.whenTaking_evolves h fun _ => s.t6Expires_evolves n
  case frameStart n period lines => exact State.whenTaking_evolves h fun _ => s.frameStarts_evolves n period.isLt lines
  case lossTimerExpiry n => exact State.whenTaking_evolves h fun _ => s.lossExpires_evolves n
  case verticalBlanking x => exact State.whenTaking_evolves h fun _ => s.headBlanks_evolves x
  case saveEraseEnd =>
    exact State.whenTaking_evolves h fun ht => s.atSaveStep_evolves _ _ (State.eraseEnds_evolves (loading ht))
  case saveProgramEnd =>
    exact State.whenTaking_evolves h fun ht => s.atSaveStep_evolves _ _ (State.programEnds_evolves (loading ht))
  case saveVerifyEnd changed =>
    exact State.whenTaking_evolves h fun ht => s.atSaveStep_evolves _ _ (State.verifyEnds_evolves (loading ht) changed)
  case saveSignEnd changed =>
    exact State.whenTaking_evolves h fun ht => s.atSaveStep_evolves _ _ (State.signEnds_evolves (loading ht) changed)
  case flashBusyTimeout => exact Host.Outcome.next.inj h ▸ s.flashTimesOut_evolves
  case unknownKind n kind report =>
    exact State.whenTaking_evolves h fun _ => s.takeRequest_evolves n kind report _ hsender fun _ _ => .refl s

end Sys2Proof.Machine


/-! The laws that the elementary changes keep, and the same for every command: the ranges of the pointer's arithmetic, the attention
laws, the single timers, the loss timers, and that the part goes on taking events. -/

namespace Sys2Proof.Machine

variable {b : Mode}

/-! ### What changes of the slots leave alone -/

/-- The blocks that a slot's link, queue, sent image and wake sequence do not reach. -/
def State.frame (s : State) :
    List Instr × Bool × Pl × Memory × Tables × Table Channel 16 × Atu × CommandState × Wait × Wait × Wait :=
  (s.pending, s.resetLine, s.pl, s.flash, s.tables, s.channels, s.atu, s.hkm, s.bank.t0, s.bank.t1, s.bank.t2)

@[simp] theorem State.setCiu_frame (s : State) (x : Ciu) : (s.setCiu x).frame = s.frame := rfl
@[simp] theorem State.setFc_frame (s : State) (x : Fc) : (s.setFc x).frame = s.frame := rfl
@[simp] theorem State.setGu_frame (s : State) (x : Gu) : (s.setGu x).frame = s.frame := rfl
@[simp] theorem State.setCmp_frame (s : State) (x : Cmp) : (s.setCmp x).frame = s.frame := rfl
@[simp] theorem State.setMgi_frame (s : State) (x : Mgi) : (s.setMgi x).frame = s.frame := rfl
@[simp] theorem State.setPorts_frame (s : State) (x : Table Port 8) : (s.setPorts x).frame = s.frame := rfl
@[simp] theorem State.setPort_frame (s : State) (n : Slot) (p : Port) : (s.setPort n p).frame = s.frame := rfl
@[simp] theorem State.setWake_frame (s : State) (n : Slot) (w : WakeRecord) : (s.setWake n w).frame = s.frame := rfl
@[simp] theorem State.setSent_frame (s : State) (n : Slot) (k : KeyImage) : (s.setSent n k).frame = s.frame := rfl
@[simp] theorem State.setCuts_frame (s : State) (x : Nat) : (s.setCuts x).frame = s.frame := rfl
@[simp] theorem State.raiseEvent_frame (s : State) (e : EventKind) : (s.raiseEvent e).frame = s.frame := rfl
@[simp] theorem State.updateLeds_frame (s : State) : s.updateLeds.frame = s.frame := rfl
@[simp] theorem State.respond_frame (s : State) (n : Slot) (r : Response) : (s.respond n r).frame = s.frame := rfl
@[simp] theorem State.setPhase_frame (s : State) (n : Slot) (p : Phase) : (s.setPhase n p).frame = s.frame := rfl
@[simp] theorem State.stopWakeTimers_frame (s : State) (n : Slot) : (s.stopWakeTimers n).frame = s.frame := rfl
@[simp] theorem State.startTimer_t3_frame (s : State) (n : Slot) : (s.startTimer (.t3 n)).frame = s.frame := rfl
@[simp] theorem State.startTimer_t4_frame (s : State) (n : Slot) : (s.startTimer (.t4 n)).frame = s.frame := rfl
@[simp] theorem State.startTimer_t5_frame (s : State) (n : Slot) : (s.startTimer (.t5 n)).frame = s.frame := rfl
@[simp] theorem State.setBank_t6_frame (s : State) (n : Slot) (w : Wait) :
    (s.setBank (s.bank.setTimer (.t6 n) w)).frame = s.frame := rfl

@[simp] theorem State.settlePort_frame (s : State) (n : Slot) (p : Port) : (s.settlePort n p).frame = s.frame := by
  unfold State.settlePort
  dsimp only
  split
  · split <;> rfl
  · rfl

@[simp] theorem State.releaseFlush_frame (s : State) (n : Slot) : (s.releaseFlush n).frame = s.frame := by
  rw [State.releaseFlush_eq]
  rfl

@[simp] theorem State.handOver_frame (s : State) (n : Slot) (e : Entry) : (s.handOver n e).frame = s.frame := by
  rcases s.handOver_cases n e with ⟨-, h⟩ | ⟨-, q, -, h⟩ | ⟨-, -, h⟩ <;> rw [h] <;> simp

@[simp] theorem State.leaveFocus_frame (s : State) (f : Option Slot) : (s.leaveFocus f).frame = s.frame := by
  unfold State.leaveFocus
  split
  · rfl
  · exact State.handOver_frame _ _ _

@[simp] theorem State.enterFocus_frame (s : State) (t : Option Slot) : (s.enterFocus t).frame = s.frame := rfl

@[simp] theorem State.fcLoss_frame (s : State) (n : Slot) : (s.fcLoss n).frame = s.frame := by
  rw [State.fcLoss_eq]
  rfl

@[simp] theorem State.fcInputRemoved_frame (s : State) (n : Slot) : (s.fcInputRemoved n).frame = s.frame := by
  unfold State.fcInputRemoved
  split
  · exact s.fcLoss_frame n
  · exact (State.handOver_frame _ _ _).trans (s.fcLoss_frame n)

@[simp] theorem State.wakeOnActive_frame (s : State) (n : Slot) : (s.wakeOnActive n).frame = s.frame := by
  unfold State.wakeOnActive
  split <;> simp

@[simp] theorem State.becomeActive_frame (s : State) (n : Slot) : (s.becomeActive n).frame = s.frame := by
  simp [State.becomeActive]

@[simp] theorem State.enterLinePulse_frame (s : State) (n : Slot) : (s.enterLinePulse n).frame = s.frame := by
  simp [State.enterLinePulse]

@[simp] theorem State.enterLineAwait_frame (s : State) (n : Slot) : (s.enterLineAwait n).frame = s.frame := by
  simp [State.enterLineAwait]

@[simp] theorem State.restartWake_frame (s : State) (n : Slot) : (s.restartWake n).frame = s.frame := by
  rw [State.restartWake_eq]
  rfl

/-! ### The pointer's state in those changes -/

@[simp] theorem State.releaseFlush_gu (s : State) (n : Slot) : (s.releaseFlush n).gu = s.lostGu n := by
  rw [State.releaseFlush_eq]
  rfl

/-- A loss of a slot's buttons keeps the ranges. -/
theorem State.lostGu_bounded {s : State} {n : Slot} (h : s.gu.Bounded) : (s.lostGu n).Bounded := h

theorem State.handOver_bounded {s : State} (n : Slot) (e : Entry) (h : s.gu.Bounded) : (s.handOver n e).gu.Bounded := by
  rcases s.handOver_cases n e with ⟨-, he⟩ | ⟨-, q, -, he⟩ | ⟨-, -, he⟩ <;> rw [he]
  · exact h
  · rw [State.settlePort_gu]
    exact h
  · rw [State.raiseEvent_gu, State.releaseFlush_gu]
    exact State.lostGu_bounded h

theorem State.leaveFocus_bounded {s : State} (f : Option Slot) (h : s.gu.Bounded) : (s.leaveFocus f).gu.Bounded := by
  cases f
  · exact h
  · exact State.handOver_bounded _ _ h

theorem State.wakeOnActive_gu (s : State) (n : Slot) : (s.wakeOnActive n).gu = s.gu := by
  unfold State.wakeOnActive
  split <;> rfl

theorem State.becomeActive_gu (s : State) (n : Slot) : (s.becomeActive n).gu = s.gu := by
  unfold State.becomeActive
  rw [State.wakeOnActive_gu, State.settlePort_gu]

theorem State.restartWake_gu (s : State) (n : Slot) : (s.restartWake n).gu = s.gu := by
  rw [State.restartWake_eq]
  rfl

theorem State.fcLoss_gu (s : State) (n : Slot) : (s.fcLoss n).gu = s.gu := by
  rw [State.fcLoss_eq]
  rfl

theorem State.setPhase_gu (s : State) (n : Slot) (p : Phase) : (s.setPhase n p).gu = s.gu := rfl

theorem State.stopWakeTimers_gu (s : State) (n : Slot) : (s.stopWakeTimers n).gu = s.gu := rfl

theorem State.fcInputRemoved_bounded {s : State} (n : Slot) (h : s.gu.Bounded) : (s.fcInputRemoved n).gu.Bounded := by
  have lost : (s.fcLoss n).gu.Bounded := by rw [State.fcLoss_gu]; exact h
  unfold State.fcInputRemoved
  split
  · exact lost
  · exact State.handOver_bounded n _ lost

/-! ### The laws kept -/

/-- What every sequence of elementary changes keeps, but for the slots' own laws. -/
structure Keeps (s t : State) : Prop where
  pending : t.pending = s.pending
  resetLine : t.resetLine = s.resetLine
  loading : t.pl.loader = .loading ↔ s.pl.loader = .loading
  bounded : s.gu.Bounded → t.gu.Bounded
  attention : s.atu.Lawful → t.atu.Lawful
  command : s.CommandTimed → t.CommandTimed
  blink : s.bank.t2.isRunning = true → t.bank.t2.isRunning = true
  timed : (∀ n, (s.channel n).Timed) → ∀ n, (t.channel n).Timed
  channels : ChannelLaw s → ChannelLaw t
  tables : s.tables.Follows t.tables
  flash : FlashLaw s → FlashLaw t

theorem Tables.Follows.refl (x : Tables) : x.Follows x := ⟨id, id, id⟩

theorem Tables.Follows.trans {x y z : Tables} (h₁ : x.Follows y) (h₂ : y.Follows z) : x.Follows z :=
  ⟨h₂.writer ∘ h₁.writer, h₂.hotkeys ∘ h₁.hotkeys, h₂.chords ∘ h₁.chords⟩

theorem Keeps.refl (s : State) : Keeps s s := ⟨rfl, rfl, Iff.rfl, id, id, id, id, id, id, .refl _, id⟩

theorem Keeps.trans {s t u : State} (h₁ : Keeps s t) (h₂ : Keeps t u) : Keeps s u :=
  ⟨h₂.pending.trans h₁.pending, h₂.resetLine.trans h₁.resetLine, h₂.loading.trans h₁.loading, h₂.bounded ∘ h₁.bounded, h₂.attention ∘ h₁.attention,
    h₂.command ∘ h₁.command, h₂.blink ∘ h₁.blink, h₂.timed ∘ h₁.timed, h₂.channels ∘ h₁.channels, h₁.tables.trans h₂.tables,
    h₂.flash ∘ h₁.flash⟩

/-- The laws of the flash and of the slot records read the flash, the save buffer and the slot records alone. -/
theorem flashLaw_of_eq {s t : State} (hpl : t.pl = s.pl) (hflash : t.flash = s.flash) (htables : t.tables = s.tables)
    (h : FlashLaw s) : FlashLaw t := by
  simp only [FlashLaw, State.slotRecord, hpl, hflash, htables]
  exact h

/-- Changes of the slots keep all this. -/
theorem Keeps.of_frame {s t : State} (h : t.frame = s.frame) (hgu : s.gu.Bounded → t.gu.Bounded) : Keeps s t := by
  simp only [State.frame, Prod.mk.injEq] at h
  obtain ⟨hpending, hreset, hpl, hflash, htables, hchannels, hatu, hhkm, h0, h1, h2⟩ := h
  refine ⟨hpending, hreset, by rw [hpl], hgu, by rw [hatu]; exact id, ?_, by rw [h2]; exact id, ?_, ?_, ?_,
    flashLaw_of_eq hpl hflash htables⟩
  · simp only [State.CommandTimed, hhkm, h0, h1]
    exact id
  · simp only [State.channel, hchannels]
    exact id
  · simp only [ChannelLaw, State.channel, hchannels]
    exact id
  · rw [htables]
    exact .refl _

/-- A timer started keeps all this. -/
theorem State.startTimer_keeps (s : State) (i : TimerId) (h : s.owes i) : Keeps s (s.startTimer i) := by
  cases i with
  | t0 => exact { Keeps.refl s with command := fun ⟨_, h1⟩ => ⟨⟨fun _ => h, fun _ => rfl⟩, h1⟩ }
  | t1 => exact { Keeps.refl s with command := fun ⟨h0, _⟩ => ⟨h0, ⟨fun _ => h, fun _ => rfl⟩⟩ }
  | t2 => exact { Keeps.refl s with blink := fun _ => rfl }
  | t3 | t4 | t5 | t6 => exact .of_frame rfl id

/-- A timer that its owner does not wait for is stopped. -/
theorem State.stopTimer_keeps (s : State) (i : TimerId) (h : ¬ s.owes i) : Keeps s (s.stopTimer i) := by
  cases i with
  | t0 => exact { Keeps.refl s with command := fun ⟨_, h1⟩ => ⟨⟨nofun, fun hc => absurd hc h⟩, h1⟩ }
  | t1 => exact { Keeps.refl s with command := fun ⟨h0, _⟩ => ⟨h0, ⟨nofun, fun hc => absurd hc h⟩⟩ }
  | t2 => exact absurd trivial h
  | t3 | t4 | t5 | t6 => exact .of_frame rfl id

/-- Tables that follow keep all this. -/
theorem State.setTables_keeps (s : State) (x : Tables) (hx : s.tables.Follows x) : Keeps s (s.setTables x) :=
  { Keeps.refl s with
    tables := hx
    flash := fun ⟨canonical, short, chords⟩ => ⟨canonical, short, hx.chords chords⟩ }

theorem Evolves.keeps {s t : State} (h : Evolves b s t) : Keeps s t := by
  induction h with
  | refl s => exact .refl s
  | trans _ _ ih₁ ih₂ => exact ih₁.trans ih₂
  | ciu s | mgi s | cmp s | fc s | put s | answer s | cuts s | image _ s | input _ s | tellOff _ s => exact .of_frame rfl id
  | gu s x h => exact .of_frame rfl h
  | atu s x h => exact { Keeps.refl s with attention := h }
  | command s c w0 w1 h => exact { Keeps.refl s with command := h }
  | start s i h => exact s.startTimer_keeps i h
  | stop s i h => exact s.stopTimer_keeps i h
  | flush s n => exact .of_frame (s.releaseFlush_frame n) (by rw [State.releaseFlush_gu]; exact State.lostGu_bounded)
  | focus s t => exact .of_frame (by simp) (State.leaveFocus_bounded s.fc.focus)
  | settle s n p => exact .of_frame (s.settlePort_frame n p) (by rw [State.settlePort_gu]; exact id)
  | lose s n l => exact .of_frame (by simp) (by rw [State.fcLoss_gu, State.settlePort_gu]; exact id)
  | becomeActive s n => exact .of_frame (s.becomeActive_frame n) (by rw [State.becomeActive_gu]; exact id)
  | linePulse s n w => exact .of_frame (by simp) (by simp [State.enterLinePulse, State.setPhase_gu, State.stopWakeTimers_gu])
  | lineAwait s n w => exact .of_frame (by simp) (by simp [State.enterLineAwait, State.setPhase_gu, State.stopWakeTimers_gu])
  | failed s n w | idle s n w => exact .of_frame (by simp) (by simp [State.setPhase_gu, State.stopWakeTimers_gu])
  | signal s n w => exact .of_frame (by simp) (by simp [State.setPhase_gu, State.stopWakeTimers_gu])
  | await s n => exact .of_frame (by simp) (by simp [State.setPhase_gu])
  | rest s n => exact .of_frame (s.restartWake_frame n) (by rw [State.restartWake_gu]; exact id)
  | tables s x hx => exact s.setTables_keeps x hx
  | inputRemoved s x n hx =>
    exact (s.setTables_keeps x hx).trans (.of_frame (State.fcInputRemoved_frame _ n) (State.fcInputRemoved_bounded n))
  | told s n k l => exact .of_frame (by simp) (by rw [State.settlePort_gu]; exact id)
  | pl s x h hbuffer => exact { Keeps.refl s with loading := h, flash := fun law => ⟨law.1, hbuffer law, law.2.2⟩ }
  | flash s x h => exact { Keeps.refl s with flash := fun law => ⟨h law, law.2⟩ }
  | channels s x h hlawful => exact { Keeps.refl s with timed := h, channels := hlawful }

end Sys2Proof.Machine


/-! What a step is made of, and the first laws that every step keeps: attention, quiet and blink. -/

namespace Sys2Proof.Machine

variable {b : Mode}

/-! ### Steps, by the kind of command -/

/-- A step runs the command at the front of the queue, or lets a millisecond pass. -/
theorem step_cases {s t : State} (h : step s = .next t) :
    (∃ c rest, s.pending = c :: rest ∧ exec c (s.setPending rest) = .next t) ∨ (s.pending = [] ∧ t = s.tick) := by
  unfold step at h
  split at h
  next c rest hp => exact .inl ⟨c, rest, hp, h⟩
  next hp => exact .inr ⟨hp, (Host.Outcome.next.inj h).symm⟩

/-- The state at RESET's release (12, R183). -/
def State.released (s : State) : State := (s.setReset false).setPl { s.pl with loader := .loading, flashBusy := false }

/-- The state in which a load has installed its sections and the focus record, before the other blocks start (12, R183). -/
def State.sectionsLoaded (s : State) (img : Option (List Byte)) : State :=
  let s1 := (State.heldInReset s.pending s.flash s.cuts).setReset false
  ((s1.setPl { s1.pl with loader := .idle, loadCopy := img }).install (loadImage img).1).setFc
    (Fc.reset (loadImage img).1.input.general.startSlot (loadImage img).1.input.general.follow)

theorem State.powerOn_eq (s : State) (img : Option (List Byte)) :
    s.powerOn img = (((s.sectionsLoaded img).resetGu 0).resetCmp.startHeads).recordDefaulted (loadImage img).2 := rfl

/-- What follows the sections of a load is made of elementary changes. -/
theorem State.powerOn_evolves (s : State) (img : Option (List Byte)) : Evolves b (s.sectionsLoaded img) (s.powerOn img) := by
  rw [State.powerOn_eq]
  exact (((State.resetGu_evolves _ 0).trans (resetCmp_evolves _)).trans (startHeads_evolves _)).trans (recordDefaulted_evolves _ _)

/-- A property is kept by every step that each kind of command and the passing of time keep. -/
theorem step_induction {P : State → Prop} {s t : State} (h : step s = .next t) (hs : P s)
    (pending : ∀ s l, P s → P (s.setPending l)) (advance : ∀ s, s.taking = true → P s → P s.advance)
    (reset : ∀ s, P s → P s.resetAsserts) (release : ∀ s, s.resetLine = true → P s → P s.released)
    (load : ∀ s changed img, P s → P ((s.setFlash (s.flash.change changed)).powerOn img))
    (command : ∀ s t c, c.isReset = false → P s → exec c s = .next t → P t) : P t := by
  rcases step_cases h with ⟨c, rest, -, hexec⟩ | ⟨-, rfl⟩
  · have front := pending s rest hs
    generalize s.setPending rest = u at front hexec
    cases hc : c.isReset
    · exact command u t c hc front hexec
    · cases c <;> simp only [Instr.isReset, Bool.false_eq_true] at hc
      case resetAsserted => exact Host.Outcome.next.inj hexec ▸ reset u front
      case resetReleased =>
        obtain rfl := Host.Outcome.next.inj hexec
        unfold State.resetReleases
        split
        · exact release u ‹_› front
        · exact front
      case loadEnd changed =>
        obtain rfl := Host.Outcome.next.inj hexec
        unfold State.loadEnds
        split
        · exact load u changed _ front
        · exact front
  · unfold State.tick
    split
    · exact pending _ _ (advance s ‹_› hs)
    · exact hs

/-- What a state is after RESET is asserted. -/
theorem State.resetAsserts_eq (s : State) : ∃ flash cuts, s.resetAsserts = State.heldInReset s.pending flash cuts := by
  unfold State.resetAsserts
  split <;> exact ⟨_, _, rfl⟩

/-! ### What no command does -/

/-- Settles O4: the meaning of such a command is guarded by `whenTaking`. -/
theorem noEventIsTakenWhileResetOrLoading : Obligations.NoEventIsTakenWhileResetOrLoading := by
  intro c s taking hc
  cases c <;> simp only [Instr.isStartUp, Bool.true_eq_false] at hc
  all_goals simp only [exec,
    execConsoleDeviceConnected, execConsoleConfigurationEnd, execConsoleDeviceDisconnected, execKeyboardReport,
    execPointerReport, execLedTransferComplete, execLedTransferFailed, execLeadWindowExpiry, execCommandIdleExpiry,
    execBlinkExpiry, execBusPowerSensed, execBusPowerLost, execBusReset, execConfiguration1Selected,
    execConfiguration0Selected, execBusIdle, execResumeSignalling, execResumeSignallingEnd, execSetRemoteWakeupFeature,
    execClearRemoteWakeupFeature, execSlotLedReport, execInPoll, execReportAcknowledged, execManagementInPoll,
    execResponseAcknowledged, execRead, execWrite, execCommit, execFocus, execWake, execShare, execRaise, execWithdraw,
    execStatus, execSave, execRestart, execWakeResponseExpiry, execWakePulseExpiry, execPowerUpWaitExpiry,
    execQueueHoldExpiry, execFrameStart, execLossTimerExpiry, execVerticalBlanking, execSaveEraseEnd, execSaveProgramEnd,
    execSaveVerifyEnd, execSaveSignEnd, execUnknownKind]
  all_goals exact State.whenTaking_of_not_taking taking _

/-- Settles O3: no elementary change touches the queue; RESET and the end of a load start the part anew around it. -/
theorem commandsKeepTheQueue : Obligations.CommandsKeepTheQueue := by
  intro c s t h
  cases hc : c.isReset
  · exact (exec_evolves (b := ⟨true, none⟩) hc (fun _ => rfl) rfl h).keeps.pending
  · cases c <;> simp only [Instr.isReset, Bool.false_eq_true] at hc
    all_goals obtain rfl := Host.Outcome.next.inj h
    case resetAsserted =>
      obtain ⟨flash, cuts, he⟩ := s.resetAsserts_eq
      rw [he]
      rfl
    case resetReleased =>
      unfold State.resetReleases
      split <;> rfl
    case loadEnd changed =>
      unfold State.loadEnds
      split
      · exact (State.powerOn_evolves (b := ⟨true, none⟩) _ _).keeps.pending
      · rfl

/-! ### Attention (07) -/

/-- Settles O56: every change of the pending set and of the stack is one that the laws survive, and RESET and a load empty both. -/
theorem stepsKeepTheAttention : Obligations.StepsKeepTheAttention := by
  intro s t hs h
  refine step_induction (P := fun s => s.atu.Lawful) h hs (fun _ _ h => h) (fun _ _ h => h) ?_ (fun _ _ h => h) ?_ ?_
  · intro s _
    obtain ⟨flash, cuts, he⟩ := s.resetAsserts_eq
    rw [he]
    exact Atu.lawful_empty
  · exact fun s changed img _ => (State.powerOn_evolves (b := ⟨true, none⟩) _ img).keeps.attention Atu.lawful_empty
  · exact fun s t c hc hs h => (exec_evolves (b := ⟨true, none⟩) hc (fun _ => rfl) rfl h).keeps.attention hs

/-! ### Quiet and blink (10, R164; 12, R183) -/

theorem Keeps.taking {s t : State} (h : Keeps s t) : t.taking = s.taking := by
  have loading : decide (t.pl.loader ≠ .loading) = decide (s.pl.loader ≠ .loading) := by
    simp only [ne_eq, decide_not, h.loading]
  rw [State.taking, State.taking, h.resetLine, loading]

theorem State.heldInReset_quiet (pending : List Instr) (flash : Memory) (cuts : Nat) :
    QuietLaw (State.heldInReset pending flash cuts) := by
  intro _
  refine ⟨fun n => ?_, rfl, rfl, fun d => ?_, rfl, fun n => ?_, rfl⟩
  · show ((Table.all 8 Port.reset).get n).link = .off
    rw [Table.get_all]
    rfl
  · show ((Table.all 4 Head.stopped).get d).running = false
    rw [Table.get_all]
    rfl
  · show ((Table.all 8 WakeRecord.reset).get n).line = false
    rw [Table.get_all]
    rfl

/-- T2 starts at the end of a load (09, R160). -/
theorem State.powerOn_blink (s : State) (img : Option (List Byte)) : (s.powerOn img).bank.t2.isRunning = true := by
  rw [State.powerOn_eq]
  have later : Evolves ⟨true, none⟩ ((s.sectionsLoaded img).resetGu 0).resetCmp
      (((s.sectionsLoaded img).resetGu 0).resetCmp.startHeads.recordDefaulted (loadImage img).2) :=
    (startHeads_evolves _).trans (recordDefaulted_evolves _ _)
  exact later.keeps.blink rfl

/-- The part takes events at the end of a load (12, R183). -/
theorem State.powerOn_taking (s : State) (img : Option (List Byte)) : (s.powerOn img).taking = true :=
  (State.powerOn_evolves (b := ⟨true, none⟩) s img).keeps.taking

/-- While the part takes no events a command other than RESET and the end of a load at most marks the flash as busy (12, R182). -/
theorem exec_of_not_taking {s t : State} {c : Instr} (hc : c.isReset = false) (htaking : s.taking = false)
    (h : exec c s = .next t) : t = s ∨ t = s.setPl { s.pl with flashBusy := true } := by
  by_cases hstart : c.isStartUp = true
  · cases c <;> simp only [Instr.isStartUp, Bool.false_eq_true] at hstart <;> simp only [Instr.isReset, Bool.true_eq_false] at hc
    case flashBusyTimeout =>
      obtain rfl := Host.Outcome.next.inj h
      unfold State.flashTimesOut
      split
      · exact .inl rfl
      next reset =>
        have loading : s.pl.loader = .loading := by simpa [State.taking, reset] using htaking
        rw [loading]
        exact .inr rfl
  · rw [noEventIsTakenWhileResetOrLoading c s htaking (by simpa using hstart)] at h
    exact .inl (Host.Outcome.next.inj h).symm

/-- Settles O57: RESET stops everything that QuietLaw names and the release changes none of it; no other command ends or begins
the taking of events, and T2, which starts with it, is never stopped. -/
theorem stepsKeepQuietAndBlink : Obligations.StepsKeepQuietAndBlink := by
  intro s t hquiet hblink h
  refine step_induction (P := fun s => QuietLaw s ∧ BlinkLaw s) h ⟨hquiet, hblink⟩ (fun _ _ h => h) ?advance ?reset ?release ?load
    ?command
  case advance =>
    refine fun s taking ⟨_, blink⟩ => ⟨fun quiet => absurd (taking.symm.trans quiet) (by decide), fun _ => ?_⟩
    exact (Wait.isRunning_advance s.bank.t2).trans (blink taking)
  case reset =>
    intro s _
    obtain ⟨flash, cuts, he⟩ := s.resetAsserts_eq
    rw [he]
    exact ⟨State.heldInReset_quiet _ _ _, nofun⟩
  case release =>
    intro s reset ⟨quiet, _⟩
    refine ⟨fun _ => quiet (by simp [State.taking, reset]), fun taking => ?_⟩
    simp [State.taking, State.released] at taking
  case load =>
    exact fun s changed img _ => ⟨fun quiet => absurd ((State.powerOn_taking _ img).symm.trans quiet) (by decide),
      fun _ => State.powerOn_blink _ img⟩
  case command =>
    intro s t c hc ⟨quiet, blink⟩ hexec
    have keeps := (exec_evolves (b := ⟨true, none⟩) hc (fun _ => rfl) rfl hexec).keeps
    refine ⟨fun notTaking => ?_, fun taking => keeps.blink (blink (keeps.taking ▸ taking))⟩
    have quietNow := quiet (keeps.taking ▸ notTaking)
    rcases exec_of_not_taking hc (keeps.taking ▸ notTaking) hexec with rfl | rfl
    · exact quietNow
    · exact quietNow

end Sys2Proof.Machine


/-! The flash, the access and hotkey tables, the residues and the channels: laws that every step keeps. -/

namespace Sys2Proof.Machine

/-! ### The flash (12, section 12.1) -/

theorem State.resetAsserts_flash {s : State} (h : FlashLaw s) : s.resetAsserts.flash.wf = true := by
  obtain ⟨canonical, short, -⟩ := h
  unfold State.resetAsserts
  split
  · exact Memory.wf_abandoned canonical short _ _
  · exact canonical
  · exact canonical

theorem State.heldInReset_tables (pending : List Instr) (flash : Memory) (cuts : Nat) :
    (State.heldInReset pending flash cuts).tables = tablesOf defaultSections := rfl

theorem flashLaw_heldInReset {pending : List Instr} {flash : Memory} {cuts : Nat} (h : flash.wf = true) :
    FlashLaw (State.heldInReset pending flash cuts) :=
  ⟨h, Nat.zero_le _, defaultSections_lawful.2.2⟩

theorem flashLaw_sectionsLoaded {s : State} (img : Option (List Byte)) (h : s.flash.wf = true) : FlashLaw (s.sectionsLoaded img) :=
  ⟨h, Nat.zero_le _, (loadImage_lawful img).2.2⟩

/-- Settles O52: what the steps of a save and changes from outside leave is canonical; a save takes an image of 2861 bytes; WRITE
and a load accept no slot record with more than four chords. -/
theorem stepsKeepTheFlash : Obligations.StepsKeepTheFlash := by
  intro s t hs h
  refine step_induction (P := FlashLaw) h hs (fun _ _ h => h) (fun _ _ h => h) ?reset (fun _ _ h => h) ?load ?command
  case reset =>
    intro s hs
    obtain ⟨flash, cuts, he⟩ := s.resetAsserts_eq
    have canonical := State.resetAsserts_flash hs
    rw [he] at canonical ⊢
    exact flashLaw_heldInReset canonical
  case load =>
    intro s changed img hs
    have canonical : (s.setFlash (s.flash.change changed)).flash.wf = true := Memory.wf_change hs.1 changed
    exact (State.powerOn_evolves (b := ⟨true, none⟩) _ img).keeps.flash (flashLaw_sectionsLoaded img canonical)
  case command =>
    exact fun s t c hc hs hexec => (exec_evolves (b := ⟨true, none⟩) hc (fun _ => rfl) rfl hexec).keeps.flash hs

/-! ### The access and the hotkey table (11, R170; 02, R26, R27) -/

/-- The laws of the access and of the hotkey table together. -/
def Tables.WriterAndHotkeys (x : Tables) : Prop := hasAccessWriter x.access = true ∧ x.HotkeysLawful

theorem Tables.Follows.writerAndHotkeys {x y : Tables} (h : x.Follows y) (hx : x.WriterAndHotkeys) : y.WriterAndHotkeys :=
  ⟨h.writer hx.1, h.hotkeys hx.2⟩

theorem Tables.writerAndHotkeys_loadImage (img : Option (List Byte)) : (tablesOf (loadImage img).1).WriterAndHotkeys := by
  obtain ⟨writer, hotkeys, -⟩ := loadImage_lawful img
  exact ⟨writer, hotkeys⟩

/-- Settles O58: WRITE refuses what would break the laws, a load and a desk restart install lawful tables, and nothing else
changes these tables. -/
theorem stepsKeepAccessAndHotkeys : Obligations.StepsKeepAccessAndHotkeys := by
  intro s t haccess hhotkeys h
  refine step_induction (P := fun s => s.tables.WriterAndHotkeys) h ⟨haccess, hhotkeys⟩ (fun _ _ h => h) (fun _ _ h => h) ?reset
    (fun _ _ h => h) ?load ?command
  case reset =>
    intro s _
    obtain ⟨flash, cuts, he⟩ := s.resetAsserts_eq
    rw [he]
    exact Tables.writerAndHotkeys_loadImage none
  case load =>
    exact fun s changed img _ => (State.powerOn_evolves (b := ⟨true, none⟩) _ img).keeps.tables.writerAndHotkeys
      (Tables.writerAndHotkeys_loadImage img)
  case command =>
    exact fun s t c hc hs hexec =>
      (exec_evolves (b := ⟨true, none⟩) hc (fun _ => rfl) rfl hexec).keeps.tables.writerAndHotkeys hs

/-! ### Residues, accumulators and channels (04, R63, R70; 08) -/

theorem Gu.bounded_reset : Gu.reset.Bounded := by
  refine ⟨by decide, by decide, by decide, by decide, fun n => ?_⟩
  simp only [Gu.reset, Table.get_all]
  decide

theorem channelLaw_reset {s : State} (h : s.channels = Table.all 16 Channel.reset) : ChannelLaw s := by
  intro n
  rw [State.channel, h, Table.get_all]
  exact Channel.lawful_reset

/-- A millisecond changes no more of a channel than its running loss timer. -/
theorem Channel.lawful_advance {c : Channel} (h : c.Lawful) : ({ c with lossTimer := c.lossTimer.advance } : Channel).Lawful := by
  obtain ⟨reset, rest⟩ := h
  refine ⟨fun hlock => ?_, rest⟩
  rw [reset hlock]
  rfl

theorem State.advance_channel (s : State) (n : SourceIx) :
    s.advance.channel n = { s.channel n with lossTimer := (s.channel n).lossTimer.advance } := by
  simp [State.advance, State.channel]

/-- Settles O59: the computations keep the ranges (`computedMove_*`, `newAccumulator_bounds`), and a channel is measured, locked,
compared and reset within its law. -/
theorem stepsKeepResiduesAndChannels : Obligations.StepsKeepResiduesAndChannels := by
  intro s t h
  refine ⟨fun hs => ?residues, fun hs => ?channels⟩
  case residues =>
    refine step_induction (P := fun s => s.gu.Bounded) h hs (fun _ _ h => h) (fun _ _ h => h) ?_ (fun _ _ h => h) ?_ ?_
    · intro s _
      obtain ⟨flash, cuts, he⟩ := s.resetAsserts_eq
      rw [he]
      exact Gu.bounded_reset
    · exact fun s changed img _ => (State.powerOn_evolves (b := ⟨true, none⟩) _ img).keeps.bounded Gu.bounded_reset
    · exact fun s t c hc hs hexec => (exec_evolves (b := ⟨true, none⟩) hc (fun _ => rfl) rfl hexec).keeps.bounded hs
  case channels =>
    refine step_induction (P := ChannelLaw) h hs (fun _ _ h => h) ?_ ?_ (fun _ _ h => h) ?_ ?_
    · intro s _ hs n
      rw [State.advance_channel]
      exact Channel.lawful_advance (hs n)
    · intro s _
      obtain ⟨flash, cuts, he⟩ := s.resetAsserts_eq
      rw [he]
      exact channelLaw_reset rfl
    · exact fun s changed img _ => (State.powerOn_evolves (b := ⟨true, none⟩) _ img).keeps.channels (channelLaw_reset rfl)
    · exact fun s t c hc hs hexec => (exec_evolves (b := ⟨true, none⟩) hc (fun _ => rfl) rfl hexec).keeps.channels hs

/-! ### The state after reset -/

/-- Settles O60: each law read off the power-on values. -/
theorem resetHoldsTheLaws : Obligations.ResetHoldsTheLaws := by
  have off (n : Slot) : State.reset.port n = Port.reset := Table.get_all _ n
  have unsent (n : Slot) : State.reset.sent n = KeyImage.empty := Table.get_all _ n
  have asleep (n : Slot) : State.reset.wake n = WakeRecord.reset := Table.get_all _ n
  obtain ⟨writer, hotkeys, -⟩ := defaultSections_lawful
  refine ⟨flashLaw_heldInReset rfl, fun n => ?ports, fun n => ?images, fun n k hk => ?keys, ⟨fun n => ?sent, fun _ => rfl⟩,
    fun n => ?wakes, ⟨⟨nofun, nofun⟩, ⟨nofun, nofun⟩, fun n => ?timers, fun n => ?loss⟩, Atu.lawful_empty,
    State.heldInReset_quiet _ _ _, nofun, writer, hotkeys, Gu.bounded_reset, channelLaw_reset rfl, rfl, rfl⟩
  case ports =>
    rw [off]
    exact Port.lawful_reset
  case images =>
    rw [off, unsent]
    rfl
  case keys =>
    rw [unsent] at hk
    cases hk
  case sent =>
    rw [unsent]
    split <;> rfl
  case wakes =>
    rw [asleep]
    exact ⟨fun _ => rfl, ⟨nofun, nofun⟩, Nat.zero_le _, fun h => by cases h <;> contradiction⟩
  case timers =>
    have stopped (i : TimerId) (h : i = .t3 n ∨ i = .t4 n ∨ i = .t5 n ∨ i = .t6 n) : State.reset.timer i = .stopped := by
      rcases h with rfl | rfl | rfl | rfl <;> exact Table.get_all _ n
    simp only [stopped, true_or, or_true, asleep, off]
    decide
  case loss =>
    have channel : State.reset.channel n = Channel.reset := Table.get_all _ n
    rw [channel]
    decide

end Sys2Proof.Machine


/-! The slot ports and their queues (05): every step keeps their capacities, an OFF port at its power-on values, and each slot's newest
KEYBOARD image equal to its sent image. -/

namespace Sys2Proof.Machine

variable {b : Mode}

/-! ### Sent images after the elementary changes -/

theorem State.releaseFlush_sent (s : State) (n m : Slot) :
    (s.releaseFlush n).sent m = if m = n then KeyImage.empty else s.sent m := by
  rw [State.releaseFlush_eq]
  exact Table.get_put s.fc.sent n m _

theorem State.fcLoss_sent (s : State) (n m : Slot) : (s.fcLoss n).sent m = if m = n then KeyImage.empty else s.sent m := by
  rw [State.fcLoss_eq]
  exact Table.get_put s.fc.sent n m _

theorem State.suppressHeld_sent (s : State) (n m : Slot) :
    (s.suppressHeld n).sent m = if m = n then KeyImage.empty else s.sent m := Table.get_put s.fc.sent n m _

theorem State.settlePort_sent (s : State) (n m : Slot) (p : Port) : (s.settlePort n p).sent m = s.sent m := by
  rw [State.sent, State.settlePort_fc]
  rfl

theorem State.wakeOnActive_sent (s : State) (n m : Slot) : (s.wakeOnActive n).sent m = s.sent m := by
  unfold State.wakeOnActive
  split <;> rfl

theorem State.restartWake_sent (s : State) (n m : Slot) : (s.restartWake n).sent m = s.sent m := by
  rw [State.restartWake_eq]
  rfl

/-! ### One slot's port and sent image -/

/-- The newest KEYBOARD image of a port is `k` (05, R91). -/
def Port.Shows (p : Port) (k : KeyImage) : Prop := newestImage p.lastKeyboard p.queue = k

/-- Slot `n`'s port stays lawful, and shows the sent image where it did. -/
def SlotKeeps (s t : State) (n : Slot) : Prop :=
  (s.port n).Lawful → (t.port n).Lawful ∧ ((s.port n).Shows (s.sent n) → (t.port n).Shows (t.sent n))

theorem SlotKeeps.of_eq {s t : State} {n : Slot} (hport : t.port n = s.port n) (hsent : t.sent n = s.sent n) : SlotKeeps s t n := by
  intro h
  rw [hport, hsent]
  exact ⟨h, id⟩

theorem SlotKeeps.trans {s t u : State} {n : Slot} (h₁ : SlotKeeps s t n) (h₂ : SlotKeeps t u n) : SlotKeeps s u n := by
  intro h
  obtain ⟨lawful, shows⟩ := h₁ h
  obtain ⟨lawful', shows'⟩ := h₂ lawful
  exact ⟨lawful', shows' ∘ shows⟩

theorem Port.flushed_lawful {p : Port} (h : p.Lawful) : p.flushed.Lawful := by
  obtain ⟨-, responses, off, signalling⟩ := h
  refine ⟨?_, responses, fun hl => ?_, signalling⟩
  · simp only [Port.flushed, Port.flushEntries, List.length_append]
    split <;> split <;> decide
  · rw [off hl]
    rfl

theorem Port.flushed_shows (p : Port) : p.flushed.Shows KeyImage.empty := by
  simp only [Port.Shows, Port.flushed, Port.flushEntries, newestImage]
  split
  next h => split <;> exact h
  · split <;> rfl

/-- An OFF port shows the empty image. -/
theorem Port.shows_of_off {p : Port} (h : p.Lawful) (hl : p.link = .off) : p.Shows KeyImage.empty := by
  rw [h.2.2.1 hl]
  rfl

theorem SlotKeeps.releaseFlush (s : State) (n m : Slot) : SlotKeeps s (s.releaseFlush n) m := by
  by_cases hm : m = n
  · subst hm
    intro h
    rw [State.releaseFlush_port, State.releaseFlush_sent, if_pos rfl, if_pos rfl]
    exact ⟨Port.flushed_lawful h, fun _ => (s.port m).flushed_shows⟩
  · exact .of_eq (by rw [State.releaseFlush_port, if_neg hm]) (by rw [State.releaseFlush_sent, if_neg hm])

/-- Once its image is handed over a slot shows it, whatever it showed before (05, R91). -/
theorem State.queueImage_shows (s : State) (n : Slot) (h : (s.port n).Lawful) (hoff : s.link n = .off → s.sent n = KeyImage.empty) :
    ((s.queueImage n).port n).Lawful ∧ ((s.queueImage n).port n).Shows ((s.queueImage n).sent n) := by
  unfold State.queueImage
  rcases s.handOver_cases n (.keyboard (s.sent n)) with ⟨hlink, he⟩ | ⟨hlink, q, hq, he⟩ | ⟨-, -, he⟩ <;> rw [he]
  · rw [hoff hlink]
    exact ⟨h, Port.shows_of_off h hlink⟩
  · rw [State.settlePort_port_same, State.settlePort_sent]
    obtain ⟨length, responses, -, signalling⟩ := h
    exact ⟨⟨takeEntry_length hq length, responses, fun hl => absurd hl hlink, signalling⟩, takeEntry_image_keyboard hq _⟩
  · rw [State.raiseEvent_port, State.raiseEvent_sent, State.releaseFlush_port, State.releaseFlush_sent, if_pos rfl, if_pos rfl]
    exact ⟨Port.flushed_lawful h, (s.port n).flushed_shows⟩

theorem State.queueImage_others (s : State) {n m : Slot} (hm : m ≠ n) :
    (s.queueImage n).port m = s.port m ∧ (s.queueImage n).sent m = s.sent m := by
  unfold State.queueImage
  rcases s.handOver_cases n (.keyboard (s.sent n)) with ⟨-, he⟩ | ⟨-, q, -, he⟩ | ⟨-, -, he⟩ <;> rw [he]
  · exact ⟨rfl, rfl⟩
  · exact ⟨s.settlePort_port_ne _ hm, s.settlePort_sent n m _⟩
  · rw [State.raiseEvent_port, State.raiseEvent_sent, State.releaseFlush_port, State.releaseFlush_sent, if_neg hm, if_neg hm]
    exact ⟨rfl, rfl⟩

/-- A slot whose sent image has become empty is told so. -/
theorem SlotKeeps.queueEmpty {s u : State} {n : Slot} (hport : ∀ m, u.port m = s.port m)
    (hsent : ∀ m, u.sent m = if m = n then KeyImage.empty else s.sent m) (m : Slot) : SlotKeeps s (u.queueImage n) m := by
  by_cases hm : m = n
  · subst hm
    intro h
    obtain ⟨lawful, shows⟩ := u.queueImage_shows m (by rw [hport]; exact h) fun _ => by rw [hsent, if_pos rfl]
    exact ⟨lawful, fun _ => shows⟩
  · obtain ⟨port, sent⟩ := u.queueImage_others hm
    exact .of_eq (port.trans (hport m)) (sent.trans (by rw [hsent, if_neg hm]))

theorem SlotKeeps.leaveFocus (s : State) (f : Option Slot) (m : Slot) : SlotKeeps s (s.leaveFocus f) m := by
  cases f with
  | none => exact .of_eq rfl rfl
  | some n => exact .queueEmpty (s := s) (u := s.suppressHeld n) (fun _ => rfl) (s.suppressHeld_sent n) m

theorem SlotKeeps.fcInputRemoved (s : State) (n m : Slot) : SlotKeeps s (s.fcInputRemoved n) m := by
  unfold State.fcInputRemoved
  split
  next hempty =>
    refine .of_eq (s.fcLoss_port n m) ?_
    rw [State.fcLoss_sent]
    split
    next hm => rw [hm, hempty]
    · rfl
  · exact .queueEmpty (s.fcLoss_port n) (s.fcLoss_sent n) m

/-- A port that leads on from the one it replaces. -/
theorem SlotKeeps.of_leads {s t : State} {n : Slot} {p : Port} (h : (s.port n).Leads p) (hport : t.port n = p)
    (hsent : t.sent n = s.sent n) : SlotKeeps s t n := by
  intro lawful
  rw [hport, hsent, Port.Shows, Port.Shows, h.image lawful]
  exact ⟨h.lawful lawful, id⟩

/-- A port replaced at slot `n` by one that leads on. -/
theorem SlotKeeps.of_put {s t : State} {n : Slot} {p : Port} (h : (s.port n).Leads p)
    (hport : ∀ m, t.port m = if m = n then p else s.port m) (hsent : ∀ m, t.sent m = s.sent m) (m : Slot) : SlotKeeps s t m := by
  by_cases hm : m = n
  · subst hm
    exact .of_leads h (by rw [hport, if_pos rfl]) (hsent m)
  · exact .of_eq (by rw [hport, if_neg hm]) (hsent m)

theorem SlotKeeps.settlePort {s : State} {n : Slot} {p : Port} (h : (s.port n).Leads p) (m : Slot) : SlotKeeps s (s.settlePort n p) m :=
  .of_put h (fun m => s.settlePort_port n m p) (fun m => s.settlePort_sent n m p) m

/-- A link reset leaves a lawful port, and a slot whose sent image is empty. -/
theorem SlotKeeps.lose (s : State) (n : Slot) {l : Link} (hl : l = .off ∨ l = .attached) (m : Slot) :
    SlotKeeps s ((s.settlePort n (Port.linkReset l)).fcLoss n) m := by
  by_cases hm : m = n
  · subst hm
    intro _
    rw [State.fcLoss_port, State.fcLoss_sent, if_pos rfl, State.settlePort_port_same]
    refine ⟨⟨Nat.zero_le _, Nat.zero_le _, fun h => ?_, nofun⟩, fun _ => rfl⟩
    rcases hl with rfl | rfl
    · rfl
    · cases h
  · refine .of_eq ?_ ?_
    · rw [State.fcLoss_port, State.settlePort_port_ne _ _ hm]
    · rw [State.fcLoss_sent, if_neg hm, State.settlePort_sent]

/-- The link changes, the signalling ends, and the queue with what was delivered stays. -/
theorem SlotKeeps.of_link {s t : State} {n : Slot} {p : Port} (hport : ∀ m, t.port m = if m = n then p else s.port m)
    (hsent : ∀ m, t.sent m = s.sent m) (hqueue : p.queue = (s.port n).queue) (hlast : p.lastKeyboard = (s.port n).lastKeyboard)
    (hresponses : p.responses = (s.port n).responses) (hoff : p.link = .off → (s.port n).Lawful → p = Port.reset)
    (hsignalling : p.signalling.isRunning = true → p.link = .resuming) (m : Slot) : SlotKeeps s t m := by
  by_cases hm : m = n
  · subst hm
    intro lawful
    rw [hport, if_pos rfl, hsent, Port.Shows, Port.Shows, hqueue, hlast]
    obtain ⟨length, responses, -⟩ := id lawful
    exact ⟨⟨hqueue ▸ length, hresponses ▸ responses, fun h => hoff h lawful, hsignalling⟩, id⟩
  · exact .of_eq (by rw [hport, if_neg hm]) (hsent m)

theorem Evolves.slotKeeps {s t : State} (h : Evolves b s t) (m : Slot) : SlotKeeps s t m := by
  induction h with
  | trans _ _ ih₁ ih₂ => exact ih₁.trans ih₂
  | refl s | ciu s | mgi s | cmp s | gu s | atu s | command s | start s | stop s | tables s | pl s | flash s | cuts s | channels s
  | image _ s => exact .of_eq rfl rfl
  | fc s x _ _ _ hsent | input _ s x hsent => exact .of_eq rfl (congrArg (Table.get · m) hsent)
  | flush s n => exact .releaseFlush s n m
  | focus s t => exact .leaveFocus s s.fc.focus m
  | settle s n p h => exact .settlePort h m
  | put s n p h => exact .of_put h (fun m => s.setPort_port n m p) (fun _ => rfl) m
  | answer s n r h =>
    by_cases hm : m = n
    · subst hm
      intro lawful
      rw [State.respond, State.setPort_port_same]
      obtain ⟨length, responses, -, signalling⟩ := lawful
      refine ⟨⟨length, ?_, fun hl => absurd (h.1.symm.trans hl) (by decide), signalling⟩, id⟩
      rw [List.length_append]
      exact h.2
    · exact .of_eq (by rw [State.respond, State.setPort_port, if_neg hm]) rfl
  | lose s n l hl => exact .lose s n hl m
  | becomeActive s n h =>
    refine .of_link (n := n) (p := { s.port n with link := .active, signalling := .stopped }) (fun m => ?_) (fun m => ?_) rfl rfl rfl
      nofun nofun m
    · rw [State.becomeActive, State.wakeOnActive_port, State.settlePort_port]
    · rw [State.becomeActive, State.wakeOnActive_sent, State.settlePort_sent]
  | linePulse s n w | lineAwait s n w | failed s n w | idle s n w =>
    refine .of_eq ?_ ?_ <;>
      simp only [State.enterLinePulse, State.enterLineAwait, State.startTimer_port, State.setPhase_port, State.stopWakeTimers_port,
        State.setWake_port, State.startTimer_sent, State.setPhase_sent, State.stopWakeTimers_sent, State.setWake_sent]
  | signal s n w hw h =>
    refine .of_link (n := n) (p := (s.port n).startSignal) (fun m => ?_) (fun m => ?_) rfl rfl rfl nofun (fun _ => rfl) m
    · rw [State.settlePort_port]
      rfl
    · rw [State.settlePort_sent]
      rfl
  | await s n h =>
    refine .of_link (n := n) (p := { s.port n with signalling := .stopped }) (fun m => s.setPort_port n m _) (fun m => rfl) rfl rfl rfl
      (fun hl lawful => ?_) nofun m
    rw [lawful.2.2.1 hl]
    rfl
  | rest s n =>
    refine .of_link (n := n) (p := (s.port n).wakeRestarted) (fun m => s.restartWake_port n m) (fun m => s.restartWake_sent n m)
      rfl rfl rfl (fun hl lawful => ?_) nofun m
    have off : (s.port n).link = .off := by
      simp only [Port.wakeRestarted] at hl
      split at hl
      · cases hl
      · exact hl
    rw [lawful.2.2.1 off]
    rfl
  | inputRemoved s x n => exact .fcInputRemoved (s.setTables x) n m
  | told s n k l hk hlink hlength hnewest =>
    by_cases hm : m = n
    · subst hm
      intro ⟨length, responses, _, signalling⟩
      rw [State.settlePort_port_same, State.settlePort_sent, State.setSent_sent, if_pos rfl]
      exact ⟨⟨hlength length, responses, fun hl => absurd hl hlink, signalling⟩, fun _ => hnewest⟩
    · refine .of_eq ?_ ?_
      · rw [State.settlePort_port_ne _ _ hm]
        rfl
      · rw [State.settlePort_sent, State.setSent_sent, if_neg hm]
  | tellOff _ s n k hlink h =>
    by_cases hm : m = n
    · subst hm
      intro lawful
      refine ⟨lawful, fun shows => ?_⟩
      have empty := Port.shows_of_off lawful hlink
      rw [Port.Shows] at shows empty
      have stays : k = KeyImage.empty := h (shows.symm.trans empty)
      rw [State.setSent_sent, if_pos rfl, stays]
      exact empty
    · exact .of_eq rfl (by rw [State.setSent_sent, if_neg hm])

/-! ### Every step -/

theorem portLaw_of_reset {s : State} (h : s.ports = Table.all 8 Port.reset) : PortLaw s := by
  intro n
  rw [State.port, h, Table.get_all]
  exact Port.lawful_reset

/-- Every port at its power-on values shows the empty image. -/
theorem imageLaw_of_reset {s : State} (h : s.ports = Table.all 8 Port.reset) (hsent : s.fc.sent = Table.all 8 KeyImage.empty) :
    ImageLaw s := by
  intro n
  rw [State.port, h, State.sent, hsent, Table.get_all, Table.get_all]
  rfl

theorem State.advance_port (s : State) (n : Slot) :
    s.advance.port n = { s.port n with signalling := (s.port n).signalling.advance } := by
  simp [State.advance, State.port]

theorem SlotKeeps.advance (s : State) (n : Slot) : SlotKeeps s s.advance n := by
  intro ⟨length, responses, off, signalling⟩
  rw [State.advance_port]
  refine ⟨⟨length, responses, fun hl => ?_, fun running => signalling ?_⟩, id⟩
  · rw [off hl]
    rfl
  · rwa [Wait.isRunning_advance] at running

/-- Settles O53: each slot's port and sent image change together, slot by slot (`SlotKeeps`). -/
theorem stepsKeepPortsAndImages : Obligations.StepsKeepPortsAndImages := by
  intro s t hs h
  have kept : ∀ {u v : State}, (∀ n, SlotKeeps u v n) → (PortLaw u ∧ (ImageLaw s → ImageLaw u)) →
      PortLaw v ∧ (ImageLaw s → ImageLaw v) :=
    fun keeps ⟨ports, images⟩ => ⟨fun n => (keeps n (ports n)).1, fun hi n => (keeps n (ports n)).2 (images hi n)⟩
  refine step_induction (P := fun u => PortLaw u ∧ (ImageLaw s → ImageLaw u)) h ⟨hs, id⟩ (fun _ _ h => h) ?_ ?_ (fun _ _ h => h)
    ?_ ?_
  · exact fun u _ hu => kept (SlotKeeps.advance u) hu
  · intro u _
    obtain ⟨flash, cuts, he⟩ := u.resetAsserts_eq
    rw [he]
    exact ⟨portLaw_of_reset rfl, fun _ => imageLaw_of_reset rfl rfl⟩
  · exact fun u changed img _ => kept (State.powerOn_evolves (b := ⟨true, none⟩) _ img).slotKeeps
      ⟨portLaw_of_reset rfl, fun _ => imageLaw_of_reset rfl rfl⟩
  · exact fun u v c hc hu hexec => kept (exec_evolves (b := ⟨true, none⟩) hc (fun _ => rfl) rfl hexec).slotKeeps hu

end Sys2Proof.Machine


/-! Wake records and waits (06; 10): every step keeps a wake record lawful by its link, and each wait running exactly while its owner
waits. -/

namespace Sys2Proof.Machine

variable {b : Mode}

/-! ### The instances of a slot after the elementary changes -/

theorem State.settlePort_timer (s : State) (n : Slot) (p : Port) (i : TimerId) (hi : i ≠ .t6 n) :
    (s.settlePort n p).timer i = s.timer i := by
  unfold State.settlePort
  dsimp only
  split
  · split
    · rfl
    · rw [State.timer_startTimer, if_neg hi]
      rfl
  · rw [State.timer_stopTimer, if_neg hi]
    rfl

/-- T6 runs after a port is settled exactly where entries wait (06, R110). -/
theorem State.settlePort_t6 (s : State) (n : Slot) (p : Port)
    (h : (s.timer (.t6 n)).isRunning = true ↔ (s.port n).waits = true) :
    ((s.settlePort n p).timer (.t6 n)).isRunning = true ↔ p.waits = true := by
  unfold State.settlePort
  dsimp only
  split
  next waits =>
    split
    next before => exact ⟨fun _ => waits, fun _ => h.mpr before⟩
    · rw [State.timer_startTimer, if_pos rfl]
      exact ⟨fun _ => waits, fun _ => rfl⟩
  next idle =>
    rw [State.timer_stopTimer, if_pos rfl]
    exact ⟨nofun, fun waits => absurd waits idle⟩

theorem State.holdTimer_isRunning (s : State) (p : Port) : (s.holdTimer p).isRunning = true ↔ p.waits = true := by
  unfold State.holdTimer
  split <;> simp_all

theorem State.releaseFlush_timer (s : State) (n : Slot) (i : TimerId) :
    (s.releaseFlush n).timer i = if i = .t6 n then s.holdTimer (s.port n).flushed else s.timer i := by
  rw [State.releaseFlush_eq]
  exact s.bank.timer_setTimer (.t6 n) i _

theorem State.releaseFlush_wake (s : State) (n m : Slot) : (s.releaseFlush n).wake m = s.wake m := by
  rw [State.releaseFlush_eq]
  rfl

theorem State.settlePort_wake (s : State) (n m : Slot) (p : Port) : (s.settlePort n p).wake m = s.wake m := by
  rw [State.wake, State.settlePort_wakes]
  rfl

theorem State.timer_stopWakeTimers (s : State) (n : Slot) (i : TimerId) :
    (s.stopWakeTimers n).timer i = if i = .t3 n ∨ i = .t4 n ∨ i = .t5 n then .stopped else s.timer i := by
  simp only [State.stopWakeTimers, State.timer_stopTimer]
  by_cases h5 : i = .t5 n <;> by_cases h4 : i = .t4 n <;> by_cases h3 : i = .t3 n <;> simp [h3, h4, h5]

theorem State.timer_setPhase (s : State) (n : Slot) (p : Phase) (i : TimerId) : (s.setPhase n p).timer i = s.timer i := rfl

theorem State.setPhase_wake (s : State) (n m : Slot) (p : Phase) :
    (s.setPhase n p).wake m = if m = n then { s.wake n with phase := p, line := decide (p = .linePulse) } else s.wake m :=
  s.setWake_wake n m _

theorem State.fcLoss_timer (s : State) (n : Slot) (i : TimerId) : (s.fcLoss n).timer i = s.timer i := by
  rw [State.fcLoss_eq]
  rfl

theorem State.fcLoss_wake (s : State) (n m : Slot) : (s.fcLoss n).wake m = s.wake m := by
  rw [State.fcLoss_eq]
  rfl

/-! ### One slot's wake record and waits -/

/-- A slot's wake record is lawful by its link, and T3 to T6 run exactly while their owners wait. -/
structure State.SlotTimed (s : State) (n : Slot) : Prop where
  wake : (s.wake n).Lawful (s.link n)
  t3 : (s.timer (.t3 n)).isRunning = true ↔ (s.wake n).phase = .await
  t4 : (s.timer (.t4 n)).isRunning = true ↔ (s.wake n).phase = .linePulse
  t5 : (s.timer (.t5 n)).isRunning = true ↔ (s.wake n).phase = .lineAwait
  t6 : (s.timer (.t6 n)).isRunning = true ↔ (s.port n).waits = true

namespace State.SlotTimed

variable {s t : State} {n : Slot}

/-- The sequence may go on: with a lawful record the link is not ACTIVE. -/
theorem notActive (h : s.SlotTimed n) (hm : s.MayWait n) : s.link n ≠ .active := fun hl => hm hl (h.wake.1 hl)

theorem counted (h : s.SlotTimed n) : (s.wake n).Counted := ⟨h.wake.2.2.1, h.wake.2.2.2⟩

/-- Nothing of the slot changes that its waits look at. -/
theorem of_eq (h : s.SlotTimed n) (hport : t.port n = s.port n) (hwake : t.wake n = s.wake n)
    (htimer : ∀ i, i = .t3 n ∨ i = .t4 n ∨ i = .t5 n ∨ i = .t6 n → t.timer i = s.timer i) : t.SlotTimed n := by
  have hlink : t.link n = s.link n := congrArg Port.link hport
  refine ⟨?_, ?_, ?_, ?_, ?_⟩
  · rw [hwake, hlink]
    exact h.wake
  · rw [htimer _ (.inl rfl), hwake]
    exact h.t3
  · rw [htimer _ (.inr (.inl rfl)), hwake]
    exact h.t4
  · rw [htimer _ (.inr (.inr (.inl rfl))), hwake]
    exact h.t5
  · rw [htimer _ (.inr (.inr (.inr rfl))), hport]
    exact h.t6

/-- The slot's port and T6 change, its wake record and T3 to T5 stay. -/
theorem of_port (h : s.SlotTimed n) (hwake : t.wake n = s.wake n) (hlink : t.link n = .active → (s.wake n).phase = .idle)
    (htimer : ∀ i, i ≠ .t6 n → t.timer i = s.timer i)
    (ht6 : (t.timer (.t6 n)).isRunning = true ↔ (t.port n).waits = true) : t.SlotTimed n := by
  refine ⟨?_, ?_, ?_, ?_, ht6⟩
  · rw [hwake]
    exact ⟨hlink, h.wake.2⟩
  · rw [htimer (.t3 n) nofun, hwake]
    exact h.t3
  · rw [htimer (.t4 n) nofun, hwake]
    exact h.t4
  · rw [htimer (.t5 n) nofun, hwake]
    exact h.t5

/-- The slot enters a phase: its wake record and T3 to T5 are new, its port and T6 stay. -/
theorem of_phase (h : s.SlotTimed n) (hport : t.port n = s.port n) (hactive : s.link n = .active → (t.wake n).phase = .idle)
    (hline : (t.wake n).line = decide ((t.wake n).phase = .linePulse)) (hcounted : (t.wake n).Counted)
    (ht3 : (t.timer (.t3 n)).isRunning = true ↔ (t.wake n).phase = .await)
    (ht4 : (t.timer (.t4 n)).isRunning = true ↔ (t.wake n).phase = .linePulse)
    (ht5 : (t.timer (.t5 n)).isRunning = true ↔ (t.wake n).phase = .lineAwait)
    (ht6 : t.timer (.t6 n) = s.timer (.t6 n)) : t.SlotTimed n := by
  have hlink : t.link n = s.link n := congrArg Port.link hport
  refine ⟨⟨by rw [hlink]; exact hactive, by rw [hline, decide_eq_true_eq], hcounted.1, hcounted.2⟩, ht3, ht4, ht5, ?_⟩
  rw [ht6, hport]
  exact h.t6

end State.SlotTimed

/-- A timer that is not one of slot `n`'s. -/
theorem TimerId.ne_of_slot_ne {m n : Slot} (hm : m ≠ n) {i : TimerId} (hi : i = .t3 m ∨ i = .t4 m ∨ i = .t5 m ∨ i = .t6 m) :
    i ≠ .t3 n ∧ i ≠ .t4 n ∧ i ≠ .t5 n ∧ i ≠ .t6 n := by
  rcases hi with rfl | rfl | rfl | rfl <;> simp [hm]

/-- A change at slot `n` of its port and T6 alone. -/
theorem State.SlotTimed.settlePort {s : State} {n m : Slot} {p : Port} (h : s.SlotTimed m)
    (hlink : m = n → p.link = .active → (s.wake n).phase = .idle) : (s.settlePort n p).SlotTimed m := by
  by_cases hm : m = n
  · subst hm
    refine h.of_port (s.settlePort_wake m m p) (fun hl => hlink rfl ?_) (s.settlePort_timer m p) ?_
    · rwa [State.link, State.settlePort_port_same] at hl
    · rw [State.settlePort_port_same]
      exact s.settlePort_t6 m p h.t6
  · exact h.of_eq (s.settlePort_port_ne p hm) (s.settlePort_wake n m p) fun i hi =>
      s.settlePort_timer n p i (TimerId.ne_of_slot_ne hm hi).2.2.2

/-- A port replaced whose queue waits as it did. -/
theorem State.SlotTimed.setPort {s : State} {n m : Slot} {p : Port} (h : s.SlotTimed m)
    (hlink : m = n → p.link = .active → (s.wake n).phase = .idle) (hwaits : p.waits = (s.port n).waits) :
    (s.setPort n p).SlotTimed m := by
  by_cases hm : m = n
  · subst hm
    refine h.of_port rfl (fun hl => hlink rfl ?_) (fun _ _ => rfl) ?_
    · rwa [State.link, State.setPort_port_same] at hl
    · rw [State.setPort_port_same, hwaits]
      exact h.t6
  · exact h.of_eq (by rw [State.setPort_port, if_neg hm]) rfl fun _ _ => rfl

theorem State.SlotTimed.releaseFlush {s : State} {n m : Slot} (h : s.SlotTimed m) : (s.releaseFlush n).SlotTimed m := by
  by_cases hm : m = n
  · subst hm
    refine h.of_port (s.releaseFlush_wake m m) (fun hl => h.wake.1 ?_) (fun i hi => by rw [State.releaseFlush_timer, if_neg hi]) ?_
    · rwa [State.link, State.releaseFlush_port, if_pos rfl] at hl
    · rw [State.releaseFlush_timer, State.releaseFlush_port, if_pos rfl, if_pos rfl]
      exact s.holdTimer_isRunning _
  · refine h.of_eq (by rw [State.releaseFlush_port, if_neg hm]) (s.releaseFlush_wake n m) fun i hi => ?_
    rw [State.releaseFlush_timer, if_neg (TimerId.ne_of_slot_ne hm hi).2.2.2]

theorem State.SlotTimed.handOver {s : State} {n m : Slot} (e : Entry) (h : s.SlotTimed m) : (s.handOver n e).SlotTimed m := by
  rcases s.handOver_cases n e with ⟨-, he⟩ | ⟨-, q, -, he⟩ | ⟨-, -, he⟩ <;> rw [he]
  · exact h
  · exact h.settlePort fun hm hl => hm ▸ h.wake.1 (hm ▸ hl)
  · exact h.releaseFlush.of_eq rfl rfl fun _ _ => rfl

theorem State.SlotTimed.leaveFocus {s : State} {m : Slot} (f : Option Slot) (h : s.SlotTimed m) : (s.leaveFocus f).SlotTimed m := by
  cases f with
  | none => exact h
  | some n =>
    have lost : (s.suppressHeld n).SlotTimed m := h.of_eq rfl rfl fun _ _ => rfl
    exact lost.handOver _

theorem State.SlotTimed.fcLoss {s : State} {m : Slot} (n : Slot) (h : s.SlotTimed m) : (s.fcLoss n).SlotTimed m :=
  h.of_eq (s.fcLoss_port n m) (s.fcLoss_wake n m) fun i _ => s.fcLoss_timer n i

theorem State.SlotTimed.fcInputRemoved {s : State} {m : Slot} (n : Slot) (h : s.SlotTimed m) : (s.fcInputRemoved n).SlotTimed m := by
  unfold State.fcInputRemoved
  split
  · exact h.fcLoss n
  · exact (h.fcLoss n).handOver _

/-- A timer started that its owner waits for. -/
theorem State.SlotTimed.startTimer {s : State} {m : Slot} (h : s.SlotTimed m) (i : TimerId) (hi : s.owes i) :
    (s.startTimer i).SlotTimed m := by
  obtain ⟨wake, t3, t4, t5, t6⟩ := h
  refine ⟨wake, ?_, ?_, ?_, ?_⟩ <;> rw [State.timer_startTimer] <;> split
  case _ heq => subst heq; exact ⟨fun _ => hi, fun _ => rfl⟩
  case _ heq => exact t3
  case _ heq => subst heq; exact ⟨fun _ => hi, fun _ => rfl⟩
  case _ heq => exact t4
  case _ heq => subst heq; exact ⟨fun _ => hi, fun _ => rfl⟩
  case _ heq => exact t5
  case _ heq => subst heq; exact ⟨fun _ => hi, fun _ => rfl⟩
  case _ heq => exact t6

/-- A timer stopped that its owner does not wait for. -/
theorem State.SlotTimed.stopTimer {s : State} {m : Slot} (h : s.SlotTimed m) (i : TimerId) (hi : ¬ s.owes i) :
    (s.stopTimer i).SlotTimed m := by
  obtain ⟨wake, t3, t4, t5, t6⟩ := h
  refine ⟨wake, ?_, ?_, ?_, ?_⟩ <;> rw [State.timer_stopTimer] <;> split
  case _ heq => subst heq; exact ⟨nofun, fun hw => absurd hw hi⟩
  case _ heq => exact t3
  case _ heq => subst heq; exact ⟨nofun, fun hw => absurd hw hi⟩
  case _ heq => exact t4
  case _ heq => subst heq; exact ⟨nofun, fun hw => absurd hw hi⟩
  case _ heq => exact t5
  case _ heq => subst heq; exact ⟨nofun, fun hw => absurd hw hi⟩
  case _ heq => exact t6

/-! ### A phase entered -/

/-- A phase entered with the record `w`, T3 to T5 stopped. -/
def State.enterPhase (s : State) (n : Slot) (w : WakeRecord) (p : Phase) : State := ((s.setWake n w).stopWakeTimers n).setPhase n p

theorem State.enterPhase_wake (s : State) (n m : Slot) (w : WakeRecord) (p : Phase) :
    (s.enterPhase n w p).wake m = if m = n then { w with phase := p, line := decide (p = .linePulse) } else s.wake m := by
  rw [State.enterPhase, State.setPhase_wake, State.stopWakeTimers_wake, State.stopWakeTimers_wake, State.setWake_wake_same,
    State.setWake_wake]
  split <;> rfl

theorem State.enterPhase_timer (s : State) (n : Slot) (w : WakeRecord) (p : Phase) (i : TimerId) :
    (s.enterPhase n w p).timer i = if i = .t3 n ∨ i = .t4 n ∨ i = .t5 n then .stopped else s.timer i := by
  rw [State.enterPhase, State.timer_setPhase, State.timer_stopWakeTimers]
  rfl

theorem State.enterPhase_port (s : State) (n m : Slot) (w : WakeRecord) (p : Phase) : (s.enterPhase n w p).port m = s.port m := by
  rw [State.enterPhase, State.setPhase_port, State.stopWakeTimers_port, State.setWake_port]

/-- Of another slot nothing changes when a phase is entered. -/
theorem State.SlotTimed.enterPhase_ne {s : State} {n m : Slot} (h : s.SlotTimed m) (hm : m ≠ n) (w : WakeRecord) (p : Phase) :
    (s.enterPhase n w p).SlotTimed m := by
  refine h.of_eq (s.enterPhase_port n m w p) (by rw [State.enterPhase_wake, if_neg hm]) fun i hi => ?_
  obtain ⟨h3, h4, h5, -⟩ := TimerId.ne_of_slot_ne hm hi
  rw [State.enterPhase_timer, if_neg (by simp [h3, h4, h5])]

/-- A phase without a wait of its own is entered, which an ACTIVE slot enters as IDLE alone. -/
theorem State.SlotTimed.enterPhase {s : State} {n m : Slot} {w : WakeRecord} {p : Phase} (h : s.SlotTimed m)
    (hp : p = .idle ∨ p = .failed ∨ p = .signal) (hactive : m = n → s.link n = .active → p = .idle)
    (hmost : m = n → w.attempts ≤ 8) (hfew : m = n → p = .signal → w.attempts ≤ 7) : (s.enterPhase n w p).SlotTimed m := by
  by_cases hm : m = n
  · subst hm
    have record := s.enterPhase_wake m m w p
    rw [if_pos rfl] at record
    have stopped (i : TimerId) (hi : i = .t3 m ∨ i = .t4 m ∨ i = .t5 m) : (s.enterPhase m w p).timer i = .stopped := by
      rw [State.enterPhase_timer, if_pos hi]
    refine h.of_phase (s.enterPhase_port m m w p) ?_ ?_ ?_ ?_ ?_ ?_ ?_
    · rw [record]
      exact hactive rfl
    · rw [record]
    · rw [record]
      refine ⟨hmost rfl, fun hw => ?_⟩
      rcases hp with rfl | rfl | rfl
      · rcases hw with hw | hw <;> cases hw
      · rcases hw with hw | hw <;> cases hw
      · exact hfew rfl rfl
    · rw [stopped _ (.inl rfl), record]
      rcases hp with rfl | rfl | rfl <;> exact ⟨nofun, nofun⟩
    · rw [stopped _ (.inr (.inl rfl)), record]
      rcases hp with rfl | rfl | rfl <;> exact ⟨nofun, nofun⟩
    · rw [stopped _ (.inr (.inr rfl)), record]
      rcases hp with rfl | rfl | rfl <;> exact ⟨nofun, nofun⟩
    · rw [State.enterPhase_timer, if_neg (by simp)]
  · exact h.enterPhase_ne hm w p

/-- LINE_PULSE or LINE_AWAIT is entered, with its timer started. -/
theorem State.SlotTimed.enterLine {s : State} {n m : Slot} {w : WakeRecord} {p : Phase} {i : TimerId} (h : s.SlotTimed m)
    (hp : p = .linePulse ∧ i = .t4 n ∨ p = .lineAwait ∧ i = .t5 n) (hactive : m = n → s.link n ≠ .active)
    (hmost : m = n → w.attempts ≤ 8) : ((s.enterPhase n w p).startTimer i).SlotTimed m := by
  by_cases hm : m = n
  · subst hm
    have record := s.enterPhase_wake m m w p
    rw [if_pos rfl] at record
    have wake : ((s.enterPhase m w p).startTimer i).wake m = { w with phase := p, line := decide (p = .linePulse) } := record
    have timer (j : TimerId) : ((s.enterPhase m w p).startTimer i).timer j =
        if j = i then .running ((s.enterPhase m w p).tables.timing.get i.entry).duration 0
        else if j = .t3 m ∨ j = .t4 m ∨ j = .t5 m then .stopped else s.timer j := by
      rw [State.timer_startTimer, State.enterPhase_timer]
    refine h.of_phase (s.enterPhase_port m m w p) (fun hl => absurd hl (hactive rfl)) ?_ ?_ ?_ ?_ ?_ ?_
    · rw [wake]
    · rw [wake]
      refine ⟨hmost rfl, fun hw => ?_⟩
      rcases hp with ⟨rfl, -⟩ | ⟨rfl, -⟩ <;> rcases hw with hw | hw <;> cases hw
    all_goals
      simp only [timer, wake]
      rcases hp with ⟨rfl, rfl⟩ | ⟨rfl, rfl⟩ <;> simp
  · have other := h.enterPhase_ne hm w p
    refine other.of_eq rfl rfl fun j hj => ?_
    obtain ⟨-, h4, h5, -⟩ := TimerId.ne_of_slot_ne hm hj
    rw [State.timer_startTimer, if_neg]
    rcases hp with ⟨-, rfl⟩ | ⟨-, rfl⟩
    · exact h4
    · exact h5


/-! ### The elementary changes -/

theorem Port.waits_of_active {p : Port} (h : p.link = .active) : p.waits = false := by simp [Port.waits, h]

theorem State.settlePort_active (s : State) (n : Slot) {p : Port} (h : p.link = .active) :
    s.settlePort n p = (s.setPort n p).stopTimer (.t6 n) := by
  unfold State.settlePort
  dsimp only
  rw [if_neg (by rw [Port.waits_of_active h]; decide)]

/-- The end of a sequence and the change of the port do not touch each other. -/
theorem State.becomeActive_eq (s : State) (n : Slot) :
    s.becomeActive n = (s.wakeOnActive n).settlePort n { s.port n with link := .active, signalling := .stopped } := by
  unfold State.becomeActive State.wakeOnActive
  rw [State.settlePort_active _ _ rfl, State.settlePort_active _ _ rfl, State.stopTimer_wake, State.setPort_wake]
  split <;> rfl

/-- A sequence ends in IDLE with WAKE_DONE, whatever the link is. -/
theorem State.SlotTimed.wakeOnActive {s : State} {n m : Slot} (h : s.SlotTimed m) : (s.wakeOnActive n).SlotTimed m := by
  unfold State.wakeOnActive
  split
  · exact h
  · have idle : (s.enterPhase n (s.wake n) .idle).SlotTimed m :=
      h.enterPhase (.inl rfl) (fun _ _ => rfl) (fun hm => hm ▸ h.wake.2.2.1) (fun _ => nofun)
    refine idle.of_eq rfl ?_ fun _ _ => rfl
    rw [State.raiseEvent_wake, State.setPhase_wake, State.enterPhase_wake]
    rfl

theorem State.wakeOnActive_idle (s : State) (n : Slot) : ((s.wakeOnActive n).wake n).phase = .idle := by
  unfold State.wakeOnActive
  split
  · assumption
  · rw [State.raiseEvent_wake, State.setPhase_wake, if_pos rfl]

theorem State.SlotTimed.becomeActive {s : State} {n m : Slot} (h : s.SlotTimed m) : (s.becomeActive n).SlotTimed m := by
  rw [State.becomeActive_eq]
  exact h.wakeOnActive.settlePort fun _ _ => s.wakeOnActive_idle n

/-- The signalling has ended and the answer is awaited, with T3 started (05, R78; 06, R101). -/
theorem State.SlotTimed.await {s : State} {n m : Slot} (h : s.SlotTimed m) (hphase : (s.wake n).phase = .signal) :
    (((s.setPort n { s.port n with signalling := .stopped }).setPhase n .await).startTimer (.t3 n)).SlotTimed m := by
  by_cases hm : m = n
  · subst hm
    obtain ⟨wake, t3, t4, t5, t6⟩ := h
    rw [hphase] at t4 t5
    generalize hp : ({ s.port m with signalling := .stopped } : Port) = p
    have record : (((s.setPort m p).setPhase m .await).startTimer (.t3 m)).wake m = { s.wake m with phase := .await, line := false } := by
      rw [State.startTimer_wake, State.setPhase_wake, if_pos rfl]
      rfl
    have port : (((s.setPort m p).setPhase m .await).startTimer (.t3 m)).port m = p := by
      rw [State.startTimer_port, State.setPhase_port, State.setPort_port_same]
    refine ⟨⟨fun hl => ?_, ?_, ?_, ?_⟩, ?_, ?_, ?_, ?_⟩
    all_goals simp only [record, port, State.timer_startTimer]
    · rw [State.link, port, ← hp] at hl
      exact absurd (wake.1 hl) (by rw [hphase]; decide)
    · simp
    · exact wake.2.2.1
    · exact fun _ => wake.2.2.2 (.inl hphase)
    · simp [Wait.isRunning]
    · simpa using t4
    · simpa using t5
    · rw [if_neg (by simp), ← hp]
      exact t6
  · refine h.of_eq ?_ ?_ fun i hi => ?_
    · rw [State.startTimer_port, State.setPhase_port, State.setPort_port, if_neg hm]
    · rw [State.startTimer_wake, State.setPhase_wake, if_neg hm, State.setPort_wake]
    · rw [State.timer_startTimer, if_neg (TimerId.ne_of_slot_ne hm hi).1]
      rfl

/-- The wake part of a desk restart (06, R96). -/
theorem State.SlotTimed.restartWake {s : State} {n m : Slot} (h : s.SlotTimed m) : (s.restartWake n).SlotTimed m := by
  have timer (i : TimerId) : (s.restartWake n).timer i =
      if i = .t6 n then s.holdTimer (s.port n).wakeRestarted else (s.stopWakeTimers n).timer i := by
    rw [State.restartWake_eq]
    exact (s.stopWakeTimers n).bank.timer_setTimer (.t6 n) i _
  have record : (s.restartWake n).wake m = if m = n then WakeRecord.reset else s.wake m := by
    rw [State.restartWake_eq]
    exact (s.setPort n (s.port n).wakeRestarted).setWake_wake n m WakeRecord.reset
  simp only [State.timer_stopWakeTimers] at timer
  by_cases hm : m = n
  · subst hm
    rw [if_pos rfl] at record
    refine ⟨?_, ?_, ?_, ?_, ?_⟩
    · rw [record]
      exact ⟨fun _ => rfl, by decide, by decide, by decide⟩
    · rw [timer, record]
      simp [Wait.isRunning, WakeRecord.reset]
    · rw [timer, record]
      simp [Wait.isRunning, WakeRecord.reset]
    · rw [timer, record]
      simp [Wait.isRunning, WakeRecord.reset]
    · rw [timer, State.restartWake_port, if_pos rfl, if_pos rfl]
      exact s.holdTimer_isRunning _
  · refine h.of_eq (by rw [State.restartWake_port, if_neg hm]) (by rw [record, if_neg hm]) fun i hi => ?_
    obtain ⟨h3, h4, h5, h6⟩ := TimerId.ne_of_slot_ne hm hi
    rw [timer, if_neg h6, if_neg (by simp [h3, h4, h5])]

theorem Evolves.slotTimed {s t : State} (h : Evolves b s t) (m : Slot) : s.SlotTimed m → t.SlotTimed m := by
  induction h with
  | trans _ _ ih₁ ih₂ => exact ih₂ ∘ ih₁
  | refl s | ciu s | mgi s | cmp s | gu s | atu s | fc s | tables s | pl s | flash s | cuts s | channels s | image _ s
  | input _ s | tellOff _ s => exact fun h => h.of_eq rfl rfl fun _ _ => rfl
  | command s c w0 w1 =>
    refine fun h => h.of_eq rfl rfl fun i hi => ?_
    rcases hi with rfl | rfl | rfl | rfl <;> rfl
  | start s i hi => exact fun h => h.startTimer i hi
  | stop s i hi => exact fun h => h.stopTimer i hi
  | flush s n => exact State.SlotTimed.releaseFlush
  | focus s t => exact fun h => (h.leaveFocus s.fc.focus).of_eq rfl rfl fun _ _ => rfl
  | settle s n p hp => exact fun h => h.settlePort fun hm hl => hm ▸ h.wake.1 (hm ▸ hp.active hl)
  | put s n p hp _ hwaits => exact fun h => h.setPort (fun hm hl => hm ▸ h.wake.1 (hm ▸ hp.active hl)) hwaits
  | answer s n r hopen => exact fun h => h.setPort (fun hm hl => hm ▸ h.wake.1 (hm ▸ hl)) rfl
  | lose s n l hl =>
    exact fun h => (h.settlePort fun _ active => by rcases hl with rfl | rfl <;> cases active).fcLoss n
  | becomeActive s n => exact State.SlotTimed.becomeActive
  | linePulse s n w hw hmay =>
    exact fun h => h.enterLine (.inl ⟨rfl, rfl⟩) (fun hm => hm ▸ h.notActive (hm ▸ hmay)) (fun hm => hw (hm ▸ h.counted))
  | lineAwait s n w hw hmay =>
    exact fun h => h.enterLine (.inr ⟨rfl, rfl⟩) (fun hm => hm ▸ h.notActive (hm ▸ hmay)) (fun hm => hw (hm ▸ h.counted))
  | failed s n w hw hmay =>
    exact fun h => h.enterPhase (.inr (.inl rfl)) (fun hm hl => absurd (hm ▸ hl) (h.notActive (hm ▸ hmay)))
      (fun hm => hw (hm ▸ h.counted)) (fun _ => nofun)
  | idle s n w hw =>
    exact fun h => h.enterPhase (.inl rfl) (fun _ _ => rfl) (fun hm => hw (hm ▸ h.counted)) (fun _ => nofun)
  | signal s n w hw hcan =>
    have suspended : s.link n = .suspended := of_decide_eq_true (Bool.and_eq_true_iff.mp hcan).1
    exact fun h => (h.enterPhase (.inr (.inr rfl)) (fun _ active => absurd (suspended.symm.trans active) (by decide))
      (fun _ => Nat.le_succ_of_le hw) (fun _ _ => hw)).settlePort (fun _ => nofun)
  | await s n hphase => exact fun h => h.await hphase
  | rest s n => exact State.SlotTimed.restartWake
  | inputRemoved s x n =>
    intro h
    have written : (s.setTables x).SlotTimed m := h.of_eq rfl rfl fun _ _ => rfl
    exact written.fcInputRemoved n
  | told s n k l =>
    intro h
    have told : (s.setSent n k).SlotTimed m := h.of_eq rfl rfl fun _ _ => rfl
    exact told.settlePort fun hm hl => hm ▸ h.wake.1 (hm ▸ hl)

/-! ### Every step -/

/-- The waits' law, slot by slot. -/
theorem wakeLaw_and_timerLaw_iff {s : State} :
    WakeLaw s ∧ TimerLaw s ↔ s.CommandTimed ∧ (∀ n, s.SlotTimed n) ∧ ∀ n, (s.channel n).Timed := by
  constructor
  · rintro ⟨wakes, t0, t1, slots, channels⟩
    refine ⟨⟨t0, t1⟩, fun n => ?_, channels⟩
    obtain ⟨t3, t4, t5, t6⟩ := slots n
    exact ⟨wakes n, t3, t4, t5, t6⟩
  · rintro ⟨⟨t0, t1⟩, slots, channels⟩
    exact ⟨fun n => (slots n).wake, t0, t1, fun n => ⟨(slots n).t3, (slots n).t4, (slots n).t5, (slots n).t6⟩, channels⟩

/-- Nothing runs at reset, and nothing waits. -/
theorem wakes_and_timers_of_reset {s : State} (hhkm : s.hkm = .normal) (hbank : s.bank = Bank.reset) (hports : s.ports = Table.all 8 Port.reset)
    (hwakes : s.wakes = Table.all 8 WakeRecord.reset) (hchannels : s.channels = Table.all 16 Channel.reset) :
    WakeLaw s ∧ TimerLaw s := by
  have port (n : Slot) : s.port n = Port.reset := by rw [State.port, hports, Table.get_all]
  have record (n : Slot) : s.wake n = WakeRecord.reset := by rw [State.wake, hwakes, Table.get_all]
  have channel (n : SourceIx) : s.channel n = Channel.reset := by rw [State.channel, hchannels, Table.get_all]
  have timer (i : TimerId) : (s.timer i).isRunning = false := by
    rw [State.timer, hbank]
    cases i <;> simp [Bank.timer, Bank.reset, Wait.isRunning]
  refine ⟨fun n => ?_, ?_, ?_, fun n => ?_, fun n => ?_⟩
  · rw [record]
    exact ⟨fun _ => rfl, by decide, by decide, by decide⟩
  · rw [hbank, hhkm]
    decide
  · rw [hbank, hhkm]
    decide
  · simp only [timer, record, port]
    decide
  · rw [channel]
    decide

theorem State.advance_timer (s : State) (i : TimerId) : s.advance.timer i = (s.timer i).advance := by
  cases i <;> simp [State.advance, State.timer, Bank.timer, Bank.advance]

/-- Settles O55: each slot's wake record and waits change together, slot by slot (`State.SlotTimed`). -/
theorem stepsKeepWakesAndTimers : Obligations.StepsKeepWakesAndTimers := by
  intro s t hwake htimer h
  have kept {u v : State} (evolves : Evolves ⟨true, none⟩ u v) (hu : WakeLaw u ∧ TimerLaw u) : WakeLaw v ∧ TimerLaw v := by
    obtain ⟨command, slots, channels⟩ := wakeLaw_and_timerLaw_iff.mp hu
    exact wakeLaw_and_timerLaw_iff.mpr
      ⟨evolves.keeps.command command, fun n => evolves.slotTimed n (slots n), evolves.keeps.timed channels⟩
  refine step_induction (P := fun u => WakeLaw u ∧ TimerLaw u) h ⟨hwake, htimer⟩ (fun _ _ h => h) ?_ ?_ (fun _ _ h => h) ?_ ?_
  · intro u _ ⟨wakes, t0, t1, slots, channels⟩
    have waits (n : Slot) : (u.advance.port n).waits = (u.port n).waits := by
      rw [State.advance_port]
      rfl
    refine ⟨fun n => ?_, ?_, ?_, fun n => ?_, fun n => ?_⟩
    · rw [State.link, State.advance_port]
      exact wakes n
    · exact (Wait.isRunning_advance u.bank.t0).symm ▸ t0
    · exact (Wait.isRunning_advance u.bank.t1).symm ▸ t1
    · simp only [State.advance_timer, Wait.isRunning_advance, waits]
      exact slots n
    · rw [State.advance_channel]
      exact (Wait.isRunning_advance (u.channel n).lossTimer).symm ▸ channels n
  · intro u _
    obtain ⟨flash, cuts, he⟩ := u.resetAsserts_eq
    rw [he]
    exact wakes_and_timers_of_reset rfl rfl rfl rfl rfl
  · exact fun u changed img _ => kept (State.powerOn_evolves _ img) (wakes_and_timers_of_reset rfl rfl rfl rfl rfl)
  · exact fun u v c hc hu hexec => kept (exec_evolves hc (fun _ => rfl) rfl hexec) hu

end Sys2Proof.Machine


/-! Held keys and sent modifiers (01): every step keeps what the slots are told of in the physical image. The elementary changes without
typing keep both laws; the console keyboard's arrivals and the desk restart are followed operation by operation. -/

namespace Sys2Proof.Machine

variable {b : Mode}

/-! ### The held-key map -/

theorem heldKey_dropKey (k a : Byte) (m : List (Byte × Destination)) :
    heldKey a (dropKey k m) = if a = k then none else heldKey a m := by
  unfold heldKey dropKey
  rw [List.find?_filter]
  split
  next h =>
    subst h
    rw [List.find?_eq_none.mpr fun x _ => by simp]
    rfl
  next h =>
    congr 2
    funext e
    by_cases he : e.1 = a
    · simp [he, h]
    · simp [he]

theorem heldKey_holdKey (k a : Byte) (d : Destination) (m : List (Byte × Destination)) :
    heldKey a (holdKey k d m) = if a = k then some d else heldKey a m := by
  induction m with
  | nil => by_cases h : a = k <;> simp [holdKey, heldKey, h, eq_comm]
  | cons e m ih =>
    obtain ⟨c, x⟩ := e
    unfold holdKey
    split
    · by_cases h : a = k
      · simp [heldKey, h]
      · simp [heldKey, h, Ne.symm h]
    · split
      next hk =>
        subst hk
        by_cases h : a = k
        · simp [heldKey, h]
        · simp [heldKey, h, Ne.symm h]
      · unfold heldKey at ih ⊢
        by_cases hc : c = a
        · subst hc
          have : c ≠ k := by rintro rfl; contradiction
          simp [this]
        · simpa [hc] using ih

theorem heldKey_without (k : Byte) (n : Slot) (m : List (Byte × Destination)) :
    heldKey k (m.map fun e => (e.1, e.2.without n)) = (heldKey k m).map (Destination.without n) := by
  unfold heldKey
  rw [List.find?_map, Option.map_map, Option.map_map]
  rfl

theorem mem_insertKey (k a : Byte) (l : List Byte) : a ∈ insertKey k l ↔ a = k ∨ a ∈ l := by
  induction l with
  | nil => simp [insertKey]
  | cons c l ih =>
    unfold insertKey
    split
    · simp
    · split
      next hk => subst hk; simp
      · simp only [List.mem_cons, ih]
        tauto

theorem mem_sortKeys (a : Byte) (l : List Byte) : a ∈ sortKeys l ↔ a ∈ l := by
  have inserted (l acc : List Byte) : a ∈ l.foldl (fun acc k => insertKey k acc) acc ↔ a ∈ acc ∨ a ∈ l := by
    induction l generalizing acc with
    | nil => simp
    | cons k l ih =>
      rw [List.foldl_cons, ih, mem_insertKey, List.mem_cons]
      tauto
  simp [sortKeys, inserted]

/-! ### What the two laws look at, but for the links -/

/-- The focus record, the physical modifiers and the tables. -/
def State.keySide (s : State) : Fc × Modifiers × Tables := (s.fc, s.ciu.mods, s.tables)

@[simp] theorem State.setPort_keySide (s : State) (n : Slot) (p : Port) : (s.setPort n p).keySide = s.keySide := rfl
@[simp] theorem State.setWake_keySide (s : State) (n : Slot) (w : WakeRecord) : (s.setWake n w).keySide = s.keySide := rfl
@[simp] theorem State.setPhase_keySide (s : State) (n : Slot) (p : Phase) : (s.setPhase n p).keySide = s.keySide := rfl
@[simp] theorem State.stopWakeTimers_keySide (s : State) (n : Slot) : (s.stopWakeTimers n).keySide = s.keySide := rfl
@[simp] theorem State.startTimer_keySide (s : State) (i : TimerId) : (s.startTimer i).keySide = s.keySide := rfl
@[simp] theorem State.stopTimer_keySide (s : State) (i : TimerId) : (s.stopTimer i).keySide = s.keySide := rfl
@[simp] theorem State.raiseEvent_keySide (s : State) (e : EventKind) : (s.raiseEvent e).keySide = s.keySide := rfl

@[simp] theorem State.setCommand_keySide (s : State) (c : CommandState) : (s.setCommand c).keySide = s.keySide := by
  have mods : (s.setCommand c).ciu.mods = s.ciu.mods := ((s.setHkm c).ciu.compose_image (s.setHkm c).composedLeds).2.2.1
  simp only [State.keySide, mods]
  rfl

theorem State.hold_keySide (s : State) (k : Byte) (d : Destination) :
    (s.hold k d).keySide = ({ s.fc with held := holdKey k d s.fc.held }, s.ciu.mods, s.tables) := rfl

@[simp] theorem State.settlePort_keySide (s : State) (n : Slot) (p : Port) : (s.settlePort n p).keySide = s.keySide := by
  simp [State.keySide, State.settlePort_fc, State.settlePort_ciu, State.settlePort_tables]

@[simp] theorem State.wakeOnActive_keySide (s : State) (n : Slot) : (s.wakeOnActive n).keySide = s.keySide := by
  unfold State.wakeOnActive
  split <;> simp

@[simp] theorem State.restartWake_keySide (s : State) (n : Slot) : (s.restartWake n).keySide = s.keySide := by
  rw [State.restartWake_eq]
  rfl

/-! ### The law of the sent keys, with the codes that may be sent -/

/-- Each key code in a sent image is one that `A` allows, and its entry in the held-key map names the slot (01, R10). -/
def Fc.KeysWithin (x : Fc) (A : Byte → Prop) : Prop :=
  ∀ n, ∀ k ∈ (x.sent.get n).keys, A k ∧ heldKey k x.held = some (.slot n)

theorem Fc.KeysWithin.of_eq {x y : Fc} {A : Byte → Prop} (h : x.KeysWithin A) (hheld : y.held = x.held) (hsent : y.sent = x.sent) :
    y.KeysWithin A := by
  unfold Fc.KeysWithin
  rw [hheld, hsent]
  exact h

theorem Fc.KeysWithin.mono {x : Fc} {A B : Byte → Prop} (h : x.KeysWithin A) (hab : ∀ k, A k → B k) : x.KeysWithin B :=
  fun n k hk => ⟨hab k (h n k hk).1, (h n k hk).2⟩

/-- What named a slot is SUPPRESSED and its sent image is empty. -/
theorem Fc.KeysWithin.lost {x y : Fc} {A : Byte → Prop} {n : Slot} (h : x.KeysWithin A)
    (hheld : y.held = x.held.map fun e => (e.1, e.2.without n)) (hsent : y.sent = x.sent.put n KeyImage.empty) : y.KeysWithin A := by
  intro m k hk
  rw [hsent, Table.get_put] at hk
  split at hk
  · cases hk
  next hm =>
    obtain ⟨allowed, held⟩ := h m k hk
    refine ⟨allowed, ?_⟩
    rw [hheld, heldKey_without, held]
    simp [Destination.without, hm]

theorem State.releaseFlush_keys {s : State} {A : Byte → Prop} (n : Slot) (h : s.fc.KeysWithin A) : (s.releaseFlush n).fc.KeysWithin A := by
  rw [State.releaseFlush_eq]
  exact h.lost rfl rfl

theorem State.keysWithin_of_keySide {s t : State} {A : Byte → Prop} (h : t.keySide = s.keySide) :
    s.fc.KeysWithin A → t.fc.KeysWithin A := by
  rw [show t.fc = s.fc from congrArg (·.1) h]
  exact id

theorem State.handOver_keys {s : State} {A : Byte → Prop} (n : Slot) (e : Entry) (h : s.fc.KeysWithin A) :
    (s.handOver n e).fc.KeysWithin A := by
  rcases s.handOver_cases n e with ⟨-, he⟩ | ⟨-, q, -, he⟩ | ⟨-, -, he⟩ <;> rw [he]
  · exact h
  · exact State.keysWithin_of_keySide (s.settlePort_keySide n _) h
  · exact s.releaseFlush_keys n h

theorem State.leaveFocus_keys {s : State} {A : Byte → Prop} (f : Option Slot) (h : s.fc.KeysWithin A) :
    (s.leaveFocus f).fc.KeysWithin A := by
  cases f with
  | none => exact h
  | some n =>
    have lost : (s.suppressHeld n).fc.KeysWithin A := h.lost rfl rfl
    exact (s.suppressHeld n).handOver_keys n _ lost

theorem State.fcLoss_keys {s : State} {A : Byte → Prop} (n : Slot) (h : s.fc.KeysWithin A) : (s.fcLoss n).fc.KeysWithin A := by
  rw [State.fcLoss_eq]
  exact h.lost rfl rfl

theorem State.fcInputRemoved_keys {s : State} {A : Byte → Prop} (n : Slot) (h : s.fc.KeysWithin A) :
    (s.fcInputRemoved n).fc.KeysWithin A := by
  unfold State.fcInputRemoved
  split
  · exact s.fcLoss_keys n h
  · exact (s.fcLoss n).handOver_keys n _ (s.fcLoss_keys n h)

theorem State.enterFocus_fc (s : State) (t : Option Slot) :
    (s.enterFocus t).fc = { s.fc with suppressed := s.fc.suppressed ||| s.ciu.mods, passNext := false, focus := t } := rfl

theorem State.enterFocus_keys {s : State} {A : Byte → Prop} (t : Option Slot) (h : s.fc.KeysWithin A) :
    (s.enterFocus t).fc.KeysWithin A := by
  rw [State.enterFocus_fc]
  exact h.of_eq rfl rfl

theorem Evolves.keysWithin {s t : State} (h : Evolves b s t) (hb : b.typing = false) (A : Byte → Prop) :
    s.fc.KeysWithin A → t.fc.KeysWithin A := by
  induction h with
  | trans _ _ ih₁ ih₂ => exact ih₂ ∘ ih₁
  | refl | ciu | mgi | cmp | gu | atu | command | start | stop | put | answer | tables | pl | flash | cuts | channels => exact id
  | linePulse s n w | lineAwait s n w | failed s n w | idle s n w | await s n =>
    exact State.keysWithin_of_keySide (by simp [State.enterLinePulse, State.enterLineAwait])
  | fc s x _ hheld _ hsent => exact fun h => h.of_eq hheld hsent
  | flush s n => exact s.releaseFlush_keys n
  | focus s t => exact fun h => State.enterFocus_keys t (s.leaveFocus_keys s.fc.focus h)
  | settle s n p => exact State.keysWithin_of_keySide (s.settlePort_keySide n p)
  | lose s n l => exact fun h => (s.settlePort n _).fcLoss_keys n (State.keysWithin_of_keySide (s.settlePort_keySide n _) h)
  | becomeActive s n | signal s n w | rest s n => exact State.keysWithin_of_keySide (by simp [State.becomeActive])
  | inputRemoved s x n => exact (s.setTables x).fcInputRemoved_keys n
  | told s n k l hk =>
    rw [hk hb, State.setSent_self]
    exact State.keysWithin_of_keySide (s.settlePort_keySide n _)
  | image ht | input ht | tellOff ht => exact absurd (ht.symm.trans hb) (by decide)

/-! ### The law of the sent modifiers -/

/-- Each slot is told of the physical modifiers less the suppressed ones where it is the focus, and otherwise of none; with no
deliverable focus every held modifier is suppressed (01, R16). -/
structure State.ModifiersTold (s : State) : Prop where
  told : ∀ n, (s.sent n).mods = if s.fc.focus = some n then s.ciu.mods &&& ~~~s.fc.suppressed else 0
  hidden : s.deliverable = false → s.ciu.mods &&& ~~~s.fc.suppressed = 0

theorem State.modifierLaw_iff (s : State) : ModifierLaw s ↔ s.ModifiersTold := by
  constructor
  · rintro ⟨told, hidden⟩
    refine ⟨fun n => ?_, hidden⟩
    rw [told n]
    by_cases deliverable : s.deliverable = true
    · simp [deliverable]
    · simp [hidden (Bool.eq_false_iff.mpr deliverable)]
  · rintro ⟨told, hidden⟩
    refine ⟨fun n => ?_, hidden⟩
    rw [told n]
    by_cases deliverable : s.deliverable = true
    · simp [deliverable]
    · simp [hidden (Bool.eq_false_iff.mpr deliverable)]

theorem State.deliverable_mono {s t : State} (hfocus : t.fc.focus = s.fc.focus)
    (h : ∀ n, s.fc.focus = some n → s.canReceive n = true → t.canReceive n = true) :
    t.deliverable = false → s.deliverable = false := by
  unfold State.deliverable
  rw [hfocus]
  split
  · exact id
  next n hn =>
    intro ht
    cases hs : s.canReceive n
    · rfl
    · rw [h n hn hs] at ht
      cases ht

namespace State.ModifiersTold

variable {s t : State}

/-- What a slot can receive may grow: with no deliverable focus nothing was held back from it. -/
theorem of_eq (h : s.ModifiersTold) (hfocus : t.fc.focus = s.fc.focus) (hsuppressed : t.fc.suppressed = s.fc.suppressed)
    (hmods : t.ciu.mods = s.ciu.mods) (hsent : ∀ n, (t.sent n).mods = (s.sent n).mods)
    (hreceive : ∀ n, s.canReceive n = true → t.canReceive n = true) : t.ModifiersTold := by
  refine ⟨fun n => ?_, fun hd => ?_⟩
  · rw [hsent, hfocus, hsuppressed, hmods]
    exact h.told n
  · rw [hsuppressed, hmods]
    exact h.hidden (deliverable_mono hfocus (fun n _ => hreceive n) hd)

/-- Slot `n` has lost what it was told of, and where it is the focus every held modifier is suppressed. -/
theorem lost {n : Slot} (h : s.ModifiersTold) (hfc : t.fc = s.lostFc n) (hmods : t.ciu.mods = s.ciu.mods)
    (hreceive : ∀ m, m ≠ n → s.canReceive m = true → t.canReceive m = true) : t.ModifiersTold := by
  have hfocus : t.fc.focus = s.fc.focus := by rw [hfc]; rfl
  have hsuppressed : t.fc.suppressed = if s.fc.focus = some n then s.fc.suppressed ||| s.ciu.mods else s.fc.suppressed := by
    rw [hfc]
    rfl
  have hsent (m : Slot) : t.sent m = if m = n then KeyImage.empty else s.sent m := by
    rw [State.sent, hfc]
    exact Table.get_put s.fc.sent n m _
  have none_left : s.ciu.mods &&& ~~~(s.fc.suppressed ||| s.ciu.mods) = 0 := by
    ext i
    simp +contextual
  by_cases focus : s.fc.focus = some n
  · rw [if_pos focus] at hsuppressed
    refine ⟨fun m => ?_, fun _ => ?_⟩
    · rw [hsent, hfocus, hsuppressed, hmods, none_left]
      split
      · simp [KeyImage.empty]
      next hm => rw [h.told m, if_neg (fun hf => hm (Option.some.inj (hf.symm.trans focus))), ite_self]
    · rw [hsuppressed, hmods, none_left]
  · rw [if_neg focus] at hsuppressed
    refine ⟨fun m => ?_, fun hd => ?_⟩
    · rw [hsent, hfocus, hsuppressed, hmods]
      split
      next hm => subst hm; rw [if_neg focus]; rfl
      · exact h.told m
    · rw [hsuppressed, hmods]
      refine h.hidden (deliverable_mono hfocus (fun m hm => hreceive m ?_) hd)
      rintro rfl
      exact focus hm

end State.ModifiersTold

theorem State.canReceive_of_link {s t : State} (htables : t.tables = s.tables) (hlink : ∀ n, t.link n = .off → s.link n = .off) (n : Slot) :
    s.canReceive n = true → t.canReceive n = true := by
  simp only [State.canReceive, State.access, htables, Bool.and_eq_true, decide_eq_true_eq]
  exact fun ⟨on, allowed⟩ => ⟨fun off => on (hlink n off), allowed⟩

/-- Nothing of the focus record or the physical modifiers changes, and no link goes OFF. -/
theorem State.ModifiersTold.of_keySide {s t : State} (h : s.ModifiersTold) (hside : t.keySide = s.keySide)
    (hlink : ∀ n, t.link n = .off → s.link n = .off) : t.ModifiersTold := by
  obtain ⟨hfc, hmods, htables⟩ : t.fc = s.fc ∧ t.ciu.mods = s.ciu.mods ∧ t.tables = s.tables := by
    simpa [State.keySide] using hside
  exact h.of_eq (congrArg Fc.focus hfc) (congrArg Fc.suppressed hfc) hmods (fun n => by rw [State.sent, hfc, State.sent])
    (State.canReceive_of_link htables hlink)

/-! ### The elementary changes without typing -/

theorem State.settlePort_link (s : State) (n m : Slot) (p : Port) :
    (s.settlePort n p).link m = if m = n then p.link else s.link m := by
  rw [State.link, State.settlePort_port]
  split <;> rfl

/-- A port settled that does not go OFF. -/
theorem State.ModifiersTold.settlePort {s : State} {n : Slot} {p : Port} (h : s.ModifiersTold) (hlink : p.link = .off → s.link n = .off) :
    (s.settlePort n p).ModifiersTold := by
  refine h.of_keySide (s.settlePort_keySide n p) fun m => ?_
  rw [State.settlePort_link]
  split
  next hm => exact hm ▸ hlink
  · exact id

/-- A port replaced that does not go OFF. -/
theorem State.ModifiersTold.setPort {s : State} {n : Slot} {p : Port} (h : s.ModifiersTold) (hlink : p.link = .off → s.link n = .off) :
    (s.setPort n p).ModifiersTold := by
  refine h.of_keySide rfl fun m => ?_
  rw [State.link, State.setPort_port]
  split
  next hm => exact hm ▸ hlink
  · exact id

theorem State.ModifiersTold.releaseFlush {s : State} {n : Slot} (h : s.ModifiersTold) : (s.releaseFlush n).ModifiersTold := by
  have hlink (m : Slot) : (s.releaseFlush n).link m = s.link m := by
    rw [State.link, State.releaseFlush_port]
    split
    next hm => rw [hm]; rfl
    · rfl
  refine h.lost (n := n) (by rw [State.releaseFlush_eq]; rfl) (by rw [State.releaseFlush_eq]; rfl) fun m _ =>
    State.canReceive_of_link (by rw [State.releaseFlush_eq]; rfl) (fun m hm => by rwa [hlink] at hm) m

theorem State.ModifiersTold.handOver {s : State} {n : Slot} {e : Entry} (h : s.ModifiersTold) : (s.handOver n e).ModifiersTold := by
  rcases s.handOver_cases n e with ⟨-, he⟩ | ⟨-, q, -, he⟩ | ⟨-, -, he⟩ <;> rw [he]
  · exact h
  · exact h.settlePort id
  · exact h.releaseFlush.of_keySide rfl fun _ => id

theorem State.ModifiersTold.fcLoss {s : State} {n : Slot} (h : s.ModifiersTold) : (s.fcLoss n).ModifiersTold := by
  rw [State.fcLoss_eq]
  exact h.lost rfl rfl fun _ _ => id

theorem State.ModifiersTold.fcInputRemoved {s : State} {n : Slot} (h : s.ModifiersTold) : (s.fcInputRemoved n).ModifiersTold := by
  unfold State.fcInputRemoved
  split
  · exact h.fcLoss
  · exact h.fcLoss.handOver

/-- No slot has been told of a modifier. -/
def State.NoModifierTold (s : State) : Prop := ∀ n, (s.sent n).mods = 0

theorem State.NoModifierTold.of_fc {s t : State} (h : s.NoModifierTold) (hfc : t.fc = s.fc) : t.NoModifierTold := by
  intro n
  rw [State.sent, hfc]
  exact h n

/-- A hand-over leaves each sent image, or empties it. -/
theorem State.handOver_sent (s : State) (n m : Slot) (e : Entry) :
    (s.handOver n e).sent m = s.sent m ∨ (s.handOver n e).sent m = KeyImage.empty := by
  rcases s.handOver_cases n e with ⟨-, he⟩ | ⟨-, q, -, he⟩ | ⟨-, -, he⟩ <;> rw [he]
  · exact .inl rfl
  · exact .inl (s.settlePort_sent n m _)
  · rw [State.raiseEvent_sent, State.releaseFlush_sent]
    split
    · exact .inr rfl
    · exact .inl rfl

theorem State.NoModifierTold.handOver {s : State} {n : Slot} {e : Entry} (h : s.NoModifierTold) : (s.handOver n e).NoModifierTold := by
  intro m
  rcases s.handOver_sent n m e with he | he <;> rw [he]
  · exact h m
  · rfl

/-- The focus is left: what it was told of is gone, and no other slot was told of a modifier. -/
theorem State.ModifiersTold.leaveFocus {s : State} (h : s.ModifiersTold) : (s.leaveFocus s.fc.focus).NoModifierTold := by
  have told := h.told
  generalize s.fc.focus = f at told
  cases f with
  | none => exact fun n => (told n).trans (if_neg (by simp))
  | some n =>
    refine State.NoModifierTold.handOver fun m => ?_
    rw [State.suppressHeld_sent]
    split
    · rfl
    next hm => exact (told m).trans (if_neg fun hf => hm (Option.some.inj hf).symm)

/-- A focus is entered with every held modifier suppressed. -/
theorem State.NoModifierTold.of_suppressed {s : State} (h : s.NoModifierTold) (hall : s.ciu.mods &&& ~~~s.fc.suppressed = 0) :
    s.ModifiersTold := ⟨fun n => by rw [hall, ite_self]; exact h n, fun _ => hall⟩

theorem State.NoModifierTold.enterFocus {s : State} (h : s.NoModifierTold) (t : Option Slot) : (s.enterFocus t).ModifiersTold := by
  refine State.NoModifierTold.of_suppressed (fun n => ?_) ?_
  · rw [State.sent, State.enterFocus_fc]
    exact h n
  · rw [State.enterFocus_fc, show (s.enterFocus t).ciu.mods = s.ciu.mods from congrArg (·.1.2.2.1) (s.enterFocus_consoleSide t)]
    ext i
    simp +contextual

theorem State.ModifiersTold.enterPhase {s : State} {n : Slot} (h : s.ModifiersTold) (w : WakeRecord) (p : Phase) :
    (s.enterPhase n w p).ModifiersTold := by
  refine h.of_keySide (by simp [State.enterPhase]) fun m => ?_
  rw [State.link, State.enterPhase_port]
  exact id

theorem State.ModifiersTold.startTimer {s : State} (h : s.ModifiersTold) (i : TimerId) : (s.startTimer i).ModifiersTold := by
  refine h.of_keySide (s.startTimer_keySide i) fun m => ?_
  rw [State.startTimer_link]
  exact id

/-- A link lost, with what the slot was told of (01, R21). -/
theorem State.ModifiersTold.lose {s : State} {n : Slot} {p : Port} (h : s.ModifiersTold) : ((s.settlePort n p).fcLoss n).ModifiersTold := by
  refine h.lost (n := n) ?_ ?_ fun m hm => ?_
  · rw [State.fcLoss_eq, State.setFc_fc, State.lostFc, State.settlePort_fc, State.settlePort_ciu]
    rfl
  · rw [State.fcLoss_eq, State.setFc_ciu, State.settlePort_ciu]
  · simp only [State.canReceive, State.link, State.access, State.fcLoss_port, State.settlePort_port, if_neg hm]
    rw [State.fcLoss_eq, State.setFc_tables, State.settlePort_tables]
    exact id

/-- INPUT_ALLOWED goes from one slot alone, with what the slot was told of (01, R23). -/
theorem State.ModifiersTold.inputRemoved {s : State} {n : Slot} {x : Tables} (h : s.ModifiersTold)
    (hallowed : ∀ m, m ≠ n → (s.access m).inputAllowed = true → (x.access.get m).inputAllowed = true) :
    ((s.setTables x).fcInputRemoved n).ModifiersTold := by
  have lost : ((s.setTables x).fcLoss n).ModifiersTold := by
    refine h.lost (n := n) (by rw [State.fcLoss_eq]; rfl) (by rw [State.fcLoss_eq]; rfl) fun m hm => ?_
    simp only [State.canReceive, Bool.and_eq_true, State.link, State.fcLoss_port]
    intro ⟨on, allowed⟩
    rw [State.fcLoss_eq]
    exact ⟨on, hallowed m hm allowed⟩
  unfold State.fcInputRemoved
  split
  · exact lost
  · exact lost.handOver

theorem Evolves.modifiersTold {s t : State} (h : Evolves b s t) (hb : b.typing = false) : s.ModifiersTold → t.ModifiersTold := by
  induction h with
  | trans _ _ ih₁ ih₂ => exact ih₂ ∘ ih₁
  | refl => exact id
  | ciu s x hmods => exact fun h => h.of_keySide (by simp [State.keySide, hmods]) fun _ => id
  | mgi | cmp | gu | atu | command | start | stop | pl | flash | cuts | channels => exact fun h => h.of_keySide rfl fun _ => id
  | linePulse s n w => exact fun h => (h.enterPhase w .linePulse).startTimer (.t4 n)
  | lineAwait s n w => exact fun h => (h.enterPhase w .lineAwait).startTimer (.t5 n)
  | failed s n w => exact fun h => h.enterPhase w .failed
  | idle s n w => exact fun h => h.enterPhase w .idle
  | put s n p hp => exact fun h => h.setPort hp.off
  | answer => exact fun h => h.setPort id
  | await s n => exact fun h => (h.setPort (p := { s.port n with signalling := .stopped }) id).of_keySide rfl fun _ => id
  | tables s x _ hallowed =>
    refine fun h => h.of_eq rfl rfl rfl (fun _ => rfl) fun n => ?_
    simp only [State.canReceive, Bool.and_eq_true]
    exact fun ⟨on, allowed⟩ => ⟨on, hallowed hb n allowed⟩
  | fc s x hfocus _ hsuppressed hsent => exact fun h => h.of_eq hfocus hsuppressed rfl (fun n => by rw [State.sent, State.setFc_fc, hsent, State.sent]) fun _ => id
  | flush s n => exact State.ModifiersTold.releaseFlush
  | focus s t => exact fun h => h.leaveFocus.enterFocus t
  | settle s n p hp => exact fun h => h.settlePort hp.off
  | lose s n l hl => exact fun h => h.lose
  | becomeActive s n =>
    refine fun h => (h.settlePort (p := { s.port n with link := .active, signalling := .stopped }) nofun).of_keySide
      (State.wakeOnActive_keySide _ n) fun m => ?_
    rw [State.link, State.becomeActive, State.wakeOnActive_port]
    exact id
  | signal s n w =>
    exact fun h => (h.enterPhase w .signal).settlePort nofun
  | rest s n =>
    refine fun h => h.of_keySide (s.restartWake_keySide n) fun m => ?_
    rw [State.link, State.restartWake_port]
    split
    next hm =>
      rw [hm, Port.wakeRestarted]
      dsimp only
      split
      · nofun
      · exact id
    · exact id
  | inputRemoved s x n _ hallowed => exact fun h => h.inputRemoved hallowed
  | told s n k l hk =>
    rw [hk hb, State.setSent_self]
    exact fun h => h.settlePort id
  | image ht | input ht | tellOff ht => exact absurd (ht.symm.trans hb) (by decide)

/-! ### The operations of the console keyboard -/

/-- Both laws, each under its premise, with the codes that may be sent. -/
structure State.Tells (s : State) (K M : Prop) (A : Byte → Prop) : Prop where
  keys : K → s.fc.KeysWithin A
  modifiers : M → s.ModifiersTold

namespace State.Tells

variable {s t : State} {K M : Prop} {A B : Byte → Prop}

theorem mono (h : s.Tells K M A) (hab : ∀ k, A k → B k) : s.Tells K M B := ⟨fun hk => (h.keys hk).mono hab, h.modifiers⟩

theorem evolves (h : s.Tells K M A) (e : Evolves ⟨false, none⟩ s t) : t.Tells K M A :=
  ⟨fun hk => e.keysWithin rfl A (h.keys hk), fun hm => e.modifiersTold rfl (h.modifiers hm)⟩

theorem of_keySide (h : s.Tells K M A) (hside : t.keySide = s.keySide) (hlink : ∀ n, t.link n = .off → s.link n = .off) :
    t.Tells K M A :=
  ⟨fun hk => State.keysWithin_of_keySide hside (h.keys hk), fun hm => (h.modifiers hm).of_keySide hside hlink⟩

/-- A destination is recorded for a code that no sent image holds. -/
theorem hold {k : Byte} (h : s.Tells K M A) (hk : ¬ A k) (d : Destination) : (s.hold k d).Tells K M A := by
  refine ⟨fun hkeys n a ha => ?_, fun hm => (h.modifiers hm).of_eq rfl rfl rfl (fun _ => rfl) fun _ => id⟩
  obtain ⟨allowed, held⟩ := h.keys hkeys n a ha
  refine ⟨allowed, ?_⟩
  show heldKey a (holdKey k d s.fc.held) = _
  have other : a ≠ k := by
    rintro rfl
    exact hk allowed
  rw [heldKey_holdKey, if_neg other, held]

/-- A press of a code that no sent image holds is delivered (01, R14). -/
theorem deliverPress {k : Byte} (h : s.Tells K M A) (hk : ¬ A k) (n : Slot) :
    (s.deliverPress n k).Tells K M fun a => A a ∨ a = k := by
  refine State.Tells.evolves ?_ (State.wakeOnInput_evolves _ n)
  refine ⟨fun hkeys => State.handOver_keys n _ fun m a ha => ?_, fun hm => State.ModifiersTold.handOver ?_⟩
  · have ha : a ∈ ((s.fc.sent.put n { s.sent n with keys := insertKey k (s.sent n).keys }).get m).keys := ha
    show _ ∧ heldKey a (holdKey k (.slot n) s.fc.held) = _
    rw [heldKey_holdKey]
    rw [Table.get_put] at ha
    by_cases hak : a = k
    · subst hak
      rw [if_pos rfl]
      refine ⟨.inr rfl, ?_⟩
      split at ha
      next hm => rw [hm]
      · exact absurd (h.keys hkeys m a ha).1 hk
    · rw [if_neg hak]
      split at ha
      next hm =>
        subst hm
        have old : a ∈ (s.sent m).keys := ((mem_insertKey k a _).mp ha).resolve_left hak
        obtain ⟨allowed, held⟩ := h.keys hkeys m a old
        exact ⟨.inl allowed, held⟩
      · obtain ⟨allowed, held⟩ := h.keys hkeys m a ha
        exact ⟨.inl allowed, held⟩
  · refine (h.modifiers hm).of_eq rfl rfl rfl (fun m => ?_) fun _ => id
    rw [State.setSent_sent]
    split
    next hm => rw [hm]; rfl
    · rfl

theorem routePress {k : Byte} (h : s.Tells K M A) (hk : ¬ A k) : (s.routePress k).Tells K M fun a => A a ∨ a = k := by
  have suppressed := (h.hold hk .suppressed).mono fun a => Or.inl (b := a = k)
  unfold State.routePress
  split
  · exact suppressed
  · split
    · exact suppressed
    · split
      · exact suppressed.evolves (State.wakeOnInput_evolves _ _)
      · split
        · exact suppressed.evolves (raiseEvent_evolves _ _)
        · exact h.deliverPress hk _

theorem passPress {k : Byte} (h : s.Tells K M A) (hk : ¬ A k) : (s.passPress k).Tells K M fun a => A a ∨ a = k := by
  unfold State.passPress
  exact (h.evolves (.fc s { s.fc with passNext := false } rfl rfl rfl rfl)).routePress hk

theorem normalPress {k : Byte} (h : s.Tells K M A) (hk : ¬ A k) : (s.normalPress k).Tells K M fun a => A a ∨ a = k := by
  have consumed := (h.hold hk .consumed).mono fun a => Or.inl (b := a = k)
  unfold State.normalPress
  split
  · split
    · exact h.passPress hk
    · exact consumed.of_keySide rfl fun _ => id
  · split
    · split
      · exact h.passPress hk
      · exact consumed.evolves (runAction_evolves _ _ _)
    · exact h.routePress hk

theorem leadOnePress {k : Byte} (h : s.Tells K M A) (hk : ¬ A k) : (s.leadOnePress k).Tells K M fun a => A a ∨ a = k := by
  unfold State.leadOnePress
  dsimp only
  split
  · have consumed := (h.hold hk .consumed).mono fun a => Or.inl (b := a = k)
    exact consumed.of_keySide (by simp [State.hold_keySide]) fun _ => id
  · have left : ((s.stopTimer .t0).setHkm .normal).Tells K M A := h.of_keySide rfl fun _ => id
    exact left.normalPress hk

theorem commandPress {k : Byte} (h : s.Tells K M A) (hk : ¬ A k) (command : s.hkm = .command) :
    (s.commandPress k).Tells K M fun a => A a ∨ a = k := by
  have consumed := (h.hold hk .consumed).mono fun a => Or.inl (b := a = k)
  have command : (s.hold k .consumed).hkm = .command := command
  unfold State.commandPress
  generalize s.hold k .consumed = u at consumed command
  dsimp only
  split
  · exact consumed.evolves (u.leaveCommand_evolves command)
  · split
    · split
      · exact consumed.evolves ((u.runAction_evolves _ _).trans (.start _ .t1 ((u.runAction_hkm _ _).trans command)))
      · exact consumed.evolves ((u.leaveCommand_evolves command).trans (runAction_evolves _ _ _))
    · exact consumed.evolves (.start u .t1 command)

/-- A press of a code that no sent image holds leaves at most that code sent. -/
theorem press {k : Byte} (h : s.Tells K M A) (hk : ¬ A k) : (s.press k).Tells K M fun a => A a ∨ a = k := by
  unfold State.press
  split
  · exact h.normalPress hk
  · exact h.leadOnePress hk
  · exact h.commandPress hk ‹_›

/-- Presses of distinct codes, none of which a sent image holds. -/
theorem presses {l : List Byte} (h : s.Tells K M A) (hl : ∀ k ∈ l, ¬ A k) (distinct : l.Nodup) :
    (l.foldl State.press s).Tells K M fun a => A a ∨ a ∈ l := by
  induction l generalizing s A with
  | nil => exact h.mono fun _ => .inl
  | cons k l ih =>
    obtain ⟨fresh, distinct⟩ := List.nodup_cons.mp distinct
    refine (ih (h.press (hl k (.head l))) (fun a ha => ?_) distinct).mono fun a => ?_
    · rintro (allowed | rfl)
      · exact hl a (.tail k ha) allowed
      · exact fresh ha
    · simp [or_assoc]

/-- A release takes the code from what is sent: only the slot its entry names was told of it (01, R15). -/
theorem releaseKey (h : s.Tells K M A) (k : Byte) : (s.releaseKey k).Tells K M fun a => A a ∧ a ≠ k := by
  have dropped {u : State} (hu : K → u.fc.KeysWithin A) (free : K → ∀ m, k ∉ (u.sent m).keys) (hmods : M → u.ModifiersTold) :
      (u.setFc { u.fc with held := dropKey k u.fc.held }).Tells K M fun a => A a ∧ a ≠ k := by
    refine ⟨fun hk m a ha => ?_, fun hm => (hmods hm).of_eq rfl rfl rfl (fun _ => rfl) fun _ => id⟩
    obtain ⟨allowed, held⟩ := hu hk m a ha
    have other : a ≠ k := by
      rintro rfl
      exact free hk m ha
    refine ⟨⟨allowed, other⟩, ?_⟩
    show heldKey a (dropKey k u.fc.held) = _
    rw [heldKey_dropKey, if_neg other, held]
  unfold State.releaseKey
  dsimp only
  split
  next n hn =>
    have told (m : Slot) : (s.setSent n { s.sent n with keys := (s.sent n).keys.filter fun a => decide (a ≠ k) }).sent m =
        if m = n then { s.sent n with keys := (s.sent n).keys.filter fun a => decide (a ≠ k) } else s.sent m := s.setSent_sent n m _
    have keys (hk : K) : (s.setSent n { s.sent n with keys := (s.sent n).keys.filter fun a => decide (a ≠ k) }).fc.KeysWithin A := by
      intro m a ha
      have ha := (congrArg (a ∈ KeyImage.keys ·) (told m)).mp ha
      split at ha
      next hm => exact h.keys hk m a (hm ▸ (List.mem_filter.mp ha).1)
      · exact h.keys hk m a ha
    have free (hk : K) (m : Slot) : k ∉ ((s.setSent n { s.sent n with keys := (s.sent n).keys.filter fun a => decide (a ≠ k) }).sent m).keys := by
      rw [told]
      split
      · simp
      next hm => exact fun hmem => hm (by simpa [hn, eq_comm] using (h.keys hk m k hmem).2)
    have modifiers (hm : M) : (s.setSent n { s.sent n with keys := (s.sent n).keys.filter fun a => decide (a ≠ k) }).ModifiersTold :=
      (h.modifiers hm).of_eq rfl rfl rfl (fun m => by rw [told]; split <;> simp [*]) fun _ => id
    generalize s.setSent n { s.sent n with keys := (s.sent n).keys.filter fun a => decide (a ≠ k) } = u at keys free modifiers
    refine dropped (fun hk => u.handOver_keys n _ (keys hk)) (fun hk m => ?_) fun hm => (modifiers hm).handOver
    rcases u.handOver_sent n m (.keyboard (u.sent n)) with he | he
    · exact (congrArg (k ∉ KeyImage.keys ·) he).mpr (free hk m)
    · exact (congrArg (k ∉ KeyImage.keys ·) he).mpr List.not_mem_nil
  next hn =>
    refine dropped h.keys (fun hk m hm => ?_) h.modifiers
    exact hn m (h.keys hk m k hm).2

/-- The codes released are no longer sent. -/
theorem releases (l : List Byte) (h : s.Tells K M A) : (l.foldl State.releaseKey s).Tells K M fun a => A a ∧ a ∉ l := by
  induction l generalizing s A with
  | nil => exact h.mono fun a ha => ⟨ha, List.not_mem_nil⟩
  | cons k l ih =>
    refine (ih (h.releaseKey k)).mono fun a ⟨⟨allowed, other⟩, ha⟩ => ⟨allowed, ?_⟩
    simp [other, ha]

end State.Tells

/-! ### Modifier changes (01, R16) -/

/-- The modifiers that are not suppressed after a change, with no deliverable focus: none, where there were none before. -/
theorem hidden_after_change {old new suppressed : Modifiers} (h : old &&& ~~~suppressed = 0) :
    new &&& ~~~((suppressed &&& ~~~(old &&& ~~~new)) ||| (new &&& ~~~old)) = 0 := by
  ext i hi
  have bit : old[i] = true → suppressed[i] = true := by
    have := congrArg (fun x : Modifiers => x[i]) h
    simpa using this
  simp only [BitVec.getElem_and, BitVec.getElem_not, BitVec.getElem_or]
  revert bit
  cases old[i] <;> cases new[i] <;> cases suppressed[i] <;> simp

theorem State.focusModifiers_eq {s : State} (hidden : s.deliverable = false → s.ciu.mods &&& ~~~s.fc.suppressed = 0) :
    s.focusModifiers = s.ciu.mods &&& ~~~s.fc.suppressed := by
  unfold State.focusModifiers
  split
  · rfl
  next undeliverable => rw [hidden (Bool.eq_false_iff.mpr undeliverable)]

/-- The focus slot told of its modifiers, where no other slot was told of any. -/
theorem State.tellModifiers_told {s : State} (others : ∀ n, s.fc.focus ≠ some n → (s.sent n).mods = 0)
    (hidden : s.deliverable = false → s.ciu.mods &&& ~~~s.fc.suppressed = 0) : s.tellModifiers.ModifiersTold := by
  unfold State.tellModifiers
  rw [State.focusModifiers_eq hidden]
  split
  next hf => exact ⟨fun n => by rw [others n (by simp [hf]), hf, if_neg (by simp)], hidden⟩
  next f hf =>
    split
    next same =>
      refine ⟨fun n => ?_, hidden⟩
      split
      next hn => rw [same, Option.some.inj (hn.symm.trans hf)]
      next hn => exact others n hn
    · refine State.ModifiersTold.handOver ⟨fun n => ?_, hidden⟩
      rw [State.setSent_sent]
      by_cases hn : n = f
      · subst hn
        rw [if_pos rfl]
        exact (if_pos hf).symm
      · have other : s.fc.focus ≠ some n := fun h => hn (Option.some.inj (h.symm.trans hf))
        rw [if_neg hn, others n other]
        exact (if_neg other).symm

/-- The physical modifiers become `mods`, and the focus slot is told of the change. -/
theorem State.ModifiersTold.change {s : State} (h : s.ModifiersTold) (mods : Modifiers) (ks : List Byte) :
    ((s.setCiu { s.ciu with mods := mods, keys := ks }).modifierChange (s.ciu.mods &&& ~~~mods) (mods &&& ~~~s.ciu.mods)).ModifiersTold := by
  rw [State.modifierChange_eq]
  refine State.tellModifiers_told (fun n hn => (h.told n).trans (if_neg hn)) fun undeliverable => ?_
  have undeliverable : s.deliverable = false := undeliverable
  rw [State.regroupModifiers, show (s.setCiu { s.ciu with mods := mods, keys := ks }).deliverable = false from undeliverable]
  exact hidden_after_change (h.hidden undeliverable)

theorem State.tellModifiers_keys {s : State} {A : Byte → Prop} (h : s.fc.KeysWithin A) : s.tellModifiers.fc.KeysWithin A := by
  unfold State.tellModifiers
  split
  · exact h
  next f _ =>
    split
    · exact h
    · refine State.handOver_keys f _ fun m a ha => ?_
      have ha := (congrArg (a ∈ KeyImage.keys ·) (s.setSent_sent f m _)).mp ha
      split at ha
      next hm => exact h m a (hm ▸ ha)
      · exact h m a ha

/-! ### Arrivals of the console keyboard -/

theorem reportKeys_nodup (l : List Byte) : (reportKeys l).Nodup := by
  induction l with
  | nil => exact .nil
  | cons k l ih =>
    unfold reportKeys
    split
    · exact List.nodup_cons.mpr ⟨by simp, ih.filter _⟩
    · exact ih

/-- The keys of a report stand once each. -/
theorem keyboardOf_nodup {bytes : List Byte} {mods : Modifiers} {keys : List Byte} (h : keyboardOf bytes = some (mods, keys)) :
    keys.Nodup := by
  unfold keyboardOf at h
  split at h
  · dsimp only at h
    split at h
    · cases h
    · cases h
      exact reportKeys_nodup _
  · cases h

/-- After an arrival of distinct keys both laws hold with the keys of the arrival. -/
theorem State.Tells.keyboardArrival {s : State} {K M : Prop} (h : s.Tells K M (· ∈ s.ciu.keys)) (mods : Modifiers) {keys : List Byte}
    (distinct : keys.Nodup) : (s.keyboardArrival mods keys).Tells K M (· ∈ keys) := by
  unfold State.keyboardArrival
  dsimp only
  have changed : (if mods = s.ciu.mods then s.setCiu { s.ciu with mods := mods, keys := sortKeys keys }
      else (s.setCiu { s.ciu with mods := mods, keys := sortKeys keys }).modifierChange (s.ciu.mods &&& ~~~mods)
        (mods &&& ~~~s.ciu.mods)).Tells K M (· ∈ s.ciu.keys) := by
    split
    next same => exact h.of_keySide (by simp [State.keySide, same]) fun _ => id
    · refine ⟨fun hk => ?_, fun hm => (h.modifiers hm).change mods _⟩
      rw [State.modifierChange_eq]
      exact State.tellModifiers_keys ((h.keys hk).of_eq rfl rfl)
  refine ((changed.releases _).presses (fun k hk => ?_) (distinct.filter _)).mono fun k => ?_
  · simp_all
  · simp only [List.mem_filter, List.contains_eq_mem, Bool.not_eq_true', decide_eq_false_iff_not]
    tauto

/-! ### The console's image after its arrivals -/

/-- The attach states, the physical modifiers and keys, and the physical buttons. -/
def State.consoleImage (s : State) : Attach × Attach × Modifiers × List Byte × Buttons := s.consoleSide.1

theorem State.consoleImage_of_side {s t : State} (h : t.consoleSide = s.consoleSide) : t.consoleImage = s.consoleImage :=
  congrArg Prod.fst h

@[simp] theorem State.startTimer_consoleImage (s : State) (i : TimerId) : (s.startTimer i).consoleImage = s.consoleImage := rfl
@[simp] theorem State.stopTimer_consoleImage (s : State) (i : TimerId) : (s.stopTimer i).consoleImage = s.consoleImage := rfl
@[simp] theorem State.setHkm_consoleImage (s : State) (c : CommandState) : (s.setHkm c).consoleImage = s.consoleImage := rfl
@[simp] theorem State.setFc_consoleImage (s : State) (x : Fc) : (s.setFc x).consoleImage = s.consoleImage := rfl
@[simp] theorem State.hold_consoleImage (s : State) (k : Byte) (d : Destination) : (s.hold k d).consoleImage = s.consoleImage := rfl

@[simp] theorem State.setCommand_consoleImage (s : State) (c : CommandState) : (s.setCommand c).consoleImage = s.consoleImage :=
  (State.consoleImage_of_side (State.updateLeds_consoleSide (s.setHkm c))).trans rfl

@[simp] theorem State.routePress_consoleImage (s : State) (k : Byte) : (s.routePress k).consoleImage = s.consoleImage :=
  State.consoleImage_of_side (s.routePress_consoleSide k)

@[simp] theorem State.runAction_consoleImage (s : State) (a : Action) (x : Argument) : (s.runAction a x).consoleImage = s.consoleImage :=
  State.consoleImage_of_side (s.runAction_consoleSide a x)

@[simp] theorem State.normalPress_consoleImage (s : State) (k : Byte) : (s.normalPress k).consoleImage = s.consoleImage := by
  unfold State.normalPress State.passPress
  split
  · split <;> simp
  · split
    · split <;> simp
    · simp

@[simp] theorem State.press_consoleImage (s : State) (k : Byte) : (s.press k).consoleImage = s.consoleImage := by
  unfold State.press
  split
  · simp
  · unfold State.leadOnePress
    dsimp only
    split <;> simp
  · unfold State.commandPress
    dsimp only
    split
    · simp
    · split
      · split <;> simp
      · simp

/-- An arrival of the console keyboard replaces the modifiers and the keys, and nothing else of the console's image. -/
theorem State.keyboardArrival_consoleImage (s : State) (mods : Modifiers) (keys : List Byte) :
    (s.keyboardArrival mods keys).consoleImage = (s.ciu.keyboardPort, s.ciu.pointerPort, mods, sortKeys keys, s.ciu.buttons) := by
  have presses (l : List Byte) (u : State) : (l.foldl State.press u).consoleImage = u.consoleImage := by
    induction l generalizing u with
    | nil => rfl
    | cons k l ih => rw [List.foldl_cons, ih, State.press_consoleImage]
  have releases (l : List Byte) (u : State) : (l.foldl State.releaseKey u).consoleImage = u.consoleImage := by
    induction l generalizing u with
    | nil => rfl
    | cons k l ih => rw [List.foldl_cons, ih, State.consoleImage_of_side (u.releaseKey_consoleSide k)]
  unfold State.keyboardArrival
  dsimp only
  rw [presses, releases]
  split
  · rfl
  · rw [State.consoleImage_of_side (State.modifierChange_consoleSide _ _ _)]
    rfl

theorem State.keyboardArrival_keys (s : State) (mods : Modifiers) (keys : List Byte) :
    (s.keyboardArrival mods keys).ciu.keys = sortKeys keys :=
  congrArg (·.2.2.2.1) (s.keyboardArrival_consoleImage mods keys)

/-! ### Every step -/

/-- Both laws, each under its premise. -/
abbrev State.KeysTold (s : State) (K M : Prop) : Prop := s.Tells K M (· ∈ s.ciu.keys)

theorem State.KeysTold.arrival {s : State} {K M : Prop} (h : s.KeysTold K M) (mods : Modifiers) {keys : List Byte} (distinct : keys.Nodup) :
    (s.keyboardArrival mods keys).KeysTold K M :=
  (h.keyboardArrival mods distinct).mono fun k hk => by rwa [State.keyboardArrival_keys, mem_sortKeys]

theorem State.KeysTold.keyboardReports {s : State} {K M : Prop} (h : s.KeysTold K M) (bytes : List Byte) :
    (s.keyboardReports bytes).KeysTold K M := by
  unfold State.keyboardReports
  split
  · split
    next mods keys hk =>
      exact h.arrival mods (keyboardOf_nodup hk)
    · exact h
  · exact h

theorem State.keys_of_side {s t : State} (h : t.consoleSide = s.consoleSide) : t.ciu.keys = s.ciu.keys :=
  congrArg (·.1.2.2.2.1) h

/-- Without typing the physical keys stay. -/
theorem Evolves.keys {s t : State} (h : Evolves b s t) (hb : b.typing = false) : t.ciu.keys = s.ciu.keys := by
  induction h with
  | trans _ _ ih₁ ih₂ => exact ih₂.trans ih₁
  | ciu s x _ hkeys => exact hkeys
  | refl | mgi | cmp | gu | atu | fc | command | start | stop | put | answer | tables | pl | flash | cuts | channels => rfl
  | flush s n | settle s n p | lose s n l | linePulse s n w | lineAwait s n w | failed s n w | idle s n w | signal s n w | await s n =>
    exact State.keys_of_side (by simp)
  | becomeActive s n => exact State.keys_of_side (by simp [State.becomeActive])
  | rest s n =>
    rw [State.restartWake_eq]
    rfl
  | focus s t => exact State.keys_of_side (by simp)
  | inputRemoved s x n => exact State.keys_of_side (by simp)
  | told s n k l => exact State.keys_of_side (by simp)
  | image ht | input ht | tellOff ht => exact absurd (ht.symm.trans hb) (by decide)

theorem State.KeysTold.evolves {s t : State} {K M : Prop} (h : s.KeysTold K M) (e : Evolves ⟨false, none⟩ s t) : t.KeysTold K M := by
  rw [State.KeysTold, e.keys rfl]
  exact State.Tells.evolves h e

/-- A console device goes: the keyboard's final arrival has no key and no modifier (01, R5). -/
theorem State.KeysTold.deviceDisconnects {s : State} {K M : Prop} (h : s.KeysTold K M) (p : ConsolePort) :
    (s.deviceDisconnects p).KeysTold K M := by
  have last : (s.finalArrival p).KeysTold K M := by
    unfold State.finalArrival
    split
    · cases p
      · exact (h.evolves (commandToNormal_evolves s)).arrival 0 .nil
      · exact h.evolves (buttonArrival_evolves s 0 0 0 0)
    · exact h
  exact last.evolves (.ciu_of_image ((s.finalArrival p).ciu.detach_image p))

/-! ### The desk restart (01, R24; 12, R188) -/

theorem mem_allSlots (n : Slot) : n ∈ allSlots := by
  revert n
  decide

theorem State.restartPorts_sent (s : State) (m : Slot) : s.restartPorts.sent m = KeyImage.empty := by
  have flushed (l : List Slot) (u : State) (hm : m ∈ l ∨ u.sent m = KeyImage.empty) :
      (l.foldl State.releaseFlush u).sent m = KeyImage.empty := by
    induction l generalizing u with
    | nil => exact hm.resolve_left List.not_mem_nil
    | cons n l ih =>
      refine ih _ ?_
      rw [State.releaseFlush_sent]
      by_cases hn : m = n
      · exact .inr (if_pos hn)
      · rw [if_neg hn]
        exact hm.imp_left fun hm => (List.mem_cons.mp hm).resolve_left hn
  have all := flushed allSlots s (.inl (mem_allSlots m))
  unfold State.restartPorts
  generalize allSlots.foldl State.releaseFlush s = u at all
  exact all

/-- Nothing is told of, and every held modifier is suppressed. -/
theorem State.tells_of_nothing_sent {s : State} (hsent : ∀ n, s.sent n = KeyImage.empty) (hall : s.ciu.mods &&& ~~~s.fc.suppressed = 0)
    (K M : Prop) : s.KeysTold K M := by
  refine ⟨fun _ n k hk => ?_, fun _ => State.NoModifierTold.of_suppressed (fun n => by rw [hsent]; rfl) hall⟩
  rw [show s.fc.sent.get n = KeyImage.empty from hsent n] at hk
  cases hk

theorem State.recordDefaulted_fc (s : State) (d : Byte) : (s.recordDefaulted d).fc = s.fc := by
  unfold State.recordDefaulted
  split <;> rfl

theorem State.restartLoaded_sent (s : State) (n : Slot) : s.restartLoaded.sent n = KeyImage.empty := by
  have sent := s.restartMgi.restartPorts_sent n
  unfold State.restartLoaded State.install
  generalize s.restartMgi.restartPorts = u at sent
  rw [State.sent, State.recordDefaulted_fc]
  exact sent

theorem State.restartFc_sent (s : State) (mode : FollowMode) (n : Slot) : (s.restartFc mode).sent n = s.sent n := rfl

theorem State.restartFc_hidden (s : State) (mode : FollowMode) :
    (s.restartFc mode).ciu.mods &&& ~~~(s.restartFc mode).fc.suppressed = 0 := BitVec.and_not_self s.ciu.mods

theorem State.deskRestart_tells (s : State) (K M : Prop) : s.deskRestart.KeysTold K M := by
  rw [State.deskRestart_eq]
  generalize hmode : (loadImage (judged s.pl.loadCopy)).1.input.general.follow = mode
  have sent (n : Slot) : (s.restartLoaded.restartFc mode).sent n = KeyImage.empty := by
    rw [State.restartFc_sent, State.restartLoaded_sent]
  generalize s.restartLoaded = u at sent ⊢
  have later : Evolves ⟨false, none⟩ (u.restartFc mode)
      ((u.restartBlocks mode u.ciu.buttons).restartRest.restartCiu).startHeads := by
    unfold State.restartBlocks
    exact (((stopCommand_evolves _).trans (resetGu_evolves _ _)).trans (restartRest_evolves _)).trans
      ((restartCiu_evolves _).trans (startHeads_evolves _))
  exact (State.tells_of_nothing_sent sent (State.restartFc_hidden _ mode) K M).evolves later

theorem State.KeysTold.respond {s : State} {K M : Prop} (h : s.KeysTold K M) (n : Slot) (r : Response) : (s.respond n r).KeysTold K M :=
  ⟨h.keys, fun hm => (h.modifiers hm).setPort id⟩

theorem State.KeysTold.takeRequest {s : State} {K M : Prop} (h : s.KeysTold K M) (n : Slot) (kind : Byte) (report : List Byte)
    {f : Request → Answer} (hf : ∀ r, (f r).state.KeysTold K M) : (s.takeRequest n kind report f).KeysTold K M := by
  unfold State.takeRequest
  split
  · split
    · refine State.KeysTold.respond ?_ n _
      split
      · exact h
      · exact hf _
    · exact h
  · exact h

theorem State.KeysTold.restartRequest {s : State} {K M : Prop} (h : s.KeysTold K M) (n : Slot) (r : Request) :
    (s.restartRequest n r).state.KeysTold K M := by
  unfold State.restartRequest State.bareAction State.bareRequest
  split
  · split
    · split
      · exact h
      · rw [State.accept_state]
        exact s.deskRestart_tells K M
    · exact h
  · exact h

theorem State.KeysTold.whenTaking {s t : State} {K M : Prop} {f : State → State} (h : s.KeysTold K M) (hf : (f s).KeysTold K M)
    (ht : s.whenTaking f = .next t) : t.KeysTold K M := by
  unfold State.whenTaking at ht
  obtain rfl := Host.Outcome.next.inj ht
  split
  · exact hf
  · exact h

theorem State.KeysTold.exec {s t : State} {c : Instr} {K M : Prop} (hc : c.isReset = false) (h : s.KeysTold K M)
    (hexec : Machine.exec c s = .next t) : t.KeysTold K M := by
  cases htyping : c.isTyping
  · exact h.evolves (exec_evolves hc (fun typing => absurd (htyping.symm.trans typing) (by decide)) rfl hexec)
  · cases c <;> simp only [Instr.isTyping, Bool.false_eq_true] at htyping
    case keyboardReport bytes => exact h.whenTaking (f := fun s => s.keyboardReports bytes) (h.keyboardReports bytes) hexec
    case consoleDeviceDisconnected p => exact h.whenTaking (f := fun s => s.deviceDisconnects p) (h.deviceDisconnects p) hexec
    case restart n report => exact h.whenTaking (h.takeRequest n 11 report fun r => h.restartRequest n r) hexec

/-- Settles O54: both laws are followed through the console keyboard's arrivals and the desk restart (`State.Tells`), and every other
change is one without typing. -/
theorem stepsKeepKeysAndModifiers : Obligations.StepsKeepKeysAndModifiers := by
  intro s t h
  have start (u : State) (hports : ∀ n, u.sent n = KeyImage.empty) (hmods : u.ciu.mods = 0) : u.KeysTold (KeyLaw s) (ModifierLaw s) :=
    State.tells_of_nothing_sent hports (by rw [hmods]; exact BitVec.zero_and) _ _
  have reset (n : Slot) : (Table.all 8 KeyImage.empty).get n = KeyImage.empty := Table.get_all _ _
  have kept : t.KeysTold (KeyLaw s) (ModifierLaw s) := by
    refine step_induction (P := fun u => u.KeysTold (KeyLaw s) (ModifierLaw s)) h ⟨id, s.modifierLaw_iff.mp⟩ ?_ ?_ ?_ ?_ ?_
      fun u v c hc hu => hu.exec hc
    · exact fun u l hu => hu.of_keySide rfl fun _ => id
    · refine fun u _ hu => hu.of_keySide rfl fun n => ?_
      rw [State.link, State.advance_port]
      exact id
    · intro u _
      obtain ⟨flash, cuts, he⟩ := u.resetAsserts_eq
      rw [he]
      exact start _ reset rfl
    · exact fun u _ hu => hu.of_keySide rfl fun _ => id
    · exact fun u changed img _ => (start ((u.setFlash (u.flash.change changed)).sectionsLoaded img) reset rfl).evolves (State.powerOn_evolves _ img)
  exact ⟨kept.keys, fun hm => (State.modifierLaw_iff t).mpr (kept.modifiers hm)⟩

end Sys2Proof.Machine


/-! Steps (10, section 10.2): the front command, and the passing of a millisecond. -/

namespace Sys2Proof.Machine

/-! ### The waits and their expiries -/

theorem mem_allSixteen (n : SourceIx) : n ∈ allSixteen := by
  revert n
  decide

/-- The expiries in the order in which those of one millisecond are taken (L30). -/
theorem State.waits_order (s : State) : s.waits.map (·.1) = [.leadWindowExpiry, .commandIdleExpiry, .blinkExpiry] ++
    allSlots.flatMap (fun n => [.resumeSignallingEnd n, .wakeResponseExpiry n, .wakePulseExpiry n, .powerUpWaitExpiry n,
      .queueHoldExpiry n]) ++ allSixteen.map .lossTimerExpiry := by
  simp [State.waits, State.slotWaits, List.map_flatMap, Function.comp_def]

/-- An expiry is due exactly where a wait that belongs to it is. -/
theorem State.mem_dueExpiries (s : State) (c : Instr) : c ∈ s.dueExpiries ↔ ∃ w, (c, w) ∈ s.waits ∧ w.due = true := by
  simp [State.dueExpiries, List.mem_filter]

/-- The wait of a single timer's expiry is that timer. -/
theorem State.mem_dueExpiries_of {s : State} {c : Instr} {w : Wait} (h : ∀ x, (c, x) ∈ s.waits ↔ x = w) :
    c ∈ s.dueExpiries ↔ w.due = true := by
  simp [State.mem_dueExpiries, h]

theorem State.lead_mem_waits (s : State) (w : Wait) : (.leadWindowExpiry, w) ∈ s.waits ↔ w = s.timer .t0 := by
  simp [State.waits, State.slotWaits]

theorem State.commandIdle_mem_waits (s : State) (w : Wait) : (.commandIdleExpiry, w) ∈ s.waits ↔ w = s.timer .t1 := by
  simp [State.waits, State.slotWaits]

theorem State.blink_mem_waits (s : State) (w : Wait) : (.blinkExpiry, w) ∈ s.waits ↔ w = s.timer .t2 := by
  simp [State.waits, State.slotWaits]

theorem State.slot_mem_waits (s : State) (n : Slot) (w : Wait) :
    ((.resumeSignallingEnd n, w) ∈ s.waits ↔ w = (s.port n).signalling) ∧
    ((.wakeResponseExpiry n, w) ∈ s.waits ↔ w = s.timer (.t3 n)) ∧
    ((.wakePulseExpiry n, w) ∈ s.waits ↔ w = s.timer (.t4 n)) ∧
    ((.powerUpWaitExpiry n, w) ∈ s.waits ↔ w = s.timer (.t5 n)) ∧
    ((.queueHoldExpiry n, w) ∈ s.waits ↔ w = s.timer (.t6 n)) := by
  simp [State.waits, State.slotWaits, mem_allSlots]

theorem State.loss_mem_waits (s : State) (n : SourceIx) (w : Wait) :
    (.lossTimerExpiry n, w) ∈ s.waits ↔ w = (s.channel n).lossTimer := by
  simp [State.waits, State.slotWaits, mem_allSixteen, eq_comm]

/-! ### Steps -/

/-- Settles O1: it is how a step is defined. -/
theorem stepRunsTheFrontCommand : Obligations.StepRunsTheFrontCommand := fun _ _ _ => rfl

theorem Wait.due_iff (w : Wait) : w.due = true ↔ ∃ d e, w = .running d e ∧ d ≤ e := by
  cases w <;> simp [Wait.due]

theorem step_of_empty {s : State} (h : s.pending = []) : step s = .next s.tick := by
  unfold step
  rw [h]

/-- Settles O2: each wait advances, and an expiry is queued exactly where its wait is due (`State.mem_dueExpiries`). -/
theorem emptyQueueLetsTimePass : Obligations.EmptyQueueLetsTimePass := by
  refine ⟨Wait.due_iff, fun s hs => ?_⟩
  intro later order
  have advances : later = Wait.advance := funext fun w => by cases w <;> rfl
  clear_value later
  subst advances
  constructor
  · intro held
    rw [step_of_empty hs, State.tick, if_neg (by simp [held])]
  · intro taking
    refine ⟨s.advance.setPending s.advance.dueExpiries, ?_, rfl, s.advance_timer, s.advance_port, s.advance_channel, ?_, ?_⟩
    · rw [step_of_empty hs, State.tick, if_pos taking, hs, List.nil_append]
    · have kept : s.advance.dueExpiries.Sublist (s.advance.waits.map (·.1)) := List.filter_sublist.map _
      rw [State.waits_order] at kept
      exact kept
    · have slot (n : Slot) := s.advance.slot_mem_waits n
      exact ⟨State.mem_dueExpiries_of s.advance.lead_mem_waits, State.mem_dueExpiries_of s.advance.commandIdle_mem_waits,
        State.mem_dueExpiries_of s.advance.blink_mem_waits,
        fun n => ⟨State.mem_dueExpiries_of fun w => (slot n w).1, State.mem_dueExpiries_of fun w => (slot n w).2.1,
          State.mem_dueExpiries_of fun w => (slot n w).2.2.1, State.mem_dueExpiries_of fun w => (slot n w).2.2.2.1,
          State.mem_dueExpiries_of fun w => (slot n w).2.2.2.2⟩,
        fun n => State.mem_dueExpiries_of (s.advance.loss_mem_waits n)⟩

end Sys2Proof.Machine


/-! What each command does while the part takes events. -/

namespace Sys2Proof.Machine

/-- While the part takes events, what is guarded by it runs. -/
theorem State.whenTaking_eq {s : State} (taking : s.taking = true) (f : State → State) : s.whenTaking f = .next (f s) := by
  rw [State.whenTaking, if_pos taking]

section
variable {s : State} (taking : s.taking = true)
include taking

theorem exec_ledTransferComplete : exec .ledTransferComplete s = .next (s.setCiu s.ciu.transferCompletes) :=
  State.whenTaking_eq taking fun s => s.setCiu s.ciu.transferCompletes
theorem exec_ledTransferFailed : exec .ledTransferFailed s = .next (s.setCiu s.ciu.transferFails) :=
  State.whenTaking_eq taking fun s => s.setCiu s.ciu.transferFails
theorem exec_leadWindowExpiry : exec .leadWindowExpiry s = .next (s.t0Expires) :=
  State.whenTaking_eq taking fun s => s.t0Expires
theorem exec_commandIdleExpiry : exec .commandIdleExpiry s = .next (s.t1Expires) :=
  State.whenTaking_eq taking fun s => s.t1Expires
theorem exec_blinkExpiry : exec .blinkExpiry s = .next (s.blinkExpires) :=
  State.whenTaking_eq taking fun s => s.blinkExpires
theorem exec_consoleDeviceConnected (p : ConsolePort) : exec (.consoleDeviceConnected p) s = .next (s.deviceConnects p) :=
  State.whenTaking_eq taking fun s => s.deviceConnects p
theorem exec_consoleConfigurationEnd (p : ConsolePort) (d : ConsoleDevice) : exec (.consoleConfigurationEnd p d) s = .next (s.configurationEnds p d) :=
  State.whenTaking_eq taking fun s => s.configurationEnds p d
theorem exec_consoleDeviceDisconnected (p : ConsolePort) : exec (.consoleDeviceDisconnected p) s = .next (s.deviceDisconnects p) :=
  State.whenTaking_eq taking fun s => s.deviceDisconnects p
theorem exec_keyboardReport (bytes : List Byte) : exec (.keyboardReport bytes) s = .next (s.keyboardReports bytes) :=
  State.whenTaking_eq taking fun s => s.keyboardReports bytes
theorem exec_pointerReport (bytes : List Byte) : exec (.pointerReport bytes) s = .next (s.pointerReports bytes) :=
  State.whenTaking_eq taking fun s => s.pointerReports bytes
theorem exec_busPowerSensed (n : Slot) : exec (.busPowerSensed n) s = .next (s.powerSensed n) :=
  State.whenTaking_eq taking fun s => s.powerSensed n
theorem exec_busPowerLost (n : Slot) : exec (.busPowerLost n) s = .next (s.powerLost n) :=
  State.whenTaking_eq taking fun s => s.powerLost n
theorem exec_busReset (n : Slot) : exec (.busReset n) s = .next (s.busResets n) :=
  State.whenTaking_eq taking fun s => s.busResets n
theorem exec_configuration1Selected (n : Slot) : exec (.configuration1Selected n) s = .next (s.configures n) :=
  State.whenTaking_eq taking fun s => s.configures n
theorem exec_configuration0Selected (n : Slot) : exec (.configuration0Selected n) s = .next (s.deconfigures n) :=
  State.whenTaking_eq taking fun s => s.deconfigures n
theorem exec_busIdle (n : Slot) : exec (.busIdle n) s = .next (s.suspends n) :=
  State.whenTaking_eq taking fun s => s.suspends n
theorem exec_resumeSignalling (n : Slot) : exec (.resumeSignalling n) s = .next (s.resumes n) :=
  State.whenTaking_eq taking fun s => s.resumes n
theorem exec_resumeSignallingEnd (n : Slot) : exec (.resumeSignallingEnd n) s = .next (s.signallingEnds n) :=
  State.whenTaking_eq taking fun s => s.signallingEnds n
theorem exec_setRemoteWakeupFeature (n : Slot) : exec (.setRemoteWakeupFeature n) s = .next (s.permitRemoteWake n true) :=
  State.whenTaking_eq taking fun s => s.permitRemoteWake n true
theorem exec_clearRemoteWakeupFeature (n : Slot) : exec (.clearRemoteWakeupFeature n) s = .next (s.permitRemoteWake n false) :=
  State.whenTaking_eq taking fun s => s.permitRemoteWake n false
theorem exec_slotLedReport (n : Slot) (b : Byte) : exec (.slotLedReport n b) s = .next (s.setsLeds n (ledsOf b)) :=
  State.whenTaking_eq taking fun s => s.setsLeds n (ledsOf b)
theorem exec_inPoll (n : Slot) : exec (.inPoll n) s = .next (s.polls n) :=
  State.whenTaking_eq taking fun s => s.polls n
theorem exec_reportAcknowledged (n : Slot) : exec (.reportAcknowledged n) s = .next (s.acknowledges n) :=
  State.whenTaking_eq taking fun s => s.acknowledges n
theorem exec_managementInPoll (n : Slot) : exec (.managementInPoll n) s = .next (s.managementPolls n) :=
  State.whenTaking_eq taking fun s => s.managementPolls n
theorem exec_responseAcknowledged (n : Slot) : exec (.responseAcknowledged n) s = .next (s.acknowledgesResponse n) :=
  State.whenTaking_eq taking fun s => s.acknowledgesResponse n
theorem exec_wakeResponseExpiry (n : Slot) : exec (.wakeResponseExpiry n) s = .next (s.t3Expires n) :=
  State.whenTaking_eq taking fun s => s.t3Expires n
theorem exec_wakePulseExpiry (n : Slot) : exec (.wakePulseExpiry n) s = .next (s.t4Expires n) :=
  State.whenTaking_eq taking fun s => s.t4Expires n
theorem exec_powerUpWaitExpiry (n : Slot) : exec (.powerUpWaitExpiry n) s = .next (s.t5Expires n) :=
  State.whenTaking_eq taking fun s => s.t5Expires n
theorem exec_queueHoldExpiry (n : Slot) : exec (.queueHoldExpiry n) s = .next (s.t6Expires n) :=
  State.whenTaking_eq taking fun s => s.t6Expires n
theorem exec_frameStart (n : SourceIx) (period : Fin 200000) (lines : Frame) : exec (.frameStart n period lines) s = .next (s.frameStarts n period.val lines) :=
  State.whenTaking_eq taking fun s => s.frameStarts n period.val lines
theorem exec_lossTimerExpiry (n : SourceIx) : exec (.lossTimerExpiry n) s = .next (s.lossExpires n) :=
  State.whenTaking_eq taking fun s => s.lossExpires n
theorem exec_verticalBlanking (h : HeadIx) : exec (.verticalBlanking h) s = .next (s.headBlanks h) :=
  State.whenTaking_eq taking fun s => s.headBlanks h
theorem exec_saveEraseEnd : exec .saveEraseEnd s = .next (s.atSaveStep .erase State.eraseEnds) :=
  State.whenTaking_eq taking fun s => s.atSaveStep .erase State.eraseEnds
theorem exec_saveProgramEnd : exec .saveProgramEnd s = .next (s.atSaveStep .program State.programEnds) :=
  State.whenTaking_eq taking fun s => s.atSaveStep .program State.programEnds
theorem exec_saveVerifyEnd (changed : List Host.Cell) : exec (.saveVerifyEnd changed) s = .next (s.atSaveStep .verify fun s => s.verifyEnds changed) :=
  State.whenTaking_eq taking fun s => s.atSaveStep .verify fun s => s.verifyEnds changed
theorem exec_saveSignEnd (changed : List Host.Cell) : exec (.saveSignEnd changed) s = .next (s.atSaveStep .sign fun s => s.signEnds changed) :=
  State.whenTaking_eq taking fun s => s.atSaveStep .sign fun s => s.signEnds changed

end

end Sys2Proof.Machine


/-! The console ports, the single timers and the slot links: what their commands do (01; 05; 06; 10). -/

namespace Sys2Proof.Machine

/-! ### Console ports (01, R1, R7) -/

theorem State.configurationEnds_suited {s : State} {p : ConsolePort} {d : ConsoleDevice} (h : s.ciu.attach p = .configuring)
    (suits : deviceSuits d p = true) : s.configurationEnds p d = s.setCiu (s.ciu.becomeReady p) := by
  rw [State.configurationEnds, if_pos h, if_pos suits]

theorem State.configurationEnds_unsuited {s : State} {p : ConsolePort} {d : ConsoleDevice} (h : s.ciu.attach p = .configuring)
    (unsuited : ¬ deviceSuits d p = true) : s.configurationEnds p d = s.setCiu (s.ciu.setAttach p .refused) := by
  rw [State.configurationEnds, if_pos h, if_neg unsuited]

theorem deviceSuits_keyboard (d : ConsoleDevice) : deviceSuits d .keyboard = true ↔
    (∃ i ∈ d.interfaces, i.kind = .keyboard ∧ i.layout = .consoleKeyboard) ∧ ∀ a ∈ d.answers, a = .accepted := by
  simp [deviceSuits, properInterface]

theorem deviceSuits_pointer (d : ConsoleDevice) : deviceSuits d .pointer = true ↔
    (∃ i ∈ d.interfaces, i.kind = .pointer ∧ i.layout = .consolePointer) ∧ ∀ a ∈ d.answers, a = .accepted := by
  simp [deviceSuits, properInterface]

/-- Settles O10: by the port's attach state and by whether the device suits it. -/
theorem consolePortsConfigure : Obligations.ConsolePortsConfigure := by
  intro s d taking
  refine ⟨fun detached => ?_, fun detached => ?_, fun configuring => ⟨fun interface steps => ?_, fun fails => ?_⟩,
    fun configuring => ⟨fun interface steps => ?_, fun fails => ?_⟩⟩
  all_goals simp only [exec_consoleDeviceConnected taking, exec_consoleConfigurationEnd taking]
  all_goals refine congrArg _ ?_
  · exact if_pos detached
  · exact if_pos detached
  · exact State.configurationEnds_suited configuring ((deviceSuits_keyboard d).mpr ⟨interface, steps⟩)
  · exact State.configurationEnds_unsuited configuring fun suits =>
      have ⟨interface, steps⟩ := (deviceSuits_keyboard d).mp suits
      fails.elim (· interface) (· steps)
  · exact State.configurationEnds_suited configuring ((deviceSuits_pointer d).mpr ⟨interface, steps⟩)
  · exact State.configurationEnds_unsuited configuring fun suits =>
      have ⟨interface, steps⟩ := (deviceSuits_pointer d).mp suits
      fails.elim (· interface) (· steps)

/-! ### LED output transfers (01, R7) -/

theorem Ciu.transferCompletes_of_some {c : Ciu} {v : Leds} (h : c.transfer = some v) :
    c.transferCompletes = if c.resend = true ∨ c.composed ≠ v then { c with ledSent := some v, transfer := none : Ciu }.startTransfer
      else { c with ledSent := some v, transfer := none } := by
  unfold Ciu.transferCompletes
  rw [h]

theorem Ciu.transferFails_of_some {c : Ciu} {v : Leds} (h : c.transfer = some v) :
    c.transferFails = if c.resend = true then { c with transfer := none : Ciu }.startTransfer
      else { c with transfer := none, retryHold := true } := by
  unfold Ciu.transferFails
  rw [h]

/-- Settles O25: by the transfer outstanding, the re-send mark and the composed state. -/
theorem ledTransfersEnd : Obligations.LedTransfersEnd := by
  intro s taking
  refine ⟨fun idle => ?_, fun v sending => ?_⟩
  · rw [exec_ledTransferComplete taking, exec_ledTransferFailed taking, Ciu.transferCompletes, Ciu.transferFails, idle]
    exact ⟨rfl, rfl⟩
  · rw [exec_ledTransferComplete taking, exec_ledTransferFailed taking]
    refine ⟨fun fresh same => ?_, fun stale => ?_, fun fresh => ?_, fun marked => ?_⟩
    · rw [Ciu.transferCompletes_of_some sending, if_neg (by simp [fresh, same])]
      rfl
    · rw [Ciu.transferCompletes_of_some sending, if_pos stale]
      rfl
    · rw [Ciu.transferFails_of_some sending, if_neg (by simp [fresh])]
      rfl
    · rw [Ciu.transferFails_of_some sending, if_pos marked]
      rfl

end Sys2Proof.Machine


/-! The single timers and the slot links: what their commands do (05; 06; 10). -/

namespace Sys2Proof.Machine

/-! ### T0, T1 and T2 (02, R33, R35; 10, R164) -/

theorem State.t0Expires_of_leadOne {s : State} (due : s.bank.t0.due = true) (lead : s.hkm = .leadOne) :
    s.t0Expires = (s.stopTimer .t0).setHkm .normal := by
  rw [State.t0Expires, if_pos due]
  exact if_pos lead

theorem State.t0Expires_of_not_due {s : State} (waiting : s.bank.t0.due = false) : s.t0Expires = s := by
  rw [State.t0Expires, if_neg (by simp [waiting])]

theorem State.t1Expires_of_command {s : State} (due : s.bank.t1.due = true) (command : s.hkm = .command) :
    s.t1Expires = (s.stopTimer .t1).setCommand .normal := by
  rw [State.t1Expires, if_pos due]
  exact if_pos command

theorem State.t1Expires_of_not_due {s : State} (waiting : s.bank.t1.due = false) : s.t1Expires = s := by
  rw [State.t1Expires, if_neg (by simp [waiting])]

theorem State.blinkExpires_of_due {s : State} (due : s.bank.t2.due = true) :
    s.blinkExpires = ((s.setCmp { s.cmp with blink := !s.cmp.blink }).startTimer .t2).updateLeds := by
  rw [State.blinkExpires, if_pos due]

theorem State.blinkExpires_of_not_due {s : State} (waiting : s.bank.t2.due = false) : s.blinkExpires = s := by
  rw [State.blinkExpires, if_neg (by simp [waiting])]

/-- Settles O26: each expiry by whether its timer is due. -/
theorem singleTimersExpire : Obligations.SingleTimersExpire := by
  intro s taking
  rw [exec_leadWindowExpiry taking, exec_commandIdleExpiry taking, exec_blinkExpiry taking]
  refine ⟨fun due lead => ?_, fun waiting => ?_, fun due command => ?_, fun waiting => ?_, fun due => ?_, fun waiting => ?_⟩
  · rw [State.t0Expires_of_leadOne due lead]
    rfl
  · rw [State.t0Expires_of_not_due waiting]
  · rw [State.t1Expires_of_command due command]
    rfl
  · rw [State.t1Expires_of_not_due waiting]
  · rw [State.blinkExpires_of_due due]
    have leds : ((s.setCmp { s.cmp with blink := !s.cmp.blink }).startTimer .t2).composedLeds = (if s.hkm = .command then
        (if s.cmp.blink then s.focusLeds &&& ~~~scrollLock else s.focusLeds ||| scrollLock) else s.focusLeds) := by
      show (if s.hkm = .command then (if (!s.cmp.blink) = true then s.focusLeds ||| scrollLock else s.focusLeds &&& ~~~scrollLock)
        else s.focusLeds) = _
      cases s.cmp.blink <;> rfl
    rw [State.updateLeds, leds]
    rfl
  · rw [State.blinkExpires_of_not_due waiting]

/-! ### Bus power and idle (05, R76, R77) -/

theorem State.settlePort_idle (s : State) (n : Slot) {p : Port} (h : p.waits = false) :
    s.settlePort n p = (s.setPort n p).stopTimer (.t6 n) := by
  unfold State.settlePort
  dsimp only
  rw [if_neg (by simp [h])]

theorem State.settlePort_starting (s : State) (n : Slot) {p : Port} (h : p.waits = true) (before : (s.port n).waits = false) :
    s.settlePort n p = (s.setPort n p).startTimer (.t6 n) := by
  unfold State.settlePort
  dsimp only
  rw [if_pos h, if_neg (by simp [before])]

theorem State.powerSensed_of_off {s : State} {n : Slot} (off : s.link n = .off) :
    s.powerSensed n = (s.setPort n (Port.linkReset .attached)).stopTimer (.t6 n) := by
  unfold State.powerSensed
  rw [off]
  exact s.settlePort_idle n rfl

theorem State.powerSensed_of_on {s : State} {n : Slot} (on : s.link n ≠ .off) : s.powerSensed n = s := by
  unfold State.powerSensed
  split
  · contradiction
  all_goals rfl

theorem State.suspends_of_active {s : State} {n : Slot} (active : s.link n = .active) :
    s.suspends n = s.settlePort n { s.port n with link := .suspended } := by
  unfold State.suspends
  rw [active]

theorem State.suspends_of_not_active {s : State} {n : Slot} (idle : s.link n ≠ .active) : s.suspends n = s := by
  unfold State.suspends
  split
  · contradiction
  all_goals rfl

/-- Settles O27: by the link state. -/
theorem busPowerAndIdle : Obligations.BusPowerAndIdle := by
  intro s n taking
  rw [exec_busPowerSensed taking, exec_busIdle taking]
  refine ⟨fun off => ?_, fun on => ?_, fun active => ?_, fun other => ?_⟩
  · rw [State.powerSensed_of_off off]
    rfl
  · rw [State.powerSensed_of_on on]
  · rw [State.suspends_of_active active]
    have before : (s.port n).waits = false := Port.waits_of_active active
    by_cases empty : (s.port n).queue = []
    · rw [if_pos empty, State.settlePort_idle _ _ (by simp [Port.waits, empty])]
      rfl
    · rw [if_neg empty, State.settlePort_starting _ _ (by simp [Port.waits, empty]) before]
      rfl
  · rw [State.suspends_of_not_active other]

/-! ### Links that become ACTIVE (05, R76 to R78; 06, R106) -/

/-- Settles O30: by the link state, and by whether a sequence runs. -/
theorem linksBecomeActive : Obligations.LinksBecomeActive := by
  intro s n taking port active next
  have becomes : s.becomeActive n = next := by
    unfold State.becomeActive
    rw [State.settlePort_active _ _ rfl]
    unfold State.wakeOnActive
    rfl
  rw [exec_configuration1Selected taking, exec_resumeSignalling taking, ← becomes]
  unfold State.configures State.resumes
  cases link : s.link n <;> simp

/-! ### The computer's flags and LEDs (05, R82, R83; 01, R7) -/

theorem State.permitRemoteWake_of_open {s : State} {n : Slot} (b : Bool) (h : s.link n = .attached ∨ s.link n = .active) :
    s.permitRemoteWake n b = s.setPort n { s.port n with remoteWake := b } := by
  unfold State.permitRemoteWake
  rcases h with h | h <;> rw [h]

theorem State.permitRemoteWake_of_other {s : State} {n : Slot} (b : Bool) (h : s.link n ≠ .attached) (h' : s.link n ≠ .active) :
    s.permitRemoteWake n b = s := by
  unfold State.permitRemoteWake
  split
  · contradiction
  · contradiction
  all_goals rfl

theorem ledsOf_eq (b : Byte) : ledsOf b = b.setWidth 5 := rfl

/-- A composed state that differs is recorded before the third case of R7 is looked at. -/
theorem Ciu.compose_cases (c : Ciu) (x : Leds) :
    (c.composed = x → c.compose x = c.sendIfDue) ∧
    (c.composed ≠ x → c.compose x = { c with composed := x, retryHold := false : Ciu }.sendIfDue) := by
  unfold Ciu.compose
  exact ⟨fun same => by rw [if_pos same.symm], fun other => by rw [if_neg (Ne.symm other)]⟩

theorem Ciu.sendIfDue_of_due {c : Ciu} (h : c.keyboardPort = .ready ∧ c.transfer = none ∧ c.retryHold = false ∧ c.ledSent ≠ some c.composed) :
    c.sendIfDue = c.startTransfer := if_pos h

theorem Ciu.sendIfDue_of_not_due {c : Ciu}
    (h : ¬ (c.keyboardPort = .ready ∧ c.transfer = none ∧ c.retryHold = false ∧ c.ledSent ≠ some c.composed)) : c.sendIfDue = c := if_neg h

/-- Settles O31: the requests by the link state, and R7's composing by its three cases. -/
theorem computerSetsFlagsAndLeds : Obligations.ComputerSetsFlagsAndLeds := by
  intro s n b taking
  rw [exec_setRemoteWakeupFeature taking, exec_clearRemoteWakeupFeature taking, exec_slotLedReport taking, ledsOf_eq]
  refine ⟨fun taken => ?_, fun notAttached notActive => ?_, fun active => ?_, fun notActive => ?_, fun c x => ?_⟩
  · rw [State.permitRemoteWake_of_open _ taken, State.permitRemoteWake_of_open _ taken]
    exact ⟨rfl, rfl⟩
  · rw [State.permitRemoteWake_of_other _ notAttached notActive, State.permitRemoteWake_of_other _ notAttached notActive]
    exact ⟨rfl, rfl⟩
  · intro lit
    have taken : s.setsLeds n (b.setWidth 5) = if s.fc.focus = some n then State.updateLeds lit else lit := if_pos active
    have focusLeds (focus : s.fc.focus = some n) : lit.focusLeds = b.setWidth 5 := by
      unfold State.focusLeds
      rw [show lit.fc.focus = some n from focus]
      exact congrArg Port.leds (s.setPort_port_same n { s.port n with leds := b.setWidth 5 })
    have composed (focus : s.fc.focus = some n) : lit.composedLeds = if s.hkm = .command then
        (if s.cmp.blink then b.setWidth 5 ||| scrollLock else b.setWidth 5 &&& ~~~scrollLock) else b.setWidth 5 := by
      rw [State.composedLeds, focusLeds focus]
    rw [taken]
    refine ⟨fun other => ?_, fun focus plain => ?_, fun focus command => ?_⟩
    · rw [if_neg other]
    · rw [if_pos focus, State.updateLeds, composed focus, if_neg plain]
      rfl
    · rw [if_pos focus, State.updateLeds, composed focus, if_pos command]
      rfl
  · exact congrArg _ (if_neg notActive)
  · obtain ⟨same, other⟩ := c.compose_cases x
    refine ⟨fun he hold => ?_, fun he unready => ?_, fun hc due => ?_⟩
    · rw [same he, Ciu.sendIfDue_of_not_due]
      rintro ⟨port, idle, free, differs⟩
      exact hold.elim (fun held => absurd (held.symm.trans free) (by decide)) (· ⟨port, idle, he ▸ differs⟩)
    · rw [other he, Ciu.sendIfDue_of_not_due]
      rintro ⟨port, idle, -, differs⟩
      exact unready ⟨port, idle, differs⟩
    · obtain ⟨port, idle, differs⟩ := due
      by_cases he : c.composed = x
      · have free := hc.resolve_left (not_not.mpr he)
        rw [same he, Ciu.sendIfDue_of_due ⟨port, idle, free, he.symm ▸ differs⟩, Ciu.startTransfer, he]
      · rw [other he, Ciu.sendIfDue_of_due (c := { c with composed := x, retryHold := false }) ⟨port, idle, rfl, differs⟩]
        rfl

/-! ### Polls (05, R90, R94) -/

theorem State.polls_of_hand {s : State} {n : Slot} (h : ¬ (s.link n = .active ∧ (s.port n).hand = none)) : s.polls n = s := if_neg h

theorem State.polls_of_empty {s : State} {n : Slot} (h : (s.port n).queue = []) : s.polls n = s := by
  unfold State.polls
  rw [h, ite_self]

theorem State.polls_of_cons {s : State} {n : Slot} {e : Entry} {rest : List Entry} (active : s.link n = .active)
    (hand : (s.port n).hand = none) (h : (s.port n).queue = e :: rest) :
    s.polls n = (s.setPort n ((s.port n).deliver e rest)).stopTimer (.t6 n) := by
  unfold State.polls
  rw [if_pos ⟨active, hand⟩, h]
  exact s.settlePort_active n active

theorem State.managementPolls_of_hand {s : State} {n : Slot} (h : ¬ (s.link n = .active ∧ (s.port n).responseHand = none)) :
    s.managementPolls n = s := if_neg h

theorem State.managementPolls_of_empty {s : State} {n : Slot} (h : (s.port n).responses = []) : s.managementPolls n = s := by
  unfold State.managementPolls
  rw [h, ite_self]

theorem State.managementPolls_of_cons {s : State} {n : Slot} {r : Response} {rest : List Response} (active : s.link n = .active)
    (hand : (s.port n).responseHand = none) (h : (s.port n).responses = r :: rest) :
    s.managementPolls n = s.setPort n { s.port n with responses := rest, responseHand := some r } := by
  unfold State.managementPolls
  rw [if_pos ⟨active, hand⟩, h]

/-- Settles O32: by the link state, the hand and the queue. -/
theorem pollsDeliverTheOldest : Obligations.PollsDeliverTheOldest := by
  intro s n taking
  rw [exec_inPoll taking, exec_reportAcknowledged taking, exec_managementInPoll taking, exec_responseAcknowledged taking]
  refine ⟨fun idle => ?_, fun active => ?_⟩
  · rw [State.polls_of_hand fun h => idle h.1, State.managementPolls_of_hand fun h => idle h.1, State.acknowledges, if_neg idle,
      State.acknowledgesResponse, if_neg idle]
    exact ⟨rfl, rfl, rfl, rfl⟩
  · rw [State.acknowledges, if_pos active, State.acknowledgesResponse, if_pos active]
    refine ⟨rfl, fun e hand => ?_, fun empty => ?_, rfl, fun r hand => ?_, fun empty => ?_, fun r rest hand queued => ?_,
      fun e rest hand queued => ?_⟩
    · rw [State.polls_of_hand fun h => by simp [hand] at h]
    · rw [State.polls_of_empty empty]
    · rw [State.managementPolls_of_hand fun h => by simp [hand] at h]
    · rw [State.managementPolls_of_empty empty]
    · rw [State.managementPolls_of_cons active hand queued]
      rfl
    · rw [State.polls_of_cons active hand queued]
      cases e <;> rfl

end Sys2Proof.Machine


/-! Report queues (05, section 5.4): merging, appending, eviction and refusal. -/

namespace Sys2Proof.Machine

/-! ### Merging (05, R86, R87) -/

theorem inCount_iff (v : Int) : inCount v = true ↔ -127 ≤ v ∧ v ≤ 127 := by simp [inCount]

theorem merge?_abs (b b' : Buttons) (x y w x' y' w' : Int) : Entry.merge? (.abs b x y w) (.abs b' x' y' w') =
    if b = b' ∧ -127 ≤ w + w' ∧ w + w' ≤ 127 then some (.abs b x' y' (w + w')) else none := by
  simp only [Entry.merge?, inCount_iff]

theorem merge?_rel (b b' : Buttons) (x y w x' y' w' : Int) : Entry.merge? (.rel b x y w) (.rel b' x' y' w') =
    if b = b' ∧ (-127 ≤ x + x' ∧ x + x' ≤ 127) ∧ (-127 ≤ y + y' ∧ y + y' ≤ 127) ∧ (-127 ≤ w + w' ∧ w + w' ≤ 127)
      then some (.rel b (x + x') (y + y') (w + w')) else none := by
  simp only [Entry.merge?, inCount_iff]

theorem merge?_keyboard (k : KeyImage) (e : Entry) : Entry.merge? (.keyboard k) e = none ∧ e.merge? (.keyboard k) = none := by
  cases e <;> exact ⟨rfl, rfl⟩

/-! ### What a queue becomes (05, R85, R88) -/

theorem mergeNewest_nil (e : Entry) : mergeNewest [] e = none := rfl

theorem mergeNewest_concat (q : List Entry) (a e : Entry) : mergeNewest (q ++ [a]) e = (a.merge? e).map (q ++ [·]) := by
  unfold mergeNewest
  rw [List.getLast?_concat]
  simp

/-- Where the newest entry does not merge, the new one is appended, dropped, or appended after an eviction. -/
theorem takeEntry_of_no_merge {last : Buttons} {q : List Entry} {e : Entry} (h : mergeNewest q e = none) : takeEntry last q e =
    if q.length < 16 then some (q ++ [e]) else if pureMotion last q e = true then some q else (evictOldest last q).map (· ++ [e]) := by
  unfold takeEntry
  rw [h]
  rfl

theorem newestButtons_concat (last : Buttons) (q : List Entry) (e : Entry) :
    newestButtons last (q ++ [e]) = e.buttons?.getD (newestButtons last q) := by
  simp [newestButtons]

theorem newestButtons_cons (last : Buttons) (q : List Entry) (e : Entry) :
    newestButtons last (e :: q) = newestButtons (e.buttons?.getD last) q := rfl

theorem pureMotion_cons (last : Buttons) (p : List Entry) (a e : Entry) :
    pureMotion last (a :: p) e = pureMotion (a.buttons?.getD last) p e := rfl

theorem pureMotion_nil_iff (last : Buttons) (e : Entry) : pureMotion last [] e = true ↔ e.buttons? = some last := by
  unfold pureMotion newestButtons
  split
  next h => simp [h]
  next b h => rw [h, Option.some.injEq, decide_eq_true_iff, List.foldl_nil]

/-- The eviction takes the front entry where it is pure motion, and otherwise goes on with the rest. -/
theorem evictOldest_cons (last : Buttons) (a : Entry) (q : List Entry) : evictOldest last (a :: q) =
    if a.buttons? = some last then some q else (evictOldest (a.buttons?.getD last) q).map (a :: ·) := by
  rw [evictOldest]
  split
  next h => rw [h, if_neg (by simp), Option.getD_none]
  next b h => simp only [h, Option.some.injEq, Option.getD_some]

theorem ite_some_eq_none {α : Type} {c : Prop} [Decidable c] {a : α} {o : Option α} (h : (if c then some a else o) = none) : ¬ c ∧ o = none := by
  split at h
  · cases h
  · exact ⟨‹_›, h⟩

/-- The entry evicted is the oldest of pure motion (05, R85, R88). -/
theorem evictOldest_append {last : Buttons} {p q : List Entry} {e : Entry} (pure : pureMotion last p e = true)
    (none : evictOldest last p = none) : evictOldest last (p ++ e :: q) = some (p ++ q) := by
  induction p generalizing last with
  | nil => rw [List.nil_append, evictOldest_cons, if_pos ((pureMotion_nil_iff last e).mp pure), List.nil_append]
  | cons a p ih =>
    rw [evictOldest_cons] at none
    obtain ⟨kept, none⟩ := ite_some_eq_none none
    rw [List.cons_append, evictOldest_cons, if_neg kept, ih (pureMotion_cons last p a e ▸ pure) (Option.map_eq_none_iff.mp none)]
    rfl

/-- Nothing is evicted exactly where no entry is of pure motion. -/
theorem evictOldest_eq_none_iff (last : Buttons) (q : List Entry) : evictOldest last q = none ↔
    ∀ p e r, q = p ++ e :: r → pureMotion last p e = false := by
  induction q generalizing last with
  | nil => simp [evictOldest]
  | cons a q ih =>
    rw [evictOldest_cons]
    constructor
    · intro h p e r hq
      obtain ⟨kept, h⟩ := ite_some_eq_none h
      cases p with
      | nil =>
        obtain ⟨rfl, -⟩ := List.cons.inj hq
        exact Bool.eq_false_iff.mpr fun pure => kept ((pureMotion_nil_iff last a).mp pure)
      | cons c p =>
        obtain ⟨front, tail⟩ := List.cons.inj hq
        subst front
        exact (ih _).mp (Option.map_eq_none_iff.mp h) p e r tail
    · intro h
      have kept : a.buttons? ≠ some last := fun pure =>
        absurd ((pureMotion_nil_iff last a).mpr pure) (by simp [h [] a q rfl])
      rw [if_neg kept, (ih _).mpr fun p e r hq => h (a :: p) e r (by rw [hq, List.cons_append])]
      rfl

/-- A queue that takes an entry is not empty. -/
theorem takeEntry_ne_nil {last : Buttons} {q q' : List Entry} {e : Entry} (h : takeEntry last q e = some q') : q' ≠ [] := by
  rcases takeEntry_cases h with hm | ⟨-, -, rfl⟩ | ⟨-, full, -, rfl⟩ | ⟨-, -, -, r, -, rfl⟩
  · obtain ⟨l, x, m, -, -, rfl⟩ := mergeNewest_eq_some hm
    simp
  · simp
  · rintro rfl
    exact absurd full (by decide)
  · simp

/-- With a newest entry, by whether it merges and whether there is room (05, R86 to R88). -/
theorem takeEntry_concat (last : Buttons) (q : List Entry) (a e : Entry) :
    (∀ m, a.merge? e = some m → takeEntry last (q ++ [a]) e = some (q ++ [m])) ∧
    (a.merge? e = none → q.length < 15 → takeEntry last (q ++ [a]) e = some (q ++ [a, e])) ∧
    (a.merge? e = none → 15 ≤ q.length →
      (pureMotion last (q ++ [a]) e = true → takeEntry last (q ++ [a]) e = some (q ++ [a])) ∧
      (pureMotion last (q ++ [a]) e = false →
        (∀ q', evictOldest last (q ++ [a]) = some q' → takeEntry last (q ++ [a]) e = some (q' ++ [e])) ∧
        (evictOldest last (q ++ [a]) = none → takeEntry last (q ++ [a]) e = none))) := by
  have newest := mergeNewest_concat q a e
  refine ⟨fun m hm => ?_, fun hm room => ?_, fun hm full => ?_⟩ <;> rw [hm] at newest
  · unfold takeEntry
    rw [newest]
    rfl
  · rw [takeEntry_of_no_merge newest, if_pos (by simp; omega)]
    simp
  · rw [takeEntry_of_no_merge newest, if_neg (by simp; omega)]
    refine ⟨fun pure => by rw [if_pos pure], fun impure => ?_⟩
    rw [if_neg (by simp [impure])]
    exact ⟨fun q' hq => by rw [hq]; rfl, fun hq => by rw [hq]; rfl⟩

/-! ### A hand-over (05, R84 to R89) -/

theorem Port.waits_iff (p : Port) : p.waits = true ↔ p.link ≠ .active ∧ p.queue ≠ [] := by
  simp [Port.waits]

theorem State.handOver_of_off {s : State} {n : Slot} {e : Entry} (off : s.link n = .off) : s.handOver n e = s := if_pos off

/-- A hand-over taken changes the slot's queue and its T6 alone (05, R88; 06, R110). -/
theorem State.handOver_of_taken {s : State} {n : Slot} {e : Entry} {q : List Entry} (on : s.link n ≠ .off)
    (taken : takeEntry (s.port n).lastButtons (s.port n).queue e = some q) : s.handOver n e = { s with
      ports := s.ports.put n { s.port n with queue := q }
      bank := if s.link n = .active then s.bank.setTimer (.t6 n) .stopped
        else if (s.port n).queue = [] then s.bank.setTimer (.t6 n) (.running (s.tables.timing.get 6).duration 0)
        else s.bank } := by
  have handed : s.handOver n e = s.settlePort n { s.port n with queue := q } := by
    unfold State.handOver
    rw [if_neg on, taken]
  rw [handed, State.settlePort_eq]
  by_cases active : s.link n = .active
  · rw [if_pos active, if_neg (by simp [Port.waits_of_active (p := { s.port n with queue := q }) active])]
  · have waits : ({ s.port n with queue := q } : Port).waits = true :=
      (Port.waits_iff _).mpr ⟨active, takeEntry_ne_nil taken⟩
    rw [if_neg active, if_pos waits]
    by_cases empty : (s.port n).queue = []
    · rw [if_pos empty, if_neg (by simp [Port.waits, empty])]
    · rw [if_neg empty, if_pos ((Port.waits_iff _).mpr ⟨active, empty⟩)]

theorem State.handOver_of_refused {s : State} {n : Slot} {e : Entry} (on : s.link n ≠ .off)
    (refused : takeEntry (s.port n).lastButtons (s.port n).queue e = none) :
    s.handOver n e = (s.releaseFlush n).raiseEvent .queueOverflow := by
  unfold State.handOver
  rw [if_neg on, refused]

/-! ### A release flush (05, R89) -/

/-- The entries that a flush leaves: an empty image and a release entry, each where the last delivered value was not empty. -/
theorem Port.flushed_eq (p : Port) : p.flushed = { p with queue :=
    (if p.lastKeyboard = KeyImage.empty then [] else [.keyboard KeyImage.empty]) ++ (if p.lastButtons = 0 then [] else [.rel 0 0 0 0]) } := rfl

theorem State.releaseFlush_delivered (s : State) (n m : Slot) : (s.releaseFlush n).delivered m = if m = n then 0 else s.delivered m := by
  rw [State.delivered, State.releaseFlush_gu]
  exact s.gu.delivered.get_put n m 0

theorem State.releaseFlush_fc (s : State) (n : Slot) : (s.releaseFlush n).fc = s.lostFc n := by
  rw [State.releaseFlush_eq]
  rfl

theorem Destination.without_eq (n : Slot) (d : Destination) : d.without n = if d = .slot n then .suppressed else d := by
  cases d <;> simp [Destination.without]

theorem State.heldKey_lostFc (s : State) (n : Slot) (k : Byte) :
    heldKey k (s.lostFc n).held = (heldKey k s.fc.held).map fun d => if d = .slot n then .suppressed else d := by
  rw [show (s.lostFc n).held = s.fc.held.map fun e => (e.1, e.2.without n) from rfl, heldKey_without]
  congr 1
  exact funext fun d => d.without_eq n

theorem State.holdTimer_eq (s : State) (p : Port) :
    s.holdTimer p = if p.link = .active ∨ p.queue = [] then .stopped else .running (s.tables.timing.get 6).duration 0 := by
  unfold State.holdTimer
  by_cases rest : p.link = .active ∨ p.queue = []
  · rw [if_pos rest, if_neg]
    rw [Port.waits_iff, ← not_or]
    exact not_not.mpr rest
  · rw [if_neg rest, if_pos]
    exact (Port.waits_iff p).mpr (not_or.mp rest)

/-- T6 after a flush: anew from its full duration where entries wait. -/
theorem State.releaseFlush_t6 (s : State) (n : Slot) : (s.releaseFlush n).timer (.t6 n) =
    if s.link n = .active ∨ (s.port n).flushed.queue = [] then .stopped else .running (s.tables.timing.get 6).duration 0 := by
  rw [State.releaseFlush_timer, if_pos rfl, State.holdTimer_eq]
  rfl

theorem State.raiseEvent_events (s : State) (e : EventKind) (m : Slot) : (s.raiseEvent e).mgi.events.get m =
    if (s.access m).events = true then s.mgi.events.get m ||| e.bit else s.mgi.events.get m := Table.get_tab _ m

/-- Settles O33. -/
theorem queuesTakeEntries : Obligations.QueuesTakeEntries := by
  refine ⟨⟨merge?_keyboard, fun b b' x y w x' y' w' => ⟨rfl, rfl, merge?_abs .., merge?_rel ..⟩⟩, fun last q a e => ⟨rfl, takeEntry_concat last q a e⟩,
    fun last q k b x y w => ?_, fun last p q e => evictOldest_append, evictOldest_eq_none_iff, fun last q q' e hq h => takeEntry_length h hq,
    fun s n e => ⟨State.handOver_of_off, fun on q => State.handOver_of_taken on, fun on refused => ?_⟩⟩
  · refine ⟨rfl, ?_, ?_, rfl, newestButtons_concat .., newestButtons_concat .., newestButtons_concat ..⟩ <;> simp [pureMotion, Entry.buttons?]
  · intro t
    have handed : t = (s.releaseFlush n).raiseEvent .queueOverflow := State.handOver_of_refused on refused
    have port (m : Slot) : t.port m = if m = n then (s.port n).flushed else s.port m := by
      rw [handed, State.raiseEvent_port, State.releaseFlush_port]
    have sent (m : Slot) : t.sent m = if m = n then KeyImage.empty else s.sent m := by
      rw [handed, State.raiseEvent_sent, State.releaseFlush_sent]
    have delivered (m : Slot) : t.delivered m = if m = n then 0 else s.delivered m := by
      rw [handed, State.raiseEvent_delivered, State.releaseFlush_delivered]
    have fc : t.fc = s.lostFc n := by rw [handed, State.raiseEvent_fc, State.releaseFlush_fc]
    clear_value t
    refine ⟨?_, fun m hm => ?_, ?_, ?_, ?_, ?_, ?_, fun m => ?_, ?_, ?_, ?_, ?_, ?_, ?_, ?_⟩
    · rw [port, if_pos rfl, Port.flushed_eq]
    · rw [port, sent, delivered, if_neg hm, if_neg hm, if_neg hm]
      exact ⟨rfl, rfl, rfl⟩
    · rw [sent, if_pos rfl]
    · rw [delivered, if_pos rfl]
    · rw [handed, State.raiseEvent_gu, State.releaseFlush_gu]
      rfl
    · rw [fc]
      rfl
    · rw [fc]
      exact s.heldKey_lostFc n
    · rw [handed, State.raiseEvent_events, State.releaseFlush_eq]
      rfl
    · rw [port, if_pos rfl, handed, State.raiseEvent_timer, State.releaseFlush_t6]
    · rw [fc]
      rfl
    · rw [handed, State.releaseFlush_eq]
      rfl
    · rw [handed, State.releaseFlush_eq]
      rfl
    · rw [handed, State.releaseFlush_eq]
      rfl
    · rw [handed, State.raiseEvent_consoleSide, State.releaseFlush_consoleSide]
    · rw [handed, State.raiseEvent_outer, State.releaseFlush_outer]

end Sys2Proof.Machine


/-! Management requests at an open port (11, R167, R168): the answer of each kind, and the kinds that carry one byte. -/

namespace Sys2Proof.Machine

/-! ### Bytes that name an index, NONE or ALL -/

theorem byte_toNat_of_lt {i : Nat} (h : i < 256) : (byte i).toNat = i := by
  simp [byte]
  omega

theorem noneOr_index {n : Nat} (hn : n ≤ 255) (i : Fin n) : noneOr n (byte i.val) = some (some i) := by
  have value : (byte i.val).toNat = i.val := byte_toNat_of_lt (by omega)
  have index : byte i.val ≠ 0xFF := by
    intro h
    have := congrArg BitVec.toNat h
    rw [value] at this
    have top : (0xFF : Byte).toNat = 255 := rfl
    omega
  rw [noneOr, if_neg index, below, value, dif_pos i.isLt]
  rfl

theorem noneOr_none (n : Nat) : noneOr n 0xFF = some none := if_pos rfl

theorem noneOr_of_out {n : Nat} {b : Byte} (h : n ≤ b.toNat) (hb : b ≠ 0xFF) : noneOr n b = none := by
  rw [noneOr, if_neg hb, below, dif_neg (by omega)]
  rfl

/-! ### The answers at an open port -/

/-- The state after a request of a kind has been answered to slot `n`. -/
def Answer.sent (a : Answer) (n : Slot) (kind code : Byte) (index : Half) : State :=
  a.state.respond n ⟨a.status, kind, code, index, a.payload⟩

section OpenPort

variable {s : State} {n : Slot} (h : OpenTo s n) (code : Byte) (index : Half) (view : Byte) {payload : List Byte}
  (hp : payload.length < 256)
include h hp

theorem exec_commit_answer : exec (.commit n (requestBytes code index view payload)) s =
    .next ((s.commitRequest n ⟨3, code, index, view, payload, false⟩).sent n 3 code index) :=
  (State.whenTaking_of_taking h.1 _).trans (congrArg _ (State.takeRequest_requestBytes h 3 code index view payload hp _))

theorem exec_focus_answer : exec (.focus n (requestBytes code index view payload)) s =
    .next ((s.focusRequest n ⟨4, code, index, view, payload, false⟩).sent n 4 code index) :=
  (State.whenTaking_of_taking h.1 _).trans (congrArg _ (State.takeRequest_requestBytes h 4 code index view payload hp _))

theorem exec_wake_answer : exec (.wake n (requestBytes code index view payload)) s =
    .next ((s.wakeRequest n ⟨5, code, index, view, payload, false⟩).sent n 5 code index) :=
  (State.whenTaking_of_taking h.1 _).trans (congrArg _ (State.takeRequest_requestBytes h 5 code index view payload hp _))

theorem exec_share_answer : exec (.share n (requestBytes code index view payload)) s =
    .next ((s.shareRequest n ⟨6, code, index, view, payload, false⟩).sent n 6 code index) :=
  (State.whenTaking_of_taking h.1 _).trans (congrArg _ (State.takeRequest_requestBytes h 6 code index view payload hp _))

theorem exec_status_answer : exec (.status n (requestBytes code index view payload)) s =
    .next ((s.statusRequest n ⟨9, code, index, view, payload, false⟩).sent n 9 code index) :=
  (State.whenTaking_of_taking h.1 _).trans (congrArg _ (State.takeRequest_requestBytes h 9 code index view payload hp _))

theorem exec_save_answer : exec (.save n (requestBytes code index view payload)) s =
    .next ((s.saveRequest n ⟨10, code, index, view, payload, false⟩).sent n 10 code index) :=
  (State.whenTaking_of_taking h.1 _).trans (congrArg _ (State.takeRequest_requestBytes h 10 code index view payload hp _))

theorem exec_restart_answer : exec (.restart n (requestBytes code index view payload)) s =
    .next ((s.restartRequest n ⟨11, code, index, view, payload, false⟩).sent n 11 code index) :=
  (State.whenTaking_of_taking h.1 _).trans (congrArg _ (State.takeRequest_requestBytes h 11 code index view payload hp _))

end OpenPort

/-! ### Kinds that carry one byte, and kinds that carry none -/

theorem State.byteAction_of_allowed {s : State} {n : Slot} {r : Request} {b : Byte} (hr : r.payload = [b])
    (allowed : (s.access n).manageActions = true) (f : Byte → Answer) : s.byteAction n r f = f b := by
  unfold State.byteAction
  rw [hr]
  exact if_pos allowed

theorem State.byteAction_of_denied {s : State} {n : Slot} {r : Request} {b : Byte} (hr : r.payload = [b])
    (denied : (s.access n).manageActions = false) (f : Byte → Answer) : s.byteAction n r f = s.refuse .denied := by
  unfold State.byteAction
  rw [hr]
  exact if_neg (by simp [denied])

theorem State.bareAction_of_allowed {s : State} {n : Slot} {r : Request} (hr : r.payload = [])
    (allowed : (s.access n).manageActions = true) (a : Answer) : s.bareAction n r a = a := by
  rw [State.bareAction, State.bareRequest_of_no_payload hr, if_pos allowed]

theorem State.bareAction_of_denied {s : State} {n : Slot} {r : Request} (hr : r.payload = [])
    (denied : (s.access n).manageActions = false) (a : Answer) : s.bareAction n r a = s.refuse .denied := by
  rw [State.bareAction, State.bareRequest_of_no_payload hr, if_neg (by simp [denied])]

theorem State.checked_some {α : Type} (s : State) (a : α) (f : α → Answer) : s.checked (some a) f = f a := rfl

theorem State.checked_none {α : Type} (s : State) (f : α → Answer) : s.checked none f = s.refuse .badValue := rfl

/-! ### SHARE (11, R175; 09, R158) -/

/-- Settles O47: by the permission and by what the byte names. -/
theorem shareRequestsASelection : Obligations.ShareRequestsASelection := by
  intro s n hopen answered shared
  have request (b : Byte) := exec_share_answer hopen 0 0 0 (payload := [b]) (by simp)
  have shares (d : Option DisplayIx) : s.shareDisplay d = shared d := by
    by_cases running : s.cmp.ds.running = true
    · exact (if_pos running).trans (by simp only [shared, if_pos running]; rfl)
    · exact (if_neg running).trans (by simp only [shared, if_neg running]; rfl)
  refine ⟨fun b denied => ?_, fun allowed => ⟨fun d => ?_, ?_, fun b out notNone => ?_⟩⟩ <;> rw [request, State.shareRequest]
  · rw [State.byteAction_of_denied rfl denied]
    rfl
  · rw [State.byteAction_of_allowed rfl allowed, noneOr_index (by decide), State.checked_some, shares]
    rfl
  · rw [State.byteAction_of_allowed rfl allowed, noneOr_none, State.checked_some, shares]
    rfl
  · rw [State.byteAction_of_allowed rfl allowed, noneOr_of_out out notNone]
    rfl

end Sys2Proof.Machine


/-! Wake sequences (06): triggers, the phases they begin with, and their timers. -/

namespace Sys2Proof.Machine

/-! ### Triggers (06, R99) -/

theorem State.trigger_of_active {s : State} {m : Slot} (c : Cause) (active : s.link m = .active) : s.trigger m c = (s, .active) :=
  if_pos active

theorem State.trigger_of_running {s : State} {m : Slot} (c : Cause) (idle : s.link m ≠ .active)
    (running : (s.wake m).phase.inSequence = true ∨ s.link m = .resuming) : s.trigger m c = (s, .running) := by
  rw [State.trigger, if_neg idle, if_pos running]

/-- A trigger that is taken counts its attempts anew, and the sequence starts. -/
theorem State.trigger_of_taken {s : State} {m : Slot} (c : Cause) (idle : s.link m ≠ .active) (free : s.link m ≠ .resuming)
    (rests : (s.wake m).phase = .idle ∨ (s.wake m).phase = .failed) :
    s.trigger m c = (s.setWake m { s.wake m with attempts := 0, cause := c }).startSequence m := by
  have notRunning : ¬ ((s.wake m).phase.inSequence = true ∨ s.link m = .resuming) := by
    rcases rests with h | h <;> simp [h, free, Phase.inSequence]
  rw [State.trigger, if_neg idle, if_neg notRunning]

/-- The start of a sequence that has no link to signal on (06, R99). -/
theorem State.startSequence_of_no_signal {s : State} {m : Slot}
    (h : s.link m = .off ∨ (s.link m = .suspended ∧ (s.port m).remoteWake = false)) :
    s.startSequence m = if (s.slotRecord m).wakeLineWired = true then (s.enterLinePulse m, .started) else (s.enterFailed m, .failed) := by
  unfold State.startSequence
  rcases h with off | ⟨suspended, forbidden⟩
  · rw [off]
  · rw [suspended]
    exact if_neg (by simp [forbidden])

theorem State.startSequence_of_attached {s : State} {m : Slot} (h : s.link m = .attached) :
    s.startSequence m = (s.enterLineAwait m, .started) := by
  unfold State.startSequence
  rw [h]

theorem State.startSequence_of_signal {s : State} {m : Slot} (h : s.link m = .suspended) (permitted : (s.port m).remoteWake = true) :
    s.startSequence m = (s.enterSignal m, .started) := by
  unfold State.startSequence
  rw [h]
  exact if_pos permitted

/-! ### WAKE (11, R176) -/

/-- The states and outcomes of one operation on each slot in turn. -/
theorem foldl_allSlots (f : State → Slot → State × WakeOutcome) (s : State) :
    let r0 := f s 0
    let r1 := f r0.1 1
    let r2 := f r1.1 2
    let r3 := f r2.1 3
    let r4 := f r3.1 4
    let r5 := f r4.1 5
    let r6 := f r5.1 6
    let r7 := f r6.1 7
    allSlots.foldl (fun acc n => ((f acc.1 n).1, acc.2 ++ [(f acc.1 n).2])) (s, []) =
      (r7.1, [r0.2, r1.2, r2.2, r3.2, r4.2, r5.2, r6.2, r7.2]) := rfl

/-- Settles O34. -/
theorem wakeRequestTriggersTheSlot : Obligations.WakeRequestTriggersTheSlot := by
  constructor
  · intro s m c begun
    refine ⟨State.trigger_of_active c, State.trigger_of_running c, fun idle free rests => ?_⟩
    have taken : s.trigger m c = begun.startSequence m := State.trigger_of_taken c idle free rests
    have link : begun.link m = s.link m := rfl
    rw [taken]
    exact ⟨fun attached => State.startSequence_of_attached attached,
      fun suspended permitted => State.startSequence_of_signal suspended permitted, fun h => State.startSequence_of_no_signal h⟩
  · intro s n hopen request answered code status
    have codes : code = WakeOutcome.code := funext fun o => by cases o <;> rfl
    have statuses : status = wakeStatus := by
      funext l
      simp only [status, wakeStatus, List.contains_iff_mem]
    clear_value code status
    subst codes statuses
    have answer (b : Byte) : exec (request b) s = .next ((s.wakeRequest n ⟨5, 0, 0, 0, [b], false⟩).sent n 5 0 0) :=
      exec_wake_answer hopen 0 0 0 (by simp)
    refine ⟨fun denied b => ?_, fun allowed => ⟨fun m => ?_, fun b out notAll => ?_, ?_⟩⟩
    · rw [answer, State.wakeRequest, State.byteAction_of_denied rfl denied]
      rfl
    · rw [answer, State.wakeRequest, State.byteAction_of_allowed rfl allowed, noneOr_index (by decide), State.checked_some]
      rfl
    · rw [answer, State.wakeRequest, State.byteAction_of_allowed rfl allowed, noneOr_of_out out notAll]
      rfl
    · intro r0 r1 r2 r3 r4 r5 r6 r7 outcomes
      have all : s.wakeAll = (r7.1, outcomes) := foldl_allSlots (fun s n => s.trigger n .wakeAll) s
      clear_value outcomes
      generalize r7.1 = last at all ⊢
      rw [answer, State.wakeRequest, State.byteAction_of_allowed rfl allowed, noneOr_none, State.checked_some, all]
      rfl

/-! ### The phases (06, R101 to R106) -/

theorem State.stopWakeTimers_eq (s : State) (n : Slot) : s.stopWakeTimers n =
    { s with bank := ((s.bank.setTimer (.t3 n) .stopped).setTimer (.t4 n) .stopped).setTimer (.t5 n) .stopped } := rfl

theorem State.setPhase_eq (s : State) (n : Slot) (p : Phase) : s.setPhase n p =
    { s with wakes := s.wakes.put n { s.wake n with phase := p, line := decide (p = .linePulse) } } := rfl

theorem State.enterLinePulse_eq (s : State) (n : Slot) : s.enterLinePulse n = { s with
    wakes := s.wakes.put n { s.wake n with phase := .linePulse, line := true }
    bank := (((s.bank.setTimer (.t3 n) .stopped).setTimer (.t4 n) .stopped).setTimer (.t5 n) .stopped).setTimer (.t4 n)
      (.running (s.tables.timing.get 4).duration 0) } := by
  rw [State.enterLinePulse, State.setPhase_eq, State.stopWakeTimers_eq]
  rfl

theorem State.enterLineAwait_eq (s : State) (n : Slot) : s.enterLineAwait n = { s with
    wakes := s.wakes.put n { s.wake n with phase := .lineAwait, line := false }
    bank := (((s.bank.setTimer (.t3 n) .stopped).setTimer (.t4 n) .stopped).setTimer (.t5 n) .stopped).setTimer (.t5 n)
      (.running (s.tables.timing.get 5).duration 0) } := by
  rw [State.enterLineAwait, State.setPhase_eq, State.stopWakeTimers_eq]
  rfl

/-- The state in FAILED before the hold policy is applied (06, R105). -/
def State.failing (s : State) (n : Slot) : State := State.raiseEvent { s with
  wakes := s.wakes.put n { s.wake n with phase := .failed, line := false }
  bank := ((s.bank.setTimer (.t3 n) .stopped).setTimer (.t4 n) .stopped).setTimer (.t5 n) .stopped } .wakeFailed

theorem State.enterFailed_of_keep {s : State} {n : Slot} (h : (s.slotRecord n).policy = .keep) : s.enterFailed n = s.failing n := by
  have policy : ((s.failing n).slotRecord n).policy = .keep := h
  show (s.failing n).applyHoldPolicy n = _
  unfold State.applyHoldPolicy
  rw [policy]

theorem State.enterFailed_of_discard {s : State} {n : Slot} (h : (s.slotRecord n).policy = .discard) :
    s.enterFailed n = (s.failing n).releaseFlush n := by
  have policy : ((s.failing n).slotRecord n).policy = .discard := h
  show (s.failing n).applyHoldPolicy n = _
  unfold State.applyHoldPolicy
  rw [policy]

/-- The SIGNAL phase on a link that permits it (05, R78; 06, R101). -/
theorem State.enterSignal_of_permitted {s : State} {n : Slot} (suspended : s.link n = .suspended)
    (permitted : (s.port n).remoteWake = true) :
    s.enterSignal n = ((s.stopWakeTimers n).setPhase n .signal).settlePort n (s.port n).startSignal :=
  State.enterSignal_of_canSignal (by simp [Port.canSignal, permitted, show (s.port n).link = .suspended from suspended])

theorem State.failing_port (s : State) (n m : Slot) : (s.failing n).port m = s.port m := rfl

theorem State.releaseFlush_mgi (s : State) (n : Slot) : (s.releaseFlush n).mgi = s.mgi := by
  rw [State.releaseFlush_eq]
  rfl

theorem State.releaseFlush_wakes (s : State) (n : Slot) : (s.releaseFlush n).wakes = s.wakes := by
  rw [State.releaseFlush_eq]
  rfl

/-- What a flush leaves of a slot, of its held keys and buttons, and of T6 (05, R89; 06, R110). -/
theorem State.releaseFlush_spec (s : State) (n : Slot) :
    let t := s.releaseFlush n
    t.port n = { s.port n with queue :=
      (if (s.port n).lastKeyboard = KeyImage.empty then [] else [.keyboard KeyImage.empty]) ++
      (if (s.port n).lastButtons = 0 then [] else [.rel 0 0 0 0]) } ∧
    (∀ m, m ≠ n → t.port m = s.port m) ∧ t.sent n = KeyImage.empty ∧ t.delivered n = 0 ∧
    t.gu.suppressed = s.gu.suppressed ||| s.delivered n ∧ t.fc.focus = s.fc.focus ∧
    (∀ k, heldKey k t.fc.held = (heldKey k s.fc.held).map fun d => if d = .slot n then .suppressed else d) ∧
    t.timer (.t6 n) = (if (t.port n).queue = [] ∨ s.link n = .active then .stopped
      else .running (s.tables.timing.get 6).duration 0) := by
  intro t
  have port (m : Slot) : t.port m = if m = n then (s.port n).flushed else s.port m := s.releaseFlush_port n m
  refine ⟨?_, fun m hm => ?_, ?_, ?_, ?_, ?_, fun k => ?_, ?_⟩
  · rw [port, if_pos rfl, Port.flushed_eq]
  · rw [port, if_neg hm]
  · exact (s.releaseFlush_sent n n).trans (if_pos rfl)
  · exact (s.releaseFlush_delivered n n).trans (if_pos rfl)
  · rw [s.releaseFlush_gu n]
    rfl
  · rw [s.releaseFlush_fc n]
    rfl
  · rw [s.releaseFlush_fc n]
    exact s.heldKey_lostFc n k
  · rw [port, if_pos rfl, s.releaseFlush_t6 n]
    simp only [or_comm]

/-- FAILED under DISCARD (06, R105, R111). -/
theorem State.failing_flushed (s : State) (n : Slot) :
    let t := (s.failing n).releaseFlush n
    t.port n = { s.port n with queue :=
      (if (s.port n).lastKeyboard = KeyImage.empty then [] else [.keyboard KeyImage.empty]) ++
      (if (s.port n).lastButtons = 0 then [] else [.rel 0 0 0 0]) } ∧
    (∀ m, m ≠ n → t.port m = s.port m) ∧ t.sent n = KeyImage.empty ∧ t.delivered n = 0 ∧
    t.gu.suppressed = s.gu.suppressed ||| s.delivered n ∧ t.fc.focus = s.fc.focus ∧
    (∀ k, heldKey k t.fc.held = (heldKey k s.fc.held).map fun d => if d = .slot n then .suppressed else d) ∧
    t.wakes = s.wakes.put n { s.wake n with phase := .failed, line := false } ∧ t.mgi = (s.raiseEvent .wakeFailed).mgi ∧
    t.timer (.t6 n) = (if (t.port n).queue = [] ∨ s.link n = .active then .stopped
      else .running (s.tables.timing.get 6).duration 0) ∧
    (∀ i, i ≠ .t6 n → t.timer i = (((s.bank.setTimer (.t3 n) .stopped).setTimer (.t4 n) .stopped).setTimer (.t5 n) .stopped).timer i) ∧
    t.outer = s.outer ∧ t.consoleSide = s.consoleSide := by
  intro t
  obtain ⟨port, others, sent, delivered, buttons, focus, held, t6⟩ := (s.failing n).releaseFlush_spec n
  refine ⟨port, others, sent, delivered, buttons, focus, held, ?_, ?_, t6, fun i hi => ?_, ?_, ?_⟩
  · rw [State.releaseFlush_wakes]
    rfl
  · rw [State.releaseFlush_mgi]
    rfl
  · rw [State.releaseFlush_timer, if_neg hi]
    rfl
  · exact ((s.failing n).releaseFlush_outer n).trans rfl
  · exact ((s.failing n).releaseFlush_consoleSide n).trans rfl

/-- Settles O35. -/
theorem wakePhasesBegin : Obligations.WakePhasesBegin := by
  intro s n stopped
  refine ⟨fun suspended permitted => ⟨_, State.enterSignal_of_permitted suspended permitted, ?_, ?_, fun m hm => ⟨?_, ?_⟩, ?_, ?_⟩, s.enterLinePulse_eq n,
    s.enterLineAwait_eq n, State.enterFailed_of_keep, fun discard => ⟨_, State.enterFailed_of_discard discard, ?_⟩, fun active => ?_, fun idle refused => ?_⟩
  · rw [State.settlePort_port_same]
    rfl
  · rw [State.settlePort_wake, State.setPhase_wake, if_pos rfl]
    rfl
  · rw [State.settlePort_port_ne _ _ hm]
    rfl
  · rw [State.settlePort_wake, State.setPhase_wake, if_neg hm]
    rfl
  · simp
  · simp
  · exact s.failing_flushed n
  · rw [State.enterSignal_of_active active]
    rfl
  · refine State.enterSignal_of_refused idle ?_
    rcases refused with h | h
    · simp [Port.canSignal, show (s.port n).link ≠ .suspended from h]
    · simp [Port.canSignal, h]

end Sys2Proof.Machine


/-! The timers of the wake sequences and of the queues (06, R101 to R104, R111): what their expiries do. -/

namespace Sys2Proof.Machine

/-! ### The end of signalling (05, R78; 06, R101) -/

theorem State.signallingEnds_of_not_due {s : State} {n : Slot} (h : (s.port n).signalling.due = false) : s.signallingEnds n = s := by
  rw [State.signallingEnds, if_neg (by simp [h])]

theorem State.signallingEnds_of_signal {s : State} {n : Slot} (due : (s.port n).signalling.due = true) (phase : (s.wake n).phase = .signal) :
    s.signallingEnds n = (((s.setPort n { s.port n with signalling := .stopped }).setPhase n .await).startTimer (.t3 n)) := by
  rw [State.signallingEnds, if_pos due]
  exact if_pos phase

/-! ### T3, T4 and T5 (06, R102 to R104) -/

theorem State.t3Expires_of_not_due {s : State} {n : Slot} (h : (s.timer (.t3 n)).due = false) : s.t3Expires n = s := by
  rw [State.t3Expires, if_neg (by simp [h])]

theorem State.t4Expires_of_not_due {s : State} {n : Slot} (h : (s.timer (.t4 n)).due = false) : s.t4Expires n = s := by
  rw [State.t4Expires, if_neg (by simp [h])]

theorem State.t5Expires_of_not_due {s : State} {n : Slot} (h : (s.timer (.t5 n)).due = false) : s.t5Expires n = s := by
  rw [State.t5Expires, if_neg (by simp [h])]

theorem State.t4Expires_of_linePulse {s : State} {n : Slot} (due : (s.timer (.t4 n)).due = true) (phase : (s.wake n).phase = .linePulse) :
    s.t4Expires n = (s.stopTimer (.t4 n)).enterLineAwait n := by
  rw [State.t4Expires, if_pos due]
  exact if_pos phase

theorem State.t5Expires_of_lineAwait {s : State} {n : Slot} (due : (s.timer (.t5 n)).due = true) (phase : (s.wake n).phase = .lineAwait) :
    s.t5Expires n = (s.stopTimer (.t5 n)).enterFailed n := by
  rw [State.t5Expires, if_pos due]
  exact if_pos phase

/-- The end of a remote wakeup: what waits is kept, and T6 goes on (05, R78; 06, R110). -/
theorem State.endRemoteWakeup_eq (s : State) (n : Slot) : s.endRemoteWakeup n = if s.link n = .resuming then { s with
      ports := s.ports.put n { s.port n with link := .suspended, signalling := .stopped }
      bank := if (s.port n).queue = [] then s.bank.setTimer (.t6 n) .stopped else s.bank }
    else s := by
  unfold State.endRemoteWakeup
  split
  next resuming =>
    rw [State.settlePort_eq]
    by_cases empty : (s.port n).queue = []
    · rw [if_pos empty, if_neg (by simp [Port.waits, empty])]
    · have link : (s.port n).link = .resuming := resuming
      have before : (s.port n).waits = true := (Port.waits_iff _).mpr ⟨by rw [link]; decide, empty⟩
      have after : ({ s.port n with link := .suspended, signalling := .stopped } : Port).waits = true :=
        (Port.waits_iff _).mpr ⟨Link.noConfusion, empty⟩
      simp only [empty, before, after, if_true, if_false]
  · rfl

/-- A T3 expiry in AWAIT, with the state it leaves to the next phase written out. -/
theorem State.t3Expires_eq {s : State} {n : Slot} (due : (s.timer (.t3 n)).due = true) (phase : (s.wake n).phase = .await) :
    s.t3Expires n =
      let ended := (s.stopTimer (.t3 n)).endRemoteWakeup n
      let counted := ended.setWake n { s.wake n with attempts := (s.wake n).attempts + 1 }
      if (s.wake n).attempts + 1 < (s.slotRecord n).retries then counted.enterSignal n else counted.wakeExhausted n := by
  have count : (s.counted n).stopTimer (.t3 n) = ((s.stopTimer (.t3 n)).endRemoteWakeup n).setWake n
      { s.wake n with attempts := (s.wake n).attempts + 1 } := by
    rw [State.counted, State.endRemoteWakeup_stopTimer]
    rfl
  dsimp only
  rw [State.t3Expires_of_await due phase, ← count, State.stopTimer_enterSignal _ n (.inl rfl),
    State.stopTimer_wakeExhausted _ n (.inl rfl)]

/-- Settles O36. -/
theorem wakeTimersExpire : Obligations.WakeTimersExpire := by
  intro s n taking
  rw [exec_resumeSignallingEnd taking, exec_wakeResponseExpiry taking, exec_wakePulseExpiry taking, exec_powerUpWaitExpiry taking]
  refine ⟨fun due phase => ?_, fun waiting => ?_, fun due phase => ?_, fun waiting => ?_, fun due phase => ?_, fun waiting => ?_,
    fun due phase => ?_, fun waiting => ?_⟩
  · rw [State.signallingEnds_of_signal due phase, State.setPhase_eq]
    rfl
  · rw [State.signallingEnds_of_not_due waiting]
  · intro stopped ended counted
    have hended : (s.stopTimer (.t3 n)).endRemoteWakeup n = ended := State.endRemoteWakeup_eq (s.stopTimer (.t3 n)) n
    have hcounted : ((s.stopTimer (.t3 n)).endRemoteWakeup n).setWake n { s.wake n with attempts := (s.wake n).attempts + 1 } = counted := by
      rw [hended]
      simp only [counted, ended]
      split <;> rfl
    have wired : (counted.slotRecord n).wakeLineWired = (s.slotRecord n).wakeLineWired := by
      rw [← hcounted]
      simp [State.slotRecord]
    rw [State.t3Expires_eq due phase]
    dsimp only
    rw [hcounted, State.wakeExhausted, wired]
  · rw [State.t3Expires_of_not_due waiting]
  · rw [State.t4Expires_of_linePulse due phase]
  · rw [State.t4Expires_of_not_due waiting]
  · rw [State.t5Expires_of_lineAwait due phase]
  · rw [State.t5Expires_of_not_due waiting]

/-! ### T6 (06, R111) -/

theorem State.t6Expires_of_not_due {s : State} {n : Slot} (h : (s.timer (.t6 n)).due = false) : s.t6Expires n = s := by
  rw [State.t6Expires, if_neg (by simp [h])]

theorem Bank.setTimer_t6_setTimer (b : Bank) (n : Slot) (x y : Wait) :
    (b.setTimer (.t6 n) x).setTimer (.t6 n) y = b.setTimer (.t6 n) y := by
  simp only [Bank.setTimer, Table.put_put]

/-- T6 started again after a flush runs as the flush left it. -/
theorem State.releaseFlush_startTimer {s : State} {n : Slot} (waits : ((s.releaseFlush n).port n).waits = true) :
    (s.releaseFlush n).startTimer (.t6 n) = s.releaseFlush n := by
  rw [State.releaseFlush_port, if_pos rfl] at waits
  rw [State.releaseFlush_eq, State.holdTimer, if_pos waits, State.startTimer, State.setBank_bank, Bank.setTimer_t6_setTimer]
  rfl

/-- Under DISCARD a T6 expiry is a release flush (06, R111). -/
theorem State.t6Expires_of_discard {s : State} {n : Slot} (due : (s.timer (.t6 n)).due = true) (discard : (s.slotRecord n).policy = .discard) :
    s.t6Expires n = s.releaseFlush n := by
  have policy : (s.stopTimer (.t6 n)).applyHoldPolicy n = s.releaseFlush n := by
    unfold State.applyHoldPolicy
    rw [show ((s.stopTimer (.t6 n)).slotRecord n).policy = .discard from discard]
    exact s.stopTimer_releaseFlush n
  rw [State.t6Expires, if_pos due]
  dsimp only
  rw [policy]
  split
  · exact State.releaseFlush_startTimer ‹_›
  · rfl

/-- Under KEEP a T6 expiry starts T6 again while entries wait (06, R111). -/
theorem State.t6Expires_of_keep {s : State} {n : Slot} (due : (s.timer (.t6 n)).due = true) (keep : (s.slotRecord n).policy = .keep)
    (waits : (s.port n).waits = true) : s.t6Expires n = (s.stopTimer (.t6 n)).startTimer (.t6 n) := by
  have policy : (s.stopTimer (.t6 n)).applyHoldPolicy n = s.stopTimer (.t6 n) := by
    unfold State.applyHoldPolicy
    rw [show ((s.stopTimer (.t6 n)).slotRecord n).policy = .keep from keep]
  rw [State.t6Expires, if_pos due]
  dsimp only
  rw [policy]
  exact if_pos waits

/-- Settles O37. -/
theorem queueHoldExpires : Obligations.QueueHoldExpires := by
  intro s n taking
  rw [exec_queueHoldExpiry taking]
  refine ⟨fun waiting => by rw [State.t6Expires_of_not_due waiting], fun due idle queued => ⟨fun keep => ?_, fun discard => ?_⟩⟩
  · rw [State.t6Expires_of_keep due keep ((Port.waits_iff _).mpr ⟨idle, queued⟩), State.startTimer,
      show (s.stopTimer (.t6 n)).bank = s.bank.setTimer (.t6 n) .stopped from rfl, Bank.setTimer_t6_setTimer]
    rfl
  · rw [State.t6Expires_of_discard due discard]
    obtain ⟨port, others, sent, delivered, buttons, focus, held, t6⟩ := s.releaseFlush_spec n
    refine ⟨_, rfl, port, others, sent, delivered, buttons, s.releaseFlush_wakes n, focus, held, ?_, s.releaseFlush_outer n,
      s.releaseFlush_consoleSide n⟩
    simpa only [idle, or_false] using t6

end Sys2Proof.Machine


/-! Management requests that are not taken, malformed or unknown (05, R93; 11, R167, R168), and READ (11, R171, R172). -/

namespace Sys2Proof.Machine

/-! ### The commands that are requests -/

/-- Each of the eleven kinds takes its request in the same way. -/
theorem exec_of_mem_requestKinds {n : Slot} {k : Byte × (List Byte → Instr)} (hk : k ∈ requestKinds n) :
    ∃ f : State → Request → Answer, ∀ (report : List Byte) (s : State),
      exec (k.2 report) s = s.whenTaking fun s => s.takeRequest n k.1 report (f s) := by
  simp only [requestKinds, List.mem_cons, List.not_mem_nil, or_false] at hk
  rcases hk with rfl | rfl | rfl | rfl | rfl | rfl | rfl | rfl | rfl | rfl | rfl
  · exact ⟨fun s => s.readRequest n, fun _ _ => rfl⟩
  · exact ⟨fun s => s.writeRequest n, fun _ _ => rfl⟩
  · exact ⟨fun s => s.commitRequest n, fun _ _ => rfl⟩
  · exact ⟨fun s => s.focusRequest n, fun _ _ => rfl⟩
  · exact ⟨fun s => s.wakeRequest n, fun _ _ => rfl⟩
  · exact ⟨fun s => s.shareRequest n, fun _ _ => rfl⟩
  · exact ⟨fun s r => s.bareRequest r (answerOf (s.raiseAlert n)), fun _ _ => rfl⟩
  · exact ⟨fun s r => s.bareRequest r ((s.withdrawAlert n).accept .done), fun _ _ => rfl⟩
  · exact ⟨fun s => s.statusRequest n, fun _ _ => rfl⟩
  · exact ⟨fun s => s.saveRequest n, fun _ _ => rfl⟩
  · exact ⟨fun s => s.restartRequest n, fun _ _ => rfl⟩

theorem exec_unknownKind_eq (n : Slot) (kind : Byte) (report : List Byte) (s : State) :
    exec (.unknownKind n kind report) s = s.whenTaking fun s => s.takeRequest n kind report fun _ => s.refuse .badRequest := rfl

/-- A command with a sender is one of the eleven kinds or an unknown one. -/
theorem request_of_sender {c : Instr} {n : Slot} (h : c.sender = some n) :
    (∃ k ∈ requestKinds n, ∃ report, c = k.2 report) ∨ ∃ kind report, c = .unknownKind n kind report := by
  cases c <;> simp only [Instr.sender, reduceCtorEq, Option.some.injEq] at h <;> subst h
  case unknownKind kind report => exact .inr ⟨kind, report, rfl⟩
  all_goals exact .inl (by simp [requestKinds])

/-! ### Requests not taken, and runts (05, R93; 11, R167) -/

theorem State.whenTaking_same {s : State} {f : State → State} (h : f s = s) : s.whenTaking f = .next s := by
  rw [State.whenTaking, h, ite_self]

theorem State.takeRequest_runt {s : State} {n : Slot} {kind : Byte} {report : List Byte} (h : report.length < 5)
    (f : Request → Answer) : s.takeRequest n kind report f = s := by
  have short : requestOf kind report = none := by
    unfold requestOf
    split
    · simp only [List.length_cons] at h
      omega
    · rfl
  simp [State.takeRequest, short]

/-- A length field that exceeds the report (11, R167). -/
theorem State.takeRequest_overrun {s : State} {n : Slot} (h : OpenTo s n) (kind code lo hi view len : Byte) {rest : List Byte}
    (hlen : rest.length < len.toNat) (f : Request → Answer) :
    s.takeRequest n kind (code :: lo :: hi :: view :: len :: rest) f = s.respond n ⟨.badRequest, kind, code, hi ++ lo, []⟩ := by
  have takes : s.takesRequest n = true := by
    simp only [State.takesRequest, Bool.and_eq_true, decide_eq_true_eq]
    exact h.2
  simp only [State.takeRequest, takes, if_true, requestOf, State.answerRequest, hlen, decide_true]
  rfl

/-- Settles O41. -/
theorem requestsNotTakenOrRefused : Obligations.RequestsNotTakenOrRefused := by
  refine ⟨fun c n s hc closed => ?_, fun n kind report s short => ⟨?_, fun k hk => ?_⟩,
    fun n kind code view index payload s hopen hp => ?_, fun n code lo hi view len rest s hopen hlen k hk => ?_⟩
  · have closed : s.takesRequest n = false := by
      rcases closed with h | h
      · simp [State.takesRequest, h]
      · simp [State.takesRequest, Config.responseCapacity, Nat.not_lt.mpr h]
    rcases request_of_sender hc with ⟨k, hk, report, rfl⟩ | ⟨kind, report, rfl⟩
    · obtain ⟨f, hf⟩ := exec_of_mem_requestKinds hk
      rw [hf]
      exact State.whenTaking_same (State.takeRequest_closed closed ..)
    · rw [exec_unknownKind_eq]
      exact State.whenTaking_same (State.takeRequest_closed closed ..)
  · rw [exec_unknownKind_eq]
    exact State.whenTaking_same (State.takeRequest_runt short _)
  · obtain ⟨f, hf⟩ := exec_of_mem_requestKinds hk
    rw [hf]
    exact State.whenTaking_same (State.takeRequest_runt short _)
  · rw [exec_unknownKind_eq, State.whenTaking_eq hopen.1, State.takeRequest_requestBytes hopen kind code index view payload hp]
    rfl
  · obtain ⟨f, hf⟩ := exec_of_mem_requestKinds hk
    rw [hf, State.whenTaking_eq hopen.1, State.takeRequest_overrun hopen k.1 code lo hi view len hlen]

/-! ### READ (11, R171, R172) -/

theorem inRange_eq_some {n lo i : Nat} {f : Fin n → Record} {x : Record} (h : inRange n lo i f = some x) :
    ∃ j : Fin n, lo ≤ i ∧ i = lo + j.val ∧ x = f j := by
  unfold inRange below at h
  split at h
  next hlo =>
    split at h
    next hi =>
      obtain rfl := Option.some.inj h
      exact ⟨⟨i - lo, hi⟩, hlo, by simp; omega, rfl⟩
    · cases h
  · cases h

theorem some_of_orElse {α : Type} {a b : Option α} {x : α} (h : (a <|> b) = some x) : a = some x ∨ b = some x := by
  cases a with
  | none => exact .inr h
  | some y => exact .inl h

/-- A record of a section beyond ACCESS and SLOTS. -/
def Record.isShared : Record → Bool
  | .access _ | .slot _ => false
  | _ => true

theorem isShared_of_inRange {n lo i : Nat} {f : Fin n → Record} {x : Record} (h : inRange n lo i f = some x)
    (hf : ∀ j, (f j).isShared = true) : x.isShared = true := by
  obtain ⟨j, -, -, rfl⟩ := inRange_eq_some h
  exact hf j

theorem isShared_of_ite {c : Prop} [Decidable c] {r x : Record} (h : (if c then some r else none) = some x) (hr : r.isShared = true) :
    x.isShared = true := by
  obtain ⟨-, h⟩ := Option.ite_none_right_eq_some.mp h
  exact Option.some.inj h ▸ hr

/-- The sections beyond ACCESS and SLOTS hold no record of these two. -/
theorem recordAt_isShared {code : Byte} {i : Nat} {x : Record} (h : recordAt code i = some x) (hcode : 2 ≤ code.toNat) :
    x.isShared = true := by
  unfold recordAt at h
  split at h
  · omega
  · omega
  · exact isShared_of_inRange h fun _ => rfl
  · rcases some_of_orElse h with h | h
    · exact isShared_of_inRange h fun _ => rfl
    · rcases some_of_orElse h with h | h
      · exact isShared_of_inRange h fun _ => rfl
      · rcases some_of_orElse h with h | h
        · exact isShared_of_inRange h fun _ => rfl
        · exact isShared_of_ite h rfl
  · unfold presetRecord at h
    split at h
    · cases h
    · rcases some_of_orElse h with h | h <;> exact isShared_of_inRange h fun _ => rfl
  · rcases some_of_orElse h with h | h
    · exact isShared_of_inRange h fun _ => rfl
    · rcases some_of_orElse h with h | h
      · exact isShared_of_inRange h fun _ => rfl
      · exact isShared_of_ite h rfl
  · rcases some_of_orElse h with h | h
    · exact isShared_of_inRange h fun _ => rfl
    · rcases some_of_orElse h with h | h
      · exact isShared_of_inRange h fun _ => rfl
      · rcases some_of_orElse h with h | h
        · exact isShared_of_inRange h fun _ => rfl
        · exact isShared_of_ite h rfl
  · exact isShared_of_inRange h fun _ => rfl
  · cases h

/-- A slot's own ACCESS record is named by section code 0 and its index alone, and its SLOTS record by code 1 (11, R171). -/
theorem recordAt_own {code : Byte} {i : Nat} {x : Record} (h : recordAt code i = some x) (n : Slot) :
    (x = .access n ↔ code = 0 ∧ i = n.val) ∧ (x = .slot n ↔ code = 1 ∧ i = n.val) := by
  have code_iff (c : Byte) : code = c ↔ code.toNat = c.toNat := ⟨congrArg _, BitVec.eq_of_toNat_eq⟩
  rw [code_iff, code_iff, show (0 : Byte).toNat = 0 from rfl, show (1 : Byte).toNat = 1 from rfl]
  by_cases hcode : 2 ≤ code.toNat
  · have shared := recordAt_isShared h hcode
    constructor
    · exact ⟨fun hx => by simp [hx, Record.isShared] at shared, fun hx => by omega⟩
    · exact ⟨fun hx => by simp [hx, Record.isShared] at shared, fun hx => by omega⟩
  · unfold recordAt at h
    split at h
    next h0 =>
      obtain ⟨j, -, rfl, rfl⟩ := inRange_eq_some h
      simp [h0, Fin.ext_iff]
    next h1 =>
      obtain ⟨j, -, rfl, rfl⟩ := inRange_eq_some h
      simp [h1, Fin.ext_iff]
    case h_9 => cases h
    all_goals omega

/-- The read right, or the implicit right to the sender's own ACCESS and SLOTS records (11, R172). -/
theorem State.mayRead_iff {s : State} {n : Slot} {code : Byte} {i : Nat} {x : Record} (h : recordAt code i = some x) :
    s.mayRead n code x = true ↔ (s.access n).readRights.getLsbD code.toNat = true ∨ ((code = 0 ∨ code = 1) ∧ i = n.val) := by
  obtain ⟨access, slot⟩ := recordAt_own h n
  rw [State.mayRead, Bool.or_eq_true, Bool.or_eq_true, decide_eq_true_eq, decide_eq_true_eq, access, slot, or_assoc, or_and_right]

/-- Settles O42. -/
theorem readAnswersTheRecord : Obligations.ReadAnswersTheRecord := by
  intro s n code view index hopen request answered
  have answer : request = .read n (requestBytes code index view []) := rfl
  have bad (hview : view.toNat ≤ 1) : badView view = false := by simp [badView, hview]
  rw [answer, exec_read_requestBytes hopen code index view [] (by simp)]
  unfold State.readRequest
  dsimp only
  refine ⟨fun hview => ?_, fun hview hcode => ?_, fun hview hcode hindex => ?_, fun x hview hcode hx => ⟨fun may => ?_, fun mayNot => ?_⟩⟩
  · rw [if_pos (.inr (by simpa [badView] using hview))]
    rfl
  · rw [if_neg (by simp [bad hview]), if_pos hcode]
    rfl
  · rw [if_neg (by simp [bad hview]), if_neg (Nat.not_lt.mpr hcode), hindex]
    rfl
  · rw [if_neg (by simp [bad hview]), if_neg (Nat.not_lt.mpr hcode), hx]
    dsimp only
    rw [if_pos ((State.mayRead_iff hx).mpr may)]
  · rw [if_neg (by simp [bad hview]), if_neg (Nat.not_lt.mpr hcode), hx]
    dsimp only
    rw [if_neg (fun may => mayNot ((State.mayRead_iff hx).mp may))]
    rfl

end Sys2Proof.Machine


/-! The flash through the steps of a save, and what RESET and a busy flash make of one that is under way (12). -/

namespace Sys2Proof.Machine

/-! ### Reading what was changed -/

/-- A cell of changed contents stood there before or is one of those laid over. -/
theorem Memory.mem_change {m : Memory} {cells : List Host.Cell} {c : Host.Cell} (h : c ∈ m.change cells) : c ∈ m ∨ c ∈ cells := by
  induction cells generalizing m with
  | nil => exact .inl h
  | cons d cells ih =>
    rw [Memory.change, List.foldl_cons] at h
    rcases ih h with h | h
    · split at h
      · unfold Memory.write at h
        split at h
        · exact .inl (List.mem_filter.mp h).1
        · rcases Memory.mem_insert h with rfl | h
          · exact .inr (List.mem_cons_self ..)
          · exact .inl (List.mem_filter.mp h).1
      · exact .inl h
    · exact .inr (List.mem_cons_of_mem _ h)

/-- A byte none of the changed cells names reads as before. -/
theorem Memory.read_change {cells : List Host.Cell} {a : Nat} (h : ∀ c ∈ cells, c.1 ≠ a) (m : Memory) :
    (m.change cells).read a = m.read a := by
  induction cells generalizing m with
  | nil => rfl
  | cons d cells ih =>
    rw [Memory.change, List.foldl_cons]
    have rest := ih (fun c hc => h c (List.mem_cons_of_mem _ hc))
      (if d.1 < Config.imageArea then m.write d.1 d.2 else m)
    rw [Memory.change] at rest
    rw [rest]
    split
    · rw [Memory.read_write, if_neg (h d (List.mem_cons_self ..)).symm]
    · rfl

/-- In canonical contents the bytes from an address on are what reads there. -/
theorem Memory.readFrom_eq (n a : Nat) {m : Memory} (h : Memory.wfFrom a m = true) :
    Memory.readFrom n a m = (List.range n).map fun k => m.read (a + k) := by
  induction n generalizing a m with
  | zero => rfl
  | succ n ih =>
    have shift (m : Memory) : (List.range (n + 1)).map (fun k => Memory.read m (a + k)) =
        Memory.read m a :: (List.range n).map fun k => Memory.read m (a + 1 + k) := by
      rw [List.range_succ_eq_map, List.map_cons, List.map_map]
      simp only [Function.comp_def, Nat.add_zero, Nat.succ_eq_add_one, Nat.add_assoc, Nat.add_comm 1]
    rw [shift]
    cases m with
    | nil =>
      have empty : Memory.wfFrom (a + 1) [] = true := rfl
      simp only [Memory.readFrom, ih (a + 1) empty, Memory.read]
    | cons c m =>
      obtain ⟨k, x⟩ := c
      simp only [Memory.wfFrom, Bool.and_eq_true, decide_eq_true_eq] at h
      obtain ⟨⟨hk, hx⟩, rest⟩ := h
      rw [Memory.readFrom]
      split
      · subst k
        rw [ih (a + 1) rest, Memory.read, if_pos rfl]
        congr 1
        refine List.map_congr_left fun j _ => ?_
        rw [Memory.read, if_neg (by omega)]
      · have canonical : Memory.wfFrom (a + 1) ((k, x) :: m) = true := by
          simp only [Memory.wfFrom, Bool.and_eq_true, decide_eq_true_eq]
          exact ⟨⟨by omega, hx⟩, rest⟩
        rw [ih (a + 1) canonical, Memory.read_below canonical (Nat.lt_succ_self a)]

/-- The first four bytes of canonical contents. -/
theorem Memory.bytes_four {m : Memory} (h : m.wf = true) : m.bytes 0 4 = [m.read 0, m.read 1, m.read 2, m.read 3] := by
  have whole : (m.dropWhile fun c => decide (c.1 < 0)) = m := by cases m <;> simp [List.dropWhile]
  rw [Memory.bytes, whole, Memory.readFrom_eq 4 0 ((Memory.wf_iff m).mp h).1]
  rfl

theorem Memory.signed_iff {m : Memory} (h : m.wf = true) :
    m.bytes 0 4 = signatureBytes ↔ m.read 0 = 0xE1 ∧ m.read 1 = 0x96 ∧ m.read 2 = 0x3C ∧ m.read 3 = 0x5A := by
  simp [Memory.bytes_four h, signatureBytes]

theorem Memory.readFrom_take (k n a : Nat) (m : Memory) : (Memory.readFrom (k + n) a m).take k = Memory.readFrom k a m := by
  induction k generalizing a m with
  | zero => rfl
  | succ k ih =>
    rw [Nat.succ_add]
    cases m with
    | nil => simp only [Memory.readFrom, List.take_succ_cons, ih]
    | cons c m =>
      simp only [Memory.readFrom]
      split <;> simp only [List.take_succ_cons, ih]

/-- Contents without the signature hold no valid image (12, R182). -/
theorem Memory.image_of_unsigned {m : Memory} (h : m.bytes 0 4 ≠ signatureBytes) : m.image = none := by
  have first : (m.bytes 0 Config.headerLength).take 4 = m.bytes 0 4 := Memory.readFrom_take 4 36 0 _
  simp [Memory.image, headerValid, first, h]

/-- The bytes of an unsigned buffer. -/
theorem Memory.read_unsigned_ofBytes (l : List Byte) (a : Nat) :
    (Memory.ofBytes 0 l).unsigned.read a = if 4 ≤ a then l.getD a 0xFF else 0xFF := by
  have read := Memory.read_ofBytes 0 l a
  rw [Nat.zero_add] at read
  rw [Memory.read_unsigned, read]
  rfl

/-! ### Steps cut short -/

theorem eraseCutShort_headerErased {before after : Memory} (h : EraseCutShort before after) :
    EraseCutShort before after.headerErased := by
  have low {a : Nat} (ha : a < 4096) : after.headerErased.read a = 0xFF := by
    rw [Memory.read_headerErased, if_neg (by simpa [Config.sectorSize] using ha)]
    rfl
  have high {a : Nat} (ha : 4096 ≤ a) : after.headerErased.read a = after.read a := by
    rw [Memory.read_headerErased, if_pos (by simpa [Config.sectorSize] using ha)]
  obtain ⟨underWay, others⟩ := h.2
  refine ⟨fun _ a => low, underWay, fun sector hs => ?_⟩
  by_cases first : sector = 0
  · exact .inl fun a ha => low (by omega)
  · have above (a : Nat) (ha : a / 4096 = sector) : after.headerErased.read a = after.read a := high (by omega)
    exact (others sector hs).imp (fun erased a ha => (above a ha).trans (erased a ha))
      (fun kept a ha => (above a ha).trans (kept a ha))

/-- Cells changed in the header's sector alone. -/
theorem eraseCutShort_first {m : Memory} {cells : List Host.Cell} (h : ∀ c ∈ cells, c.1 < 4096) :
    EraseCutShort m (m.change cells) := by
  have above (a : Nat) (ha : 4096 ≤ a) : (m.change cells).read a = m.read a :=
    Memory.read_change (fun c hc => by have := h c hc; omega) m
  refine ⟨fun ⟨a, ha, changed⟩ => absurd (above a ha) changed, 0, fun sector hs => .inr fun a ha => above a (by omega)⟩

/-- The cells under way lie in one sector, that of the first of them, which is not erased yet. -/
theorem mem_cellsUnderWay {f : Config.FlashCut} {c : Host.Cell} (h : c ∈ cellsUnderWay f) :
    c.1 / 4096 ∉ f.sectors ∧ c.1 / 4096 = ((f.cells.head?.map fun x => x.1 / Config.sectorSize).getD 0) := by
  obtain ⟨-, h⟩ := List.mem_filter.mp h
  obtain ⟨outside, head⟩ := of_decide_eq_true h
  rw [head]
  exact ⟨outside, rfl⟩

theorem eraseCutShort_sectors (m : Memory) {f : Config.FlashCut} (h : 0 ∈ f.sectors) :
    EraseCutShort m ((m.sectorsErased f.sectors).change (cellsUnderWay f)) := by
  have erased {a : Nat} (ha : a / 4096 ∈ f.sectors) :
      Memory.read ((m.sectorsErased f.sectors).change (cellsUnderWay f)) a = 0xFF := by
    rw [Memory.read_change (fun c hc he => (mem_cellsUnderWay hc).1 (he ▸ ha)), Memory.read_sectorsErased]
    exact if_pos ha
  refine ⟨fun _ a ha => erased (by rwa [Nat.div_eq_of_lt ha]),
    (f.cells.head?.map fun x => x.1 / Config.sectorSize).getD 0, fun sector hs => ?_⟩
  by_cases hsector : sector ∈ f.sectors
  · exact .inl fun a ha => erased (ha ▸ hsector)
  · refine .inr fun a ha => ?_
    rw [Memory.read_change (fun c hc he => hs (by rw [← ha, ← he]; exact (mem_cellsUnderWay hc).2)), Memory.read_sectorsErased,
      if_neg (by rwa [show a / Config.sectorSize = sector from ha])]

theorem eraseCutShort_eraseCut (m : Memory) (f : Config.FlashCut) : EraseCutShort m (m.eraseCut f) := by
  have first : EraseCutShort m (m.change (f.cells.filter fun c => decide (c.1 < Config.sectorSize))) :=
    eraseCutShort_first fun c hc => of_decide_eq_true (List.mem_filter.mp hc).2
  obtain e | e | ⟨e, -⟩ | ⟨header, e⟩ := Memory.eraseCut_cases m f <;> rw [e]
  · exact ⟨fun ⟨a, _, changed⟩ => absurd rfl changed, 0, fun sector _ => .inr fun a _ => rfl⟩
  · exact eraseCutShort_headerErased first
  · exact first
  · exact eraseCutShort_sectors m header

/-- An erase step cut short has changed nothing or leaves no valid signature (12, R187; L8). -/
theorem Memory.eraseCut_unsigned (m : Memory) (f : Config.FlashCut) :
    m.eraseCut f = m ∨ (m.eraseCut f).bytes 0 4 ≠ signatureBytes := by
  obtain e | e | ⟨e, unsigned⟩ | ⟨header, e⟩ := Memory.eraseCut_cases m f <;> rw [e]
  · exact .inl rfl
  · exact .inr (Memory.headerErased_bytes_ne _)
  · exact .inr unsigned
  · refine .inr ?_
    have above : ∀ c ∈ (m.sectorsErased f.sectors).change (cellsUnderWay f), 4 ≤ c.1 := by
      intro c hc
      have outside : c.1 / 4096 ∉ f.sectors := by
        rcases Memory.mem_change hc with hc | hc
        · exact of_decide_eq_true (List.mem_filter.mp hc).2
        · exact (mem_cellsUnderWay hc).1
      by_contra low
      exact outside (by rwa [Nat.div_eq_of_lt (by omega)])
    rw [Memory.bytes_below 4 _ above]
    decide

theorem programCutShort_program (m : Memory) (image : List Byte) (f : Config.FlashCut) :
    ProgramCutShort image (m.cutShort image .program f) := by
  refine ⟨f.bytes, fun a => ?_⟩
  rw [Memory.cutShort, Memory.read_unsigned_ofBytes]
  by_cases signature : 4 ≤ a
  · by_cases done : a < f.bytes
    · simp [signature, done, List.getD, List.getElem?_take_of_lt]
    · simp [signature, done, List.getD]
  · simp [signature]

/-- The program step cut short leaves no valid signature. -/
theorem Memory.cutShort_program_unsigned (m : Memory) (image : List Byte) (f : Config.FlashCut) :
    (m.cutShort image .program f).bytes 0 4 ≠ signatureBytes := Memory.unsigned_bytes_ne _

/-- The sign step cut short has changed the signature word alone. -/
theorem Memory.read_cutShort_sign (m : Memory) (image : List Byte) (f : Config.FlashCut) {a : Nat} (h : 4 ≤ a) :
    (m.cutShort image .sign f).read a = m.read a :=
  Memory.read_change (fun c hc => by have : c.1 < 4 := of_decide_eq_true (List.mem_filter.mp hc).2; omega) m

/-! #### A failed save -/

/-- Before the sign step a failed save leaves no valid signature (12, R187). -/
theorem Memory.failed_unsigned (m : Memory) (image : List Byte) {x : SaveStep} (f : Config.FlashCut) (h : x ≠ .sign) :
    (m.failed image x f).bytes 0 4 ≠ signatureBytes := by
  unfold Memory.failed
  dsimp only
  split
  · exact Memory.headerErased_bytes_ne _
  · next unsigned => exact fun signed => unsigned ⟨h, signed⟩

theorem Memory.failed_of_unsigned (m : Memory) (image : List Byte) {x : SaveStep} (f : Config.FlashCut)
    (h : (m.cutShort image x f).bytes 0 4 ≠ signatureBytes) : m.failed image x f = m.cutShort image x f := by
  simp [Memory.failed, h]

theorem Memory.failed_sign (m : Memory) (image : List Byte) (f : Config.FlashCut) :
    m.failed image .sign f = m.cutShort image .sign f := by simp [Memory.failed]

theorem eraseCutShort_failed (m : Memory) (image : List Byte) (f : Config.FlashCut) :
    EraseCutShort m (m.failed image .erase f) := by
  unfold Memory.failed
  dsimp only
  split
  · exact eraseCutShort_headerErased (eraseCutShort_eraseCut m f)
  · exact eraseCutShort_eraseCut m f

/-! ### Saves -/

theorem State.atSaveStep_eq {s : State} {x : SaveStep} (h : s.pl.loader = .saving x) (f : State → State) : s.atSaveStep x f = f s :=
  if_pos h

/-- While a save runs and RESET is not asserted the part takes events. -/
theorem State.taking_of_saving {s : State} {x : SaveStep} (hreset : s.resetLine = false) (h : s.pl.loader = .saving x) :
    s.taking = true := by
  simp [State.taking, hreset, h]

theorem State.flashTimesOut_of_saving {s : State} {x : SaveStep} (hreset : s.resetLine = false) (h : s.pl.loader = .saving x) :
    s.flashTimesOut =
      ((s.setFlash (s.flash.failed s.pl.saveBuffer x (Config.cutShortFlash s.cuts))).setCuts (s.cuts + 1)).saveFails := by
  simp [State.flashTimesOut, hreset, h]

theorem State.flashTimesOut_of_loading {s : State} (hreset : s.resetLine = false) (h : s.pl.loader = .loading) :
    s.flashTimesOut = s.setPl { s.pl with flashBusy := true } := by
  simp [State.flashTimesOut, hreset, h]

/-- Settles O8: what a step cut short can leave is said by the steps themselves, and before the sign step a valid signature that
still stands is erased with its sector. -/
theorem saveStepsEraseProgramAndTimeout : Obligations.SaveStepsEraseProgramAndTimeout := by
  refine ⟨fun s hreset hp => ?_, fun s hreset hp => ?_, fun s x hreset hp => ?_, fun s hreset hp => ?_⟩
  · exact ⟨_, (exec_saveEraseEnd (State.taking_of_saving hreset hp)).trans (congrArg _ (State.atSaveStep_eq hp _)), rfl, fun _ => rfl⟩
  · exact ⟨_, (exec_saveProgramEnd (State.taking_of_saving hreset hp)).trans (congrArg _ (State.atSaveStep_eq hp _)), rfl,
      Memory.read_unsigned_ofBytes _⟩
  · refine ⟨_, congrArg Host.Outcome.next (State.flashTimesOut_of_saving hreset hp), rfl, ?_⟩
    show (x ≠ .sign → Memory.bytes (s.flash.failed s.pl.saveBuffer x (Config.cutShortFlash s.cuts)) 0 4 ≠ signatureBytes) ∧ _
    refine ⟨Memory.failed_unsigned _ _ _, fun hx unsigned => ?_, fun hx => ?_, fun hx => ?_, fun hx _ a ha => ?_⟩ <;> subst hx
    · exact Memory.failed_of_unsigned _ _ _ unsigned
    · exact eraseCutShort_failed _ _ _
    · show ProgramCutShort _ (Memory.failed _ _ _ _)
      rw [Memory.failed_of_unsigned _ _ _ (Memory.cutShort_program_unsigned _ _ _)]
      exact programCutShort_program _ _ _
    · show Memory.read (Memory.failed s.flash s.pl.saveBuffer .sign _) a = _
      rw [Memory.failed_sign]
      exact Memory.read_cutShort_sign s.flash s.pl.saveBuffer _ ha
  · exact congrArg Host.Outcome.next (State.flashTimesOut_of_loading hreset hp)

/-! ### Verifying and signing -/

theorem Memory.verified_iff {m : Memory} (h : m.wf = true) {image : List Byte} (hi : image.length ≤ Config.imageArea) :
    m.unsigned = (Memory.ofBytes 0 image).unsigned ↔ ∀ a, 4 ≤ a → m.read a = image.getD a 0xFF := by
  have read (a : Nat) (ha : 4 ≤ a) : m.unsigned.read a = m.read a := by rw [Memory.read_unsigned, if_pos ha]
  constructor
  · intro equal a ha
    rw [← read a ha, equal, Memory.read_unsigned_ofBytes, if_pos ha]
  · intro same
    refine Memory.eq_of_read ((Memory.wf_iff _).mp (Memory.wf_unsigned h)).1
      ((Memory.wf_iff _).mp (Memory.wf_unsigned (Memory.wf_ofBytes hi))).1 fun a _ => ?_
    rw [Memory.read_unsigned_ofBytes]
    split
    · rw [read a ‹_›, same a ‹_›]
    · rw [Memory.read_unsigned, if_neg ‹_›]
      rfl

/-- The contents with the signature word programmed (12, R187, step 4). -/
def Memory.withSignature (m : Memory) : Memory := m.change [(0, 0xE1), (1, 0x96), (2, 0x3C), (3, 0x5A)]

theorem Memory.wf_withSignature {m : Memory} (h : m.wf = true) : m.withSignature.wf = true := Memory.wf_change h _

theorem Memory.read_withSignature (m : Memory) (a : Nat) : m.withSignature.read a =
    if a = 3 then 0x5A else if a = 2 then 0x3C else if a = 1 then 0x96 else if a = 0 then 0xE1 else m.read a := by
  simp only [Memory.withSignature, Memory.change, List.foldl_cons, List.foldl_nil]
  norm_num [Memory.read_write, Config.imageArea]

/-- A signature word that nothing changed reads back. -/
theorem Memory.signed_of_unchanged {m : Memory} (h : m.wf = true) {changed : List Host.Cell} (hc : ∀ c ∈ changed, 4 ≤ c.1) :
    Memory.bytes (m.withSignature.change changed) 0 4 = signatureBytes := by
  have kept (a : Nat) (ha : a < 4) : (m.withSignature.change changed).read a = m.withSignature.read a :=
    Memory.read_change (fun c hcell => by have := hc c hcell; omega) _
  rw [Memory.signed_iff (Memory.wf_change (Memory.wf_withSignature h) changed), kept 0 (by decide), kept 1 (by decide), kept 2 (by decide),
    kept 3 (by decide)]
  simp [Memory.read_withSignature]

theorem State.verifyEnds_of_verified {s : State} {changed : List Host.Cell}
    (h : (s.flash.change changed).unsigned = (Memory.ofBytes 0 s.pl.saveBuffer).unsigned) :
    s.verifyEnds changed = { s with flash := s.flash.change changed, pl := { s.pl with loader := .saving .sign } } :=
  if_pos h

theorem State.verifyEnds_of_differing {s : State} {changed : List Host.Cell}
    (h : (s.flash.change changed).unsigned ≠ (Memory.ofBytes 0 s.pl.saveBuffer).unsigned) :
    s.verifyEnds changed = (s.setFlash (s.flash.change changed)).saveFails :=
  if_neg h

theorem State.signEnds_of_signed {s : State} {changed : List Host.Cell}
    (h : Memory.bytes (s.flash.withSignature.change changed) 0 4 = signatureBytes) :
    s.signEnds changed = (s.setFlash (s.flash.withSignature.change changed)).saveSucceeds :=
  if_pos h

theorem State.signEnds_of_unsigned {s : State} {changed : List Host.Cell}
    (h : Memory.bytes (s.flash.withSignature.change changed) 0 4 ≠ signatureBytes) :
    s.signEnds changed = (s.setFlash (s.flash.withSignature.change changed)).saveFails :=
  if_neg h

/-- Settles O9: the comparison of canonical contents is that of the bytes they read as. -/
theorem saveVerifiesAndSigns : Obligations.SaveVerifiesAndSigns := by
  refine ⟨fun s changed hreset hp canonical fits => ?_, ?_⟩
  · have run := (exec_saveVerifyEnd (State.taking_of_saving hreset hp) changed).trans (congrArg _ (State.atSaveStep_eq hp _))
    have verified := Memory.verified_iff (Memory.wf_change canonical changed) fits
    refine ⟨fun same => ?_, fun a ha differs => ?_⟩
    · rw [run, State.verifyEnds_of_verified (verified.mpr same)]
    · rw [run, State.verifyEnds_of_differing fun equal => differs (verified.mp equal a ha)]
      rfl
  · intro s changed hreset hp canonical signed done failed
    have run := (exec_saveSignEnd (State.taking_of_saving hreset hp) changed).trans (congrArg _ (State.atSaveStep_eq hp _))
    have signature : Memory.bytes signed 0 4 = signatureBytes ↔ _ :=
      Memory.signed_iff (Memory.wf_change (Memory.wf_change canonical _) changed)
    have succeeds (h : Memory.bytes signed 0 4 = signatureBytes) : exec (.saveSignEnd changed) s = .next done :=
      run.trans (congrArg Host.Outcome.next (State.signEnds_of_signed h))
    refine ⟨fun outside => succeeds (Memory.signed_of_unchanged canonical outside),
      fun h0 h1 h2 h3 => succeeds (signature.mpr ⟨h0, h1, h2, h3⟩), fun h => ?_, fun a ha _ outside => ?_⟩
    · have unsigned : Memory.bytes signed 0 4 ≠ signatureBytes := fun h' => by
        obtain ⟨h0, h1, h2, h3⟩ := signature.mp h'
        rcases h with h | h | h | h <;> exact h ‹_›
      exact run.trans (congrArg Host.Outcome.next (State.signEnds_of_unsigned unsigned))
    · have kept := Memory.read_withSignature s.flash a
      rw [if_neg (by omega), if_neg (by omega), if_neg (by omega), if_neg (by omega)] at kept
      exact (Memory.read_change outside _).trans kept

end Sys2Proof.Machine


/-! RESET and the end of a load that finds no valid image (12). -/

namespace Sys2Proof.Machine

/-! ### RESET asserted -/

theorem State.resetAsserts_of_saving {s : State} {x : SaveStep} (h : s.pl.loader = .saving x) :
    s.resetAsserts = State.heldInReset s.pending (s.flash.abandoned s.pl.saveBuffer x (Config.cutShortFlash s.cuts)) (s.cuts + 1) := by
  simp [State.resetAsserts, h]

theorem State.resetAsserts_of_not_saving {s : State} (h : ∀ x, s.pl.loader ≠ .saving x) :
    s.resetAsserts = State.heldInReset s.pending s.flash s.cuts := by
  unfold State.resetAsserts
  split
  next x hx => exact absurd hx (h x)
  · rfl
  · rfl

theorem Memory.abandoned_erase (m : Memory) (image : List Byte) (f : Config.FlashCut) :
    m.abandoned image .erase f = m.eraseCut f := by simp [Memory.abandoned, Memory.cutShort]

/-- Once the erase step has ended, an abandoned save leaves no valid signature (12, R187; L8). -/
theorem Memory.abandoned_unsigned (m : Memory) (image : List Byte) {x : SaveStep} (f : Config.FlashCut) (h : x ≠ .erase) :
    (m.abandoned image x f).bytes 0 4 ≠ signatureBytes := by
  unfold Memory.abandoned
  dsimp only
  split
  · exact Memory.unsigned_bytes_ne _
  · next unsigned => exact fun signed => unsigned ⟨h, signed⟩

theorem Memory.abandoned_of_unsigned (m : Memory) (image : List Byte) {x : SaveStep} (f : Config.FlashCut)
    (h : (m.cutShort image x f).bytes 0 4 ≠ signatureBytes) : m.abandoned image x f = m.cutShort image x f := by
  simp [Memory.abandoned, h]

/-- An abandoned sign step leaves all but the signature word. -/
theorem Memory.read_abandoned_sign (m : Memory) (image : List Byte) (f : Config.FlashCut) {a : Nat} (h : 4 ≤ a) :
    (m.abandoned image .sign f).read a = m.read a := by
  unfold Memory.abandoned
  dsimp only
  split
  · rw [Memory.read_unsigned, if_pos h, Memory.read_cutShort_sign m image f h]
  · exact Memory.read_cutShort_sign m image f h

/-- What an abandoned save leaves in the flash, step by step (12, R187; L8). -/
theorem Memory.abandoned_spec (m : Memory) (image : List Byte) (x : SaveStep) (f : Config.FlashCut) :
    (x = .erase → m.abandoned image x f = m ∨
      (m.abandoned image x f).bytes 0 4 ≠ signatureBytes ∧ (m.abandoned image x f).image = none ∧
        EraseCutShort m (m.abandoned image x f)) ∧
    (x ≠ .erase → (m.abandoned image x f).bytes 0 4 ≠ signatureBytes ∧ (m.abandoned image x f).image = none) ∧
    (x = .verify → m.bytes 0 4 ≠ signatureBytes → m.abandoned image x f = m) ∧
    (x = .program → ProgramCutShort image (m.abandoned image x f)) ∧
    (x = .sign → ∀ a, 4 ≤ a → (m.abandoned image x f).read a = m.read a) := by
  refine ⟨fun hx => ?_, fun hx => ?_, fun hx unsigned => ?_, fun hx => ?_, fun hx a ha => ?_⟩
  · subst hx
    rw [Memory.abandoned_erase]
    exact (m.eraseCut_unsigned f).imp_right fun unsigned =>
      ⟨unsigned, Memory.image_of_unsigned unsigned, eraseCutShort_eraseCut m f⟩
  · exact ⟨m.abandoned_unsigned image f hx, Memory.image_of_unsigned (m.abandoned_unsigned image f hx)⟩
  · subst hx
    exact m.abandoned_of_unsigned image f unsigned
  · subst hx
    rw [m.abandoned_of_unsigned image f (m.cutShort_program_unsigned image f)]
    exact programCutShort_program m image f
  · subst hx
    exact m.read_abandoned_sign image f ha

/-- The state that RESET holds takes nothing over but the queue, the flash and the count of steps cut short. -/
theorem State.heldInReset_eq (pending : List Instr) (flash : Memory) (cuts : Nat) :
    State.heldInReset pending flash cuts = { State.reset with pending := pending, flash := flash, cuts := cuts } := rfl

theorem State.reset_timer (i : TimerId) : State.reset.timer i = .stopped := by
  cases i with
  | t0 | t1 | t2 => rfl
  | t3 n | t4 n | t5 n | t6 n => exact Table.get_all ..

/-- Settles O5: the values are those the reset state is built from, and the flash is what the step of a save left. -/
theorem resetHoldsPowerOnValues : Obligations.ResetHoldsPowerOnValues := by
  refine ⟨fun s => ?_, ?_, fun s hreset => ?_⟩
  · refine ⟨s.resetAsserts, rfl, ?_⟩
    by_cases saving : ∃ x, s.pl.loader = .saving x
    · obtain ⟨x, hx⟩ := saving
      obtain ⟨erase, later, verify, program, sign⟩ :=
        Memory.abandoned_spec s.flash s.pl.saveBuffer x (Config.cutShortFlash s.cuts)
      rw [State.resetAsserts_of_saving hx, hx]
      refine ⟨rfl, fun none => absurd rfl (none x), fun h => erase (Loader.saving.inj h), fun y h hy => ?_,
        fun h => verify (Loader.saving.inj h), fun h => program (Loader.saving.inj h), fun h _ => sign (Loader.saving.inj h)⟩
      exact later (Loader.saving.inj h ▸ hy)
    · have none (x : SaveStep) : s.pl.loader ≠ .saving x := fun h => saving ⟨x, h⟩
      rw [State.resetAsserts_of_not_saving none]
      exact ⟨rfl, fun _ => ⟨rfl, rfl⟩, fun h => absurd h (none _), fun x h => absurd h (none x), fun h => absurd h (none _),
        fun h => absurd h (none _), fun h => absurd h (none _)⟩
  · refine ⟨rfl, rfl, rfl, rfl, rfl, rfl, rfl, rfl, rfl, rfl, rfl, rfl, rfl, rfl, rfl, rfl, rfl, fun n => Table.get_all .., rfl,
      rfl, rfl, rfl, rfl, rfl, rfl, rfl, rfl, rfl, fun n => ⟨Table.get_all .., Table.get_all .., Table.get_all ..⟩,
      fun n => Table.get_all .., fun n => Table.get_all .., rfl, rfl, fun n => Table.get_all .., rfl, rfl, fun d => ?_,
      rfl, rfl, rfl, rfl, rfl, rfl, State.reset_timer, rfl, fun n => ⟨Table.get_all .., Table.get_all ..⟩, rfl, rfl, rfl, rfl, rfl⟩
    have stopped : State.reset.cmp.heads.get d = Head.stopped := Table.get_all ..
    have record : State.reset.cmp.active.displays.get d = ⟨defaultDisplays.get d, defaultProfile⟩ := Table.get_tab ..
    rw [stopped, record]
    exact ⟨rfl, Table.get_all .., rfl, rfl⟩
  · exact congrArg Host.Outcome.next (if_pos hreset)

end Sys2Proof.Machine


/-! The heads of the Compositor, and the start of the part at the end of a load (09, R160; 12, R183). -/

namespace Sys2Proof.Machine

/-! ### Heads -/

/-- The state with other heads. -/
def State.withHeads (s : State) (h : Table Head 4) : State := s.setCmp { s.cmp with heads := h }

/-- What an activation of display `d` makes of its head (09, R139, R140, R148). -/
def State.settledHead (s : State) (d : DisplayIx) : Head :=
  let now := s.cmp.active.displays.get d
  if now.record.profile.isNone then Head.stopped
  else ⟨true, now.values, if (s.cmp.heads.get d).running then (s.cmp.heads.get d).values else now.values, some (s.sample (some d))⟩

theorem State.settleHead_eq (s : State) (d : DisplayIx) :
    s.settleHead d = s.withHeads (s.cmp.heads.put d (s.settledHead d)) := by
  unfold State.settleHead State.settledHead
  dsimp only
  split <;> rfl

@[simp] theorem State.withHeads_withHeads (s : State) (h k : Table Head 4) : (s.withHeads h).withHeads k = s.withHeads k := rfl

theorem State.withHeads_settledHead (s : State) {h : Table Head 4} {d : DisplayIx} (same : h.get d = s.cmp.heads.get d) :
    (s.withHeads h).settledHead d = s.settledHead d := by
  have heads : (s.withHeads h).cmp.heads.get d = s.cmp.heads.get d := same
  unfold State.settledHead
  rw [heads]
  rfl

/-- Settling several heads: each is settled from the state as it was. -/
theorem State.foldl_settleHead (s : State) {l : List DisplayIx} (once : l.Nodup) :
    l.foldl State.settleHead s = s.withHeads (Table.tab fun d => if d ∈ l then s.settledHead d else s.cmp.heads.get d) := by
  induction l generalizing s with
  | nil =>
    have same : (Table.tab fun d => if d ∈ ([] : List DisplayIx) then s.settledHead d else s.cmp.heads.get d) = s.cmp.heads :=
      Table.ext_get fun d => by simp
    rw [same]
    rfl
  | cons e l ih =>
    obtain ⟨fresh, once⟩ := List.nodup_cons.mp once
    rw [List.foldl_cons, ih _ once, State.settleHead_eq, State.withHeads_withHeads]
    refine congrArg s.withHeads (Table.ext_get fun d => ?_)
    rw [Table.get_tab, Table.get_tab]
    have heads (d : DisplayIx) : (s.withHeads (s.cmp.heads.put e (s.settledHead e))).cmp.heads.get d =
        if d = e then s.settledHead e else s.cmp.heads.get d := Table.get_put ..
    by_cases hd : d = e
    · subst d
      rw [if_neg fresh, if_pos (List.mem_cons_self ..), heads, if_pos rfl]
    · have kept : (s.withHeads (s.cmp.heads.put e (s.settledHead e))).settledHead d = s.settledHead d :=
        State.withHeads_settledHead s ((heads d).trans (if_neg hd))
      simp only [List.mem_cons, hd, false_or, heads, if_false, kept]

theorem State.foldl_stopHead (s : State) (l : List DisplayIx) :
    l.foldl State.stopHead s = s.withHeads (Table.tab fun d => if d ∈ l then Head.stopped else s.cmp.heads.get d) := by
  induction l generalizing s with
  | nil =>
    have same : (Table.tab fun d => if d ∈ ([] : List DisplayIx) then Head.stopped else s.cmp.heads.get d) = s.cmp.heads :=
      Table.ext_get fun d => by simp
    rw [same]
    rfl
  | cons e l ih =>
    rw [List.foldl_cons, ih]
    refine congrArg s.withHeads (Table.ext_get fun d => ?_)
    have heads : (s.stopHead e).cmp.heads.get d = if d = e then Head.stopped else s.cmp.heads.get d := Table.get_put ..
    rw [Table.get_tab, Table.get_tab, heads]
    by_cases hd : d = e <;> simp [hd]

theorem mem_allDisplays (d : DisplayIx) : d ∈ allDisplays := by revert d; decide

theorem nodup_allDisplays : allDisplays.Nodup := by decide

/-- The state in which no head runs. -/
def State.allStopped (s : State) : State :=
  s.setCmp { s.cmp with heads := Table.all 4 Head.stopped, ds := Head.stopped, shareWritten := false }

theorem State.startHeads_eq (s : State) : s.startHeads =
    let s3 := s.allStopped.withHeads (Table.tab s.allStopped.settledHead)
    if s.tables.shareRecord.isSome then s3.blankShare else s3 := by
  have stopped : (allDisplays.foldl State.stopHead s) = s.withHeads (Table.all 4 Head.stopped) := by
    rw [State.foldl_stopHead]
    refine congrArg s.withHeads (Table.ext_get fun d => ?_)
    rw [Table.get_tab, Table.get_all, if_pos (mem_allDisplays d)]
  have settled : allDisplays.foldl State.settleHead s.allStopped = s.allStopped.withHeads (Table.tab s.allStopped.settledHead) := by
    rw [State.foldl_settleHead _ nodup_allDisplays]
    refine congrArg s.allStopped.withHeads (Table.ext_get fun d => ?_)
    rw [Table.get_tab, Table.get_tab, if_pos (mem_allDisplays d)]
  unfold State.startHeads
  dsimp only
  rw [stopped]
  show (if (allDisplays.foldl State.settleHead s.allStopped).tables.shareRecord.isSome then
    (allDisplays.foldl State.settleHead s.allStopped).blankShare else allDisplays.foldl State.settleHead s.allStopped) = _
  rw [settled]
  rfl

/-- Starting the heads changes the heads, DS and its selection alone (09, R160). -/
theorem State.startHeads_spec (s : State) : s.startHeads = { s with cmp := { s.cmp with
    heads := s.startHeads.cmp.heads, ds := s.startHeads.cmp.ds, shareWritten := false, selection := s.startHeads.cmp.selection } } := by
  rw [State.startHeads_eq]
  dsimp only
  split <;> rfl

theorem State.startHeads_head (s : State) (d : DisplayIx) : s.startHeads.cmp.heads.get d = s.allStopped.settledHead d := by
  rw [State.startHeads_eq]
  dsimp only
  split <;> exact Table.get_tab ..

theorem State.startHeads_ds_running (s : State) : s.startHeads.cmp.ds.running = s.tables.shareRecord.isSome := by
  rw [State.startHeads_eq]
  dsimp only
  split
  next some => rw [some]; rfl
  next none => rw [Bool.eq_false_iff.mpr none]; rfl

/-- A head starts at the values of its active display, unless that is NONE. -/
theorem State.allStopped_settledHead (s : State) (d : DisplayIx) : s.allStopped.settledHead d =
    if (s.cmp.active.displays.get d).record.profile.isNone then Head.stopped
    else ⟨true, (s.cmp.active.displays.get d).values, (s.cmp.active.displays.get d).values, some (s.allStopped.sample (some d))⟩ := by
  have stopped : s.allStopped.cmp.heads.get d = Head.stopped := Table.get_all ..
  unfold State.settledHead
  rw [stopped]
  rfl

/-! ### The part at the end of a load -/

/-- The part at the end of a load, before its events: every block at its power-on values over the sections loaded. -/
def State.started (s : State) (img : Option (List Byte)) : State := ((s.sectionsLoaded img).resetGu 0).resetCmp.startHeads

/-- The Compositor and the GU before the heads start. -/
def State.readyToStart (s : State) (img : Option (List Byte)) : State := ((s.sectionsLoaded img).resetGu 0).resetCmp

theorem State.started_eq (s : State) (img : Option (List Byte)) : s.started img = { s.readyToStart img with
    cmp := { (s.readyToStart img).cmp with
      heads := (s.started img).cmp.heads, ds := (s.started img).cmp.ds, shareWritten := false
      selection := (s.started img).cmp.selection } } :=
  (s.readyToStart img).startHeads_spec

theorem State.powerOn_started (s : State) (img : Option (List Byte)) :
    s.powerOn img = (s.started img).recordDefaulted (loadImage img).2 := s.powerOn_eq img

/-- Recording the set of sections defaulted touches the Profile Loader's record and the event sets alone. -/
theorem State.recordDefaulted_eq (s : State) (d : Byte) : s.recordDefaulted d = { s with
    pl := { s.pl with defaulted := d }, mgi := { s.mgi with events := (s.recordDefaulted d).mgi.events } } := by
  unfold State.recordDefaulted
  dsimp only
  split <;> rfl

theorem State.recordDefaulted_events (s : State) (d : Byte) (n : Slot) : (s.recordDefaulted d).mgi.events.get n =
    if d ≠ 0 ∧ (s.access n).events = true then s.mgi.events.get n ||| 4096 else s.mgi.events.get n := by
  unfold State.recordDefaulted
  dsimp only
  split
  next empty => rw [if_neg (by simp [empty])]; rfl
  next some =>
    rw [State.raiseEvent_events]
    simp only [some, ne_eq, not_false_eq_true, true_and]
    rfl

/-- The part at the end of a load: the tables and layouts of the sections loaded, and every block at its power-on values. -/
theorem State.powerOn_spec (s : State) (img : Option (List Byte)) :
    (s.powerOn img).tables = tablesOf (loadImage img).1 ∧ (s.powerOn img).pl = ⟨.idle, false, img, [], (loadImage img).2⟩ ∧
    (s.powerOn img).flash = s.flash ∧ (s.powerOn img).pending = s.pending ∧
    (s.powerOn img).cmp.layout = (loadImage img).1.layout.layout ∧
    (s.powerOn img).cmp.active = activeOf (loadImage img).1.layout.profiles (loadImage img).1.layout.layout ∧
    (s.powerOn img).cmp.armed = Table.all 4 none ∧
    (s.powerOn img).fc = Fc.reset (loadImage img).1.input.general.startSlot (loadImage img).1.input.general.follow ∧
    (s.powerOn img).gu = (s.readyToStart img).gu ∧ (s.powerOn img).ports = Table.all 8 Port.reset ∧
    (s.powerOn img).bank = (s.readyToStart img).bank ∧ (s.powerOn img).cmp.heads = (s.started img).cmp.heads ∧
    (s.powerOn img).cmp.ds = (s.started img).cmp.ds := by
  rw [State.powerOn_started, State.recordDefaulted_eq, State.started_eq]
  exact ⟨rfl, rfl, rfl, rfl, rfl, rfl, rfl, rfl, rfl, rfl, rfl, rfl, rfl⟩

theorem State.powerOn_events (s : State) (img : Option (List Byte)) (n : Slot) : (s.powerOn img).mgi.events.get n =
    if (loadImage img).2 ≠ 0 ∧ ((loadImage img).1.access.get n).events = true then 4096 else 0 := by
  have none : (s.started img).mgi.events.get n = 0 := by
    rw [State.started_eq]
    exact Table.get_all ..
  have access : (s.started img).access n = (loadImage img).1.access.get n := by
    rw [State.started_eq]
    rfl
  rw [State.powerOn_started, State.recordDefaulted_events, none, access]
  simp

theorem State.powerOn_link (s : State) (img : Option (List Byte)) (n : Slot) : (s.powerOn img).link n = .off := by
  obtain ⟨-, -, -, -, -, -, -, -, -, ports, -⟩ := s.powerOn_spec img
  rw [State.link, State.port, ports, Table.get_all]
  rfl

/-- The head of an enabled display starts at the values of its profile, that of one that is NONE stays. -/
theorem State.powerOn_head (s : State) (img : Option (List Byte)) (d : DisplayIx) :
    ((s.powerOn img).cmp.heads.get d).running = ((loadImage img).1.layout.layout.displays.get d).profile.isSome ∧
    (((loadImage img).1.layout.layout.displays.get d).profile.isSome = true → ((s.powerOn img).cmp.heads.get d).values =
      profileValues (loadImage img).1.layout.profiles ((loadImage img).1.layout.layout.displays.get d)) := by
  have heads : (s.powerOn img).cmp.heads.get d = (s.readyToStart img).allStopped.settledHead d := by
    rw [State.powerOn_started, State.recordDefaulted_eq]
    exact (s.readyToStart img).startHeads_head d
  have active : (s.readyToStart img).cmp.active.displays.get d = ⟨(loadImage img).1.layout.layout.displays.get d,
      profileValues (loadImage img).1.layout.profiles ((loadImage img).1.layout.layout.displays.get d)⟩ := Table.get_tab ..
  rw [heads, State.allStopped_settledHead, active]
  cases ((loadImage img).1.layout.layout.displays.get d).profile <;> simp [Head.stopped]

theorem State.powerOn_share (s : State) (img : Option (List Byte)) :
    (s.powerOn img).cmp.ds.running = (loadImage img).1.layout.shareRecord.isSome := by
  rw [State.powerOn_started, State.recordDefaulted_eq]
  exact (s.readyToStart img).startHeads_ds_running

/-- The end of a load runs the part up from what the flash holds (12, R182, R183; L26). -/
theorem State.loadEnds_of_loading {s : State} (hreset : s.resetLine = false) (h : s.pl.loader = .loading)
    (changed : List Host.Cell) : s.loadEnds changed =
      (s.setFlash (s.flash.change changed)).powerOn (if s.pl.flashBusy then none else (s.flash.change changed).image) :=
  if_pos ⟨hreset, h⟩

/-! ### The defaults -/

/-- The active layout of the defaults: P's place is the centre of D0, on tile 0, in slot 0's window. -/
theorem defaultLayout_firstRect :
    (activeOf defaultSections.layout.profiles defaultSections.layout.layout).firstRect = some ⟨-3840, 0, 1920, 1080⟩ := by decide

theorem defaultLayout_tileAt :
    (activeOf defaultSections.layout.profiles defaultSections.layout.layout).tileAt (-2880) 540 = some 0 := by decide

/-- P after a reset is the centre of the lowest-numbered enabled display (03, R44). -/
theorem State.resetGu_place {s : State} {r : Rect} (h : s.cmp.active.firstRect = some r) (held : Buttons) :
    (s.resetGu held).gu.px = r.centreX ∧ (s.resetGu held).gu.py = r.centreY ∧
    (s.resetGu held).gu.pointerSlot = s.slotOfTile (s.cmp.active.tileAt r.centreX r.centreY) := by
  unfold State.resetGu
  rw [h]
  exact ⟨rfl, rfl, rfl⟩

/-- Settles O6: without an image the sections are the defaults, and all eight are recorded as defaulted. -/
theorem loadEndWithoutAValidImage : Obligations.LoadEndWithoutAValidImage := by
  intro s changed hreset hloading hbad
  have image : (if s.pl.flashBusy then none else (s.flash.change changed).image) = none := by
    rcases hbad with busy | invalid
    · exact if_pos busy
    · rw [invalid, ite_self]
  refine ⟨_, congrArg Host.Outcome.next (State.loadEnds_of_loading hreset hloading changed), ?_⟩
  rw [image]
  generalize hu : s.setFlash (s.flash.change changed) = u
  obtain ⟨tables, pl, flash, pending, -, -, -, fc, gu, -, bank, -, -⟩ := u.powerOn_spec none
  have place := State.resetGu_place (s := u.sectionsLoaded none) defaultLayout_firstRect 0
  have slot : (u.sectionsLoaded none).slotOfTile ((u.sectionsLoaded none).cmp.active.tileAt (-2880) 540) = some 0 := by
    show (u.sectionsLoaded none).slotOfTile
      ((activeOf defaultSections.layout.profiles defaultSections.layout.layout).tileAt (-2880) 540) = some 0
    rw [defaultLayout_tileAt]
    rfl
  have record (d : DisplayIx) : (defaultSections.layout.layout.displays.get d).profile = some 0 := by
    show (defaultDisplays.get d).profile = some 0
    rw [defaultDisplays, Table.get_tab]
  refine ⟨tables, u.powerOn_taking none, by rw [pl], by rw [pl], by rw [pl]; rfl, by rw [flash, ← hu]; rfl,
    by rw [pending, ← hu]; rfl, fun n => ⟨?_, u.powerOn_link none n⟩, by rw [fc]; rfl, by rw [fc]; rfl,
    by rw [gu]; exact place.1, by rw [gu]; exact place.2.1, by rw [gu]; exact place.2.2.trans slot, by rw [bank]; rfl, fun d => ?_, ?_⟩
  · rw [State.powerOn_events]
    have holds : (defaultSections.access.get n).events = true := by revert n; decide
    exact if_pos ⟨by decide, holds⟩
  · obtain ⟨running, values⟩ := u.powerOn_head none d
    refine ⟨running.trans (by rw [show loadImage none = (defaultSections, 0xFF) from rfl, record d]; rfl), ?_⟩
    rw [values (by rw [show loadImage none = (defaultSections, 0xFF) from rfl, record d]; rfl),
      show loadImage none = (defaultSections, 0xFF) from rfl, profileValues, record d]
    rfl
  · rw [State.powerOn_share]
    rfl

end Sys2Proof.Machine


/-! The records of the sections read back as they are written (13, R189, R191). -/

namespace Sys2Proof.Machine

/-! ### Fields -/

theorem half_halfBytes {n : Nat} (h : n < 65536) : half (byte n) (byte (n / 256)) = n := by
  simp only [half, byte, BitVec.toNat_ofNat]
  omega

theorem signedHalf_signedHalfBytes {v : Int} (hmin : -32768 ≤ v) (hmax : v < 32768) :
    signedHalf (byte (BitVec.ofInt 16 v).toNat) (byte ((BitVec.ofInt 16 v).toNat / 256)) = v := by
  rw [signedHalf, half_halfBytes (BitVec.ofInt 16 v).isLt, BitVec.ofNat_toNat, BitVec.setWidth_eq, BitVec.toInt_ofInt,
    Int.bmod_eq_of_le] <;> omega

theorem flags_getLsbD (l : List Bool) {i : Nat} (h : i < 8) : (flags l).getLsbD i = l.getD i false := by
  induction l generalizing i with
  | nil => simp [flags]
  | cons b l ih =>
    simp only [flags, byte, BitVec.getLsbD_ofNat, h, decide_true, Bool.true_and]
    cases i with
    | zero => cases b <;> simp [Nat.add_mod]
    | succ i =>
      have rest : ((if b then 1 else 0) + 2 * (flags l).toNat) / 2 = (flags l).toNat := by split <;> omega
      rw [Nat.testBit_succ, rest]
      exact ih (by omega)

theorem below_eq {n : Nat} (hn : n ≤ 256) (i : Fin n) : below n (byte i.val).toNat = some i := by
  rw [byte_toNat_of_lt (by omega), below, dif_pos i.isLt]

theorem noneOr_orNone {n : Nat} (hn : n ≤ 255) (x : Option (Fin n)) : noneOr n (orNone x) = some x := by
  cases x with
  | none => exact noneOr_none n
  | some i => exact noneOr_index hn i

theorem clampNat_of_within {lo hi n : Nat} (hlo : lo ≤ n) (hhi : n ≤ hi) : clampNat lo hi n = n := by
  rw [clampNat, if_neg (by omega), if_neg (by omega)]

theorem keyCodeOk_iff (k : Byte) : keyCodeOk k = true ↔ 4 ≤ k.toNat ∧ k.toNat ≤ 223 := decide_eq_true_iff

/-! ### Records -/

theorem accessOf_bytes (e : AccessEntry) : accessOf e.bytes = some e := by
  simp only [AccessEntry.bytes, accessOf]
  rw [flags_getLsbD _ (by decide), flags_getLsbD _ (by decide), flags_getLsbD _ (by decide), flags_getLsbD _ (by decide),
    flags_getLsbD _ (by decide)]
  rfl

/-- The chords of a slot record are the pairs written, whatever pads the field. -/
theorem chordsOf_bytes (l : List Chord) (padding : List Byte) :
    chordsOf l.length ((l.flatMap fun c => [c.mods, c.key]) ++ padding) = l := by
  induction l with
  | nil => rfl
  | cons c l ih => simp only [List.flatMap_cons, List.cons_append, List.nil_append, List.length_cons, chordsOf, ih]

theorem slotRecordOf_bytes {r : SlotRecord} (hmin : 1 ≤ r.gain) (hmax : r.gain ≤ 64) (few : r.blocked.length ≤ 4)
    (keys : ∀ c ∈ r.blocked, 4 ≤ c.key.toNat ∧ c.key.toNat ≤ 223) : slotRecordOf r.bytes = some r := by
  have count : (byte r.blocked.length).toNat = r.blocked.length := byte_toNat_of_lt (by omega)
  have gain : clampNat 1 64 (byte r.gain).toNat = r.gain := by
    rw [byte_toNat_of_lt (by omega), clampNat_of_within hmin hmax]
  have good : (r.blocked.any fun c => !keyCodeOk c.key) = false := by
    simpa [keyCodeOk_iff] using keys
  have policy : (if decide (r.policy = .discard) = true then HoldPolicy.discard else .keep) = r.policy := by
    cases r.policy <;> rfl
  simp only [SlotRecord.bytes, padTo, List.cons_append, List.nil_append, slotRecordOf, count, chordsOf_bytes, good,
    below_eq (n := 4) (by decide), gain]
  rw [if_neg (by simp [Nat.not_lt.mpr few]), flags_getLsbD _ (by decide), flags_getLsbD _ (by decide),
    flags_getLsbD _ (by decide), flags_getLsbD _ (by decide), BitVec.setWidth_setWidth_of_le _ (by decide), BitVec.setWidth_eq]
  exact congrArg (fun p => some { r with policy := p }) policy

theorem sourceRecordOf_bytes {r : SourceRecord} (hx : r.ax0 < r.ax1) (hx1 : r.ax1 ≤ 32767) (hy : r.ay0 < r.ay1)
    (hy1 : r.ay1 ≤ 32767) (hstill : r.stillThreshold ≤ 4095) : sourceRecordOf r.bytes = some r := by
  simp only [SourceRecord.bytes, halfBytes, List.cons_append, List.nil_append, sourceRecordOf, noneOr_orNone (n := 8) (by decide)]
  rw [half_halfBytes (by omega), half_halfBytes (by omega), half_halfBytes (by omega), half_halfBytes (by omega),
    half_halfBytes (by omega), if_neg (by omega), clampNat_of_within (by omega) hstill]

theorem onPlane_iff (v : Int) : onPlane v = true ↔ -4096 ≤ v ∧ v ≤ 4095 := decide_eq_true_iff

theorem displayRecordOf_bytes {r : DisplayRecord} (hx : -4096 ≤ r.ox) (hx1 : r.ox ≤ 4095) (hy : -4096 ≤ r.oy)
    (hy1 : r.oy ≤ 4095) : displayRecordOf r.bytes = some r := by
  simp only [DisplayRecord.bytes, signedHalfBytes, halfBytes, List.cons_append, List.nil_append, displayRecordOf,
    noneOr_orNone (n := 8) (by decide)]
  rw [signedHalf_signedHalfBytes (by omega) (by omega), signedHalf_signedHalfBytes (by omega) (by omega),
    if_pos ⟨(onPlane_iff _).mpr ⟨hx, hx1⟩, (onPlane_iff _).mpr ⟨hy, hy1⟩⟩]

theorem pointerModeOf_code (m : PointerMode) : pointerModeOf m.code = some m := by cases m <;> rfl

theorem cursorModeOf_code (m : CursorMode) : cursorModeOf m.code = some m := by cases m <;> rfl

theorem tileRecordOf_bytes {t : TileRecord} (hx : t.x ≤ 4095) (hy : t.y ≤ 4095) (hw : 1 ≤ t.w) (hw1 : t.w ≤ 4096)
    (hh : 1 ≤ t.h) (hh1 : t.h ≤ 4096) (hb : t.border ≤ 8) : tileRecordOf t.bytes = some t := by
  simp only [TileRecord.bytes, halfBytes, List.cons_append, List.nil_append, tileRecordOf, below_eq (n := 4) (by decide),
    below_eq (n := 16) (by decide), pointerModeOf_code, cursorModeOf_code]
  rw [half_halfBytes (by omega), half_halfBytes (by omega), half_halfBytes (by omega), half_halfBytes (by omega),
    if_pos ⟨hx, hy, hw, hw1, hh, hh1⟩, byte_toNat_of_lt (by omega), clampNat_of_within (Nat.zero_le _) hb,
    flags_getLsbD _ (by decide)]
  rfl

theorem profileOf_bytes {v : FrameValues} (hw : 640 ≤ v.width) (hw1 : v.width ≤ 3840) (h8 : v.width % 8 = 0)
    (hh : 480 ≤ v.height) (hh1 : v.height ≤ 2160) (hr : 24 ≤ v.refresh) (hr1 : v.refresh ≤ 144) :
    profileOf v.bytes = some v := by
  simp only [FrameValues.bytes, halfBytes, List.cons_append, List.nil_append, profileOf]
  rw [half_halfBytes (by omega), half_halfBytes (by omega), byte_toNat_of_lt (by omega), clampNat_of_within hw hw1,
    clampNat_of_within hh hh1, clampNat_of_within hr hr1, Nat.div_mul_cancel (Nat.dvd_of_mod_eq_zero h8)]

theorem windowOf_bytes (w : KeyWindow) : windowOf w.bytes = some w := by
  simp [KeyWindow.bytes, windowOf, below_eq (n := 8) (by decide)]

theorem generalOf_bytes {g : GeneralInput} (hlead : 4 ≤ g.leadKey.toNat) (hlead1 : g.leadKey.toNat ≤ 223)
    (hspeed : 1 ≤ g.deskSpeed) (hspeed1 : g.deskSpeed ≤ 64) : generalOf g.bytes = some g := by
  have lead : keyCodeOk g.leadKey = true := (keyCodeOk_iff _).mpr ⟨hlead, hlead1⟩
  have speed : clampNat 1 64 (byte g.deskSpeed).toNat = g.deskSpeed := by
    rw [byte_toNat_of_lt (by omega), clampNat_of_within hspeed hspeed1]
  simp only [GeneralInput.bytes, generalOf, below_eq (n := 8) (by decide), lead, speed]
  obtain ⟨leadKey, mode, deskSpeed, startSlot⟩ := g
  cases mode <;> rfl

theorem hotSpotOf_bytes {h : HotSpot} (hx : h.hx ≤ 31) (hy : h.hy ≤ 31) : hotSpotOf h.bytes = some h := by
  simp only [HotSpot.bytes, hotSpotOf]
  rw [byte_toNat_of_lt (by omega), byte_toNat_of_lt (by omega), clampNat_of_within (Nat.zero_le _) hx,
    clampNat_of_within (Nat.zero_le _) hy]

theorem timingOf_bytes (t : TimingEntry) : timingOf t.bytes = some t := by
  simp [TimingEntry.bytes, timingOf]

/-! ### Hotkey entries -/

theorem actionOf_code (a : Action) : actionOf a.code = some a := by cases a <;> rfl

theorem argumentOf_wake_number (n : Fin 8) : argumentOf .wake (Argument.number n).code = some (.number n) := by
  revert n; decide

theorem argumentOf_preset_number {n : Fin 8} (h : n.val < 4) : argumentOf .preset (Argument.number n).code = some (.number n) := by
  revert n; decide

theorem argumentOf_share_number {n : Fin 8} (h : n.val < 4) : argumentOf .share (Argument.number n).code = some (.number n) := by
  revert n; decide

/-- An argument that an action takes is read back for it. -/
theorem argumentOf_code {a : Action} {b : Byte} {x : Argument} (h : argumentOf a b = some x) :
    argumentOf a x.code = some x := by
  have number {y : Argument} (hy : (below 8 b.toNat).map Argument.number = some y) :
      ∃ n : Fin 8, n.val = b.toNat ∧ y = .number n := by
    obtain ⟨n, hn, rfl⟩ := Option.map_eq_some_iff.mp hy
    unfold below at hn
    split at hn
    · exact ⟨n, (congrArg Fin.val (Option.some.inj hn)).symm, rfl⟩
    · cases hn
  cases a with
  | select =>
    obtain ⟨n, -, rfl⟩ := number h
    simp [argumentOf, Argument.code, below_eq (n := 8) (by decide)]
  | wake =>
    simp only [argumentOf] at h
    split at h
    · obtain rfl := Option.some.inj h
      rfl
    · obtain ⟨n, -, rfl⟩ := number h
      exact argumentOf_wake_number n
  | preset =>
    simp only [argumentOf] at h
    split at h
    · obtain ⟨n, hn, rfl⟩ := number h
      exact argumentOf_preset_number (by omega)
    · cases h
  | share =>
    simp only [argumentOf] at h
    split at h
    · obtain rfl := Option.some.inj h
      rfl
    · split at h
      · obtain ⟨n, hn, rfl⟩ := number h
        exact argumentOf_share_number (by omega)
      · cases h
  | next | previous | attend | dismiss | wakeAll | glideLock | follow | passNext =>
    obtain rfl := Option.some.inj h
    rfl

/-- What a decoded hotkey entry is made of. -/
theorem hotkeyOf_eq_some {b : List Byte} {e : Hotkey} (h : hotkeyOf b = some e) :
    keyCodeOk e.key = true ∧ (e.kind = .command → e.key ≠ 41 ∧ e.mods = 0 ∧ e.sideFree = false) ∧
    (e.kind = .chord → e.stay = false) ∧ argumentOf e.action e.argument.code = some e.argument := by
  unfold hotkeyOf at h
  split at h
  next f mods key act arg =>
    simp only at h
    split at h
    · cases h
    next action _ =>
      split at h
      · cases h
      next argument hargument =>
        split at h
        · cases h
        next good =>
          obtain rfl := Option.some.inj h
          have argument := argumentOf_code hargument
          cases hc : f.getLsbD 1 <;> simp_all
  · cases h

theorem hotkeyOf_bytes {b : List Byte} {e : Hotkey} (h : hotkeyOf b = some e) : hotkeyOf e.bytes = some e := by
  obtain ⟨key, command, chord, argument⟩ := hotkeyOf_eq_some h
  simp only [Hotkey.bytes, hotkeyOf, actionOf_code, argument]
  rw [flags_getLsbD _ (by decide), flags_getLsbD _ (by decide), flags_getLsbD _ (by decide), flags_getLsbD _ (by decide)]
  obtain ⟨enabled, kind, mods, sideFree, code, action, x, stay⟩ := e
  cases kind with
  | chord =>
    obtain rfl : stay = false := chord rfl
    simp_all
  | command =>
    obtain ⟨notEscape, rfl, rfl⟩ := command rfl
    simp_all

/-- Settles O51, record by record. -/
theorem recordsReadBackAsWritten : Obligations.RecordsReadBackAsWritten :=
  ⟨accessOf_bytes, fun _ => slotRecordOf_bytes, fun _ => sourceRecordOf_bytes, fun _ => displayRecordOf_bytes,
    fun _ => tileRecordOf_bytes, fun _ => profileOf_bytes, windowOf_bytes, fun _ => generalOf_bytes, fun _ => hotSpotOf_bytes,
    timingOf_bytes, fun _ _ => hotkeyOf_bytes⟩

end Sys2Proof.Machine


/-! How a load judges the sections of an image (12, R182, R184). -/

namespace Sys2Proof.Machine

/-! ### Records of a section -/

/-- Decoding pieces of one size gives the records at their places. -/
theorem mapM_chunks_eq_some {α : Type} {n size : Nat} {dec : List Byte → Option α} {l : List Byte} {r : List α} :
    (chunks size n l).mapM dec = some r ↔
      r.length = n ∧ ∀ (i : Nat) (h : i < r.length), dec ((l.drop (size * i)).take size) = some r[i] := by
  induction n generalizing l r with
  | zero =>
    simp only [chunks, List.mapM_nil, Option.pure_def, Option.some.injEq]
    constructor
    · rintro rfl
      exact ⟨rfl, nofun⟩
    · exact fun ⟨empty, _⟩ => (List.length_eq_zero_iff.mp empty).symm
  | succ n ih =>
    have place (i : Nat) : (l.drop size).drop (size * i) = l.drop (size * (i + 1)) := by
      rw [List.drop_drop, Nat.mul_succ, Nat.add_comm]
    simp only [chunks, List.mapM_cons, Option.pure_def, Option.bind_eq_bind, Option.bind_eq_some_iff, Option.some.injEq, ih]
    constructor
    · rintro ⟨x, hx, xs, ⟨hlength, hxs⟩, rfl⟩
      refine ⟨by rw [List.length_cons, hlength], fun i hi => ?_⟩
      cases i with
      | zero => exact hx
      | succ i =>
        rw [← place]
        exact hxs i (Nat.lt_of_succ_lt_succ hi)
    · rintro ⟨hlength, hr⟩
      cases r with
      | nil => cases hlength
      | cons x xs =>
        refine ⟨x, hr 0 (Nat.succ_pos _), xs, ⟨Nat.succ.inj hlength, fun i hi => ?_⟩, rfl⟩
        rw [place]
        exact hr (i + 1) (Nat.succ_lt_succ hi)

theorem tableOf_toList {α : Type} {n : Nat} (t : Table α n) : tableOf n t.toList = some t := by
  rw [tableOf, dif_pos Vector.length_toList]
  rfl

/-- A section's records: each piece of its bytes decodes to the record at its place. -/
theorem recordsOf_eq_some_iff {α : Type} {n size : Nat} {dec : List Byte → Option α} {l : List Byte} {t : Table α n} :
    recordsOf n size dec l = some t ↔ ∀ i : Fin n, dec ((l.drop (size * i.val)).take size) = some (t.get i) := by
  simp only [recordsOf, Option.bind_eq_some_iff]
  constructor
  · rintro ⟨r, hr, ht⟩ i
    obtain rfl := tableOf_eq_some ht
    exact (mapM_chunks_eq_some.mp hr).2 i.val (by simp)
  · intro h
    refine ⟨t.toList, mapM_chunks_eq_some.mpr ⟨Vector.length_toList, fun i hi => ?_⟩, tableOf_toList t⟩
    exact h ⟨i, by simpa using hi⟩

theorem Table.any_iff {α : Type} {n : Nat} (t : Table α n) (p : α → Bool) : t.toList.any p = true ↔ ∃ i, p (t.get i) = true := by
  rw [List.any_eq_true]
  constructor
  · rintro ⟨x, hx, hp⟩
    obtain ⟨i, hi, rfl⟩ := Vector.mem_iff_getElem.mp (Vector.mem_toList_iff.mp hx)
    exact ⟨⟨i, hi⟩, hp⟩
  · rintro ⟨i, hp⟩
    exact ⟨t.get i, Vector.mem_toList_iff.mpr (Vector.getElem_mem i.isLt), hp⟩

theorem hasAccessWriter_iff (t : Table AccessEntry 8) :
    hasAccessWriter t = true ↔ ∃ n, (t.get n).writeRights.getLsbD 0 = true := Table.any_iff t _

theorem holdsKey_eq_false_iff (t : Table Hotkey 32) (k : Byte) : holdsKey t k = false ↔ ∀ e, (t.get e).key ≠ k := by
  rw [← Bool.not_eq_true, holdsKey, Table.any_iff t]
  simp

theorem accessSection_iff (l : List Byte) (t : Table AccessEntry 8) : accessSection l = some t ↔
    (∀ n : Slot, accessOf ((l.drop (3 * n.val)).take 3) = some (t.get n)) ∧ ∃ n, (t.get n).writeRights.getLsbD 0 = true := by
  rw [accessSection, Option.filter_eq_some_iff, recordsOf_eq_some_iff, hasAccessWriter_iff]

theorem layoutOf_iff (l : List Byte) (y : Layout) : layoutOf l = some y ↔
    (∀ d : DisplayIx, displayRecordOf ((l.drop (5 * d.val)).take 5) = some (y.displays.get d)) ∧
      ∀ i : TileIx, tileRecordOf (((l.drop 20).drop (14 * i.val)).take 14) = some (y.tiles.get i) := by
  rw [← recordsOf_eq_some_iff, ← recordsOf_eq_some_iff, layoutOf]
  constructor
  · intro h
    split at h
    next d t hd ht =>
      obtain rfl := Option.some.inj h
      exact ⟨hd, ht⟩
    · cases h
  · rintro ⟨hd, ht⟩
    rw [hd, ht]

theorem layoutSection_iff (l : List Byte) (x : LayoutSection) : layoutSection l = some x ↔
    ∃ y : Layout, layoutOf l = some y ∧ recordsOf 8 5 profileOf (l.drop 244) = some x.profiles ∧
      shareRecordOf (l.drop 284) = some x.shareRecord ∧ x.layout = clipLayout x.profiles (fun _ => true) y ∧
      (activeOf x.profiles x.layout).conflicts = false := by
  rw [layoutSection]
  constructor
  · intro h
    split at h
    next y profiles share hy hp hs =>
      dsimp only at h
      split at h
      · cases h
      next apart =>
        obtain rfl := Option.some.inj h
        exact ⟨y, hy, hp, hs, rfl, Bool.eq_false_iff.mpr apart⟩
    · cases h
  · rintro ⟨y, hy, hp, hs, clipped, apart⟩
    rw [hy, hp, hs]
    dsimp only
    rw [← clipped, apart]
    rfl

theorem inputSection_iff (l : List Byte) (x : InputSection) : inputSection l = some x ↔
    recordsOf 32 5 hotkeyOf l = some x.hotkeys ∧ recordsOf 4 3 windowOf (l.drop 160) = some x.windows ∧
      generalOf (l.drop 172) = some x.general ∧ holdsKey x.hotkeys x.general.leadKey = false ∧
      anyCollision x.hotkeys.toList = false := by
  rw [inputSection]
  constructor
  · intro h
    split at h
    next hotkeys windows general hh hw hg =>
      split at h
      · cases h
      next lawful =>
        obtain rfl := Option.some.inj h
        rw [not_or, Bool.not_eq_true, Bool.not_eq_true] at lawful
        exact ⟨hh, hw, hg, lawful⟩
    · cases h
  · rintro ⟨hh, hw, hg, free, apart⟩
    rw [hh, hw, hg]
    dsimp only
    rw [free, apart]
    rfl

/-! ### Sections judged -/

theorem missing_getLsbD {α : Type} {code i : Nat} (x : Option α) (hc : code < 8) (hi : i < 8) :
    (missing code x).getLsbD i = (decide (i = code) && x.isNone) := by
  have bits : ∀ c : Fin 8, ∀ j : Fin 8, (1#8 <<< c.val).getLsbD j.val = decide (j.val = c.val) := by decide
  have bit := bits ⟨code, hc⟩ ⟨i, hi⟩
  unfold missing
  cases x with
  | none => simpa using bit
  | some a => simp

theorem sectionJudged_of {α : Type} {img : List Byte} {code length : Nat} {decode : List Byte → Option α} {dflt stored : α}
    {bit : Bool} (hstored : stored = ((sectionBytes img code length).bind decode).getD dflt)
    (hbit : bit = ((sectionBytes img code length).bind decode).isNone) :
    SectionJudged img code length decode dflt stored bit := by
  subst hstored hbit
  have stands (h : (mapEntry img code).2 = length) :
      sectionBytes img code length = some ((img.drop (mapEntry img code).1).take length) := by
    rw [sectionBytes, if_pos h, h]
  refine ⟨fun x hlength hx => ?_, fun h => ?_⟩
  · rw [stands hlength, Option.bind_some, hx]
    exact ⟨rfl, rfl⟩
  · have none : (sectionBytes img code length).bind decode = none := by
      by_cases hlength : (mapEntry img code).2 = length
      · rw [stands hlength, Option.bind_some]
        exact h.resolve_left (not_not_intro hlength)
      · rw [sectionBytes, if_neg hlength]
        rfl
    rw [none]
    exact ⟨rfl, rfl⟩

theorem missing_some {α : Type} (code : Nat) (x : α) : missing code (some x) = 0 := rfl

/-- The set of sections defaulted, bit by bit (12, R184). -/
theorem loadValid_defaulted (img : List Byte) :
    (loadValid img).2.getLsbD 0 = ((sectionBytes img 0 24).bind accessSection).isNone ∧
    (loadValid img).2.getLsbD 1 = ((sectionBytes img 1 104).bind (recordsOf 8 13 slotRecordOf)).isNone ∧
    (loadValid img).2.getLsbD 2 = ((sectionBytes img 2 176).bind (recordsOf 16 11 sourceRecordOf)).isNone ∧
    (loadValid img).2.getLsbD 3 = ((sectionBytes img 3 285).bind layoutSection).isNone ∧
    (loadValid img).2.getLsbD 4 = ((sectionBytes img 4 976).bind presetsSection).isNone ∧
    (loadValid img).2.getLsbD 5 = ((sectionBytes img 5 176).bind inputSection).isNone ∧
    (loadValid img).2.getLsbD 6 = ((sectionBytes img 6 1066).bind appearanceSection).isNone ∧
    (loadValid img).2.getLsbD 7 = ((sectionBytes img 7 14).bind (recordsOf 7 2 timingOf)).isNone := by
  simp [loadValid, BitVec.getLsbD_or, missing_getLsbD, -BitVec.getLsbD_eq_getElem]

end Sys2Proof.Machine


/-! The image a save takes loads back to the tables it was taken of (12, R186; 13, R193). -/

namespace Sys2Proof.Machine

/-! ### Pieces of an image -/

/-- The bytes of one section stand at the sum of the lengths before it. -/
theorem flatten_slice (l : List (List Byte)) (i : Nat) (h : i < l.length) :
    (l.flatten.drop ((l.map List.length).take i).sum).take l[i].length = l[i] := by
  induction l generalizing i with
  | nil => cases h
  | cons a l ih =>
    cases i with
    | zero => simp
    | succ i =>
      have rest := ih i (Nat.lt_of_succ_lt_succ h)
      rw [List.map_cons, List.take_succ_cons, List.sum_cons, List.flatten_cons, ← List.drop_drop, List.drop_left]
      exact rest

theorem flatMap_slice {α : Type} {f : α → List Byte} {size : Nat} {l : List α} (h : ∀ x ∈ l, (f x).length = size)
    (rest : List Byte) (i : Nat) (hi : i < l.length) : ((l.flatMap f ++ rest).drop (size * i)).take size = f l[i] := by
  induction l generalizing i with
  | nil => cases hi
  | cons a l ih =>
    have first : (f a).length = size := h a (List.mem_cons_self ..)
    cases i with
    | zero => rw [Nat.mul_zero, List.drop_zero, List.flatMap_cons, List.append_assoc, ← first, List.take_left]; rfl
    | succ i =>
      rw [List.flatMap_cons, List.append_assoc, Nat.mul_succ, Nat.add_comm, ← List.drop_drop, ← first, List.drop_left, first]
      exact ih (fun x hx => h x (List.mem_cons_of_mem _ hx)) i (Nat.lt_of_succ_lt_succ hi)

/-- Records that read back one by one read back as a section, whatever follows them. -/
theorem recordsOf_flatMap {α : Type} {n size : Nat} {dec : List Byte → Option α} {f : α → List Byte} {t : Table α n}
    (hsize : ∀ i, (f (t.get i)).length = size) (hback : ∀ i, dec (f (t.get i)) = some (t.get i)) (rest : List Byte) :
    recordsOf n size dec (t.toList.flatMap f ++ rest) = some t := by
  have each : ∀ x ∈ t.toList, (f x).length = size := by
    intro x hx
    obtain ⟨i, hi, rfl⟩ := Vector.mem_iff_getElem.mp (Vector.mem_toList_iff.mp hx)
    exact hsize ⟨i, hi⟩
  refine recordsOf_eq_some_iff.mpr fun i => ?_
  rw [flatMap_slice each rest i.val (by simp)]
  exact hback i

/-- The same for a section of nothing but its records. -/
theorem recordsOf_flatMap_nil {α : Type} {n size : Nat} {dec : List Byte → Option α} {f : α → List Byte} {t : Table α n}
    (hsize : ∀ i, (f (t.get i)).length = size) (hback : ∀ i, dec (f (t.get i)) = some (t.get i)) :
    recordsOf n size dec (t.toList.flatMap f) = some t := by
  rw [← List.append_nil (t.toList.flatMap f)]
  exact recordsOf_flatMap hsize hback []

/-- What stands after a part of known length. -/
theorem drop_after {l : List Byte} {k : Nat} (h : l.length = k) (rest : List Byte) : (l ++ rest).drop k = rest := by
  rw [← h, List.drop_left]

/-! ### The sections read back -/

theorem layoutOf_layoutBytes {y : Layout} (hd : ∀ d, displayRecordOf (y.displays.get d).bytes = some (y.displays.get d))
    (ht : ∀ i, tileRecordOf (y.tiles.get i).bytes = some (y.tiles.get i)) (rest : List Byte) :
    layoutOf (layoutBytes y.displays.toList y.tiles.toList ++ rest) = some y := by
  have displays := length_flatMap_toList y.displays DisplayRecord.bytes 5 fun _ => rfl
  rw [layoutBytes, List.append_assoc, layoutOf_iff, ← recordsOf_eq_some_iff, ← recordsOf_eq_some_iff, drop_after displays]
  exact ⟨recordsOf_flatMap (fun _ => rfl) hd _, recordsOf_flatMap (fun _ => rfl) ht _⟩

/-- The LAYOUT section a save takes. -/
theorem layoutSection_saved {s : State} (h : RecordsReadBack s) :
    layoutSection (layoutBytes s.activeRecords.displays.toList s.activeRecords.tiles.toList ++
      (s.tables.profiles.toList.flatMap FrameValues.bytes ++ [orNone s.tables.shareRecord])) =
      some ⟨s.activeRecords, s.tables.profiles, s.tables.shareRecord⟩ := by
  obtain ⟨-, -, displays, tiles, profiles, -, -, -, -, -, -, -, -, clipped, apart⟩ := h
  have layout : (layoutBytes s.activeRecords.displays.toList s.activeRecords.tiles.toList).length = 244 := layoutBytes_length _ _
  have values := length_flatMap_toList s.tables.profiles FrameValues.bytes 5 fun _ => rfl
  refine (layoutSection_iff _ _).mpr ⟨s.activeRecords, layoutOf_layoutBytes displays tiles _, ?_, ?_, clipped.symm, apart⟩
  · rw [drop_after layout]
    exact recordsOf_flatMap (fun _ => rfl) profiles _
  · rw [show 284 = 244 + 40 from rfl, ← List.drop_drop, drop_after layout, drop_after values]
    exact noneOr_orNone (by decide) _

theorem presetsSection_saved {s : State} (h : RecordsReadBack s) :
    presetsSection (s.tables.presets.toList.flatMap fun p => layoutBytes p.displays.toList p.tiles.toList) =
      some s.tables.presets := by
  obtain ⟨-, -, -, -, -, displays, tiles, -⟩ := h
  refine recordsOf_flatMap_nil (fun _ => layoutBytes_length _ _) fun p => ?_
  have back := layoutOf_layoutBytes (displays p) (tiles p) []
  rwa [List.append_nil] at back

/-- The INPUT section a save takes. -/
theorem inputSection_saved {s : State} (h : RecordsReadBack s) :
    inputSection (s.tables.hotkeys.toList.flatMap Hotkey.bytes ++ (s.tables.windows.toList.flatMap KeyWindow.bytes ++
      s.general.bytes)) = some ⟨s.tables.hotkeys, s.tables.windows, s.general⟩ := by
  obtain ⟨-, -, -, -, -, -, -, hotkeys, general, -, -, apart, free, -⟩ := h
  have entries := length_flatMap_toList s.tables.hotkeys Hotkey.bytes 5 fun _ => rfl
  have windows := length_flatMap_toList s.tables.windows KeyWindow.bytes 3 fun _ => rfl
  refine (inputSection_iff _ _).mpr ⟨recordsOf_flatMap (fun _ => rfl) hotkeys _, ?_, ?_, free, apart⟩
  · rw [drop_after entries]
    exact recordsOf_flatMap (fun _ => rfl) (fun _ => windowOf_bytes _) _
  · rw [show 172 = 160 + 12 from rfl, ← List.drop_drop, drop_after entries, drop_after windows]
    exact general

/-- The APPEARANCE section a save takes. -/
theorem appearanceSection_saved {s : State} (h : RecordsReadBack s) :
    appearanceSection (s.tables.colors.toList.flatMap colorBytes ++ (s.tables.sprites.toList.flatMap Vector.toList ++
      (s.tables.hotSpots.toList.flatMap HotSpot.bytes ++ [flags [s.tables.shareCursor]]))) =
      some ⟨s.tables.colors, s.tables.sprites, s.tables.hotSpots, s.tables.shareCursor⟩ := by
  obtain ⟨-, -, -, -, -, -, -, -, -, spots, -⟩ := h
  have colors := length_flatMap_toList s.tables.colors colorBytes 3 fun _ => rfl
  have sprites := length_flatMap_toList s.tables.sprites Vector.toList 32 fun _ => Vector.length_toList
  have hotSpots := length_flatMap_toList s.tables.hotSpots HotSpot.bytes 2 fun _ => rfl
  have share : shareCursorOf [flags [s.tables.shareCursor]] = some s.tables.shareCursor := by
    rw [shareCursorOf, flags_getLsbD _ (by decide)]
    rfl
  rw [appearanceSection, show 1057 = 33 + 1024 from rfl, show 1065 = 33 + (1024 + 8) from rfl, ← List.drop_drop,
    ← List.drop_drop, ← List.drop_drop, drop_after colors, drop_after sprites, drop_after hotSpots,
    recordsOf_flatMap (fun _ => rfl) (fun _ => rfl), recordsOf_flatMap (dec := spriteRowsOf) (fun _ => Vector.length_toList) (fun _ => tableOf_toList _),
    recordsOf_flatMap (fun _ => rfl) spots, share]

/-! ### The header a save writes -/

theorem fieldAt_append {l : List Byte} {a : Nat} (h : a + 1 < l.length) (rest : List Byte) :
    fieldAt (l ++ rest) a = fieldAt l a := by
  rw [fieldAt, fieldAt, List.getD_append _ _ _ _ (by omega), List.getD_append _ _ _ _ h]

theorem State.buildImage_mapEntry (s : State) {code : Nat} (h : code < 8) :
    mapEntry s.buildImage code = mapEntry savedHeader code := by
  have length := savedHeader_length
  rw [mapEntry, State.buildImage, fieldAt_append (by omega), fieldAt_append (by omega)]
  rfl

theorem State.buildImage_imageLength (s : State) : imageLength s.buildImage = 2861 := by
  rw [imageLength, State.buildImage, fieldAt_append (by rw [savedHeader_length]; decide)]
  decide

/-- The image a save takes is valid as a whole (12, R182). -/
theorem State.buildImage_headerValid (s : State) : headerValid s.buildImage = true := by
  have signature : s.buildImage.take 4 = signatureBytes := rfl
  have sections : ([0, 1, 2, 3, 4, 5, 6, 7].all fun c =>
      decide ((mapEntry s.buildImage c).1 + (mapEntry s.buildImage c).2 ≤ 2861)) = true := by
    rw [List.all_eq_true]
    intro c hc
    have small : c < 8 := by simp only [List.mem_cons, List.not_mem_nil, or_false] at hc; omega
    rw [s.buildImage_mapEntry small]
    revert c
    decide
  rw [headerValid, s.buildImage_imageLength, sections, signature]
  decide

/-- The bytes of a section of the image a save takes. -/
theorem State.buildImage_section {s : State} (h : s.tables.ChordsLawful) {code : Nat} (hc : code < 8) {length : Nat}
    {x : List Byte} (hx : s.sectionImages[code]? = some x) (hlength : length = x.length)
    (hentry : mapEntry savedHeader code =
      (([40, 24, 104, 176, 285, 976, 176, 1066, 14].take (code + 1)).sum, length)) :
    sectionBytes s.buildImage code length = some x := by
  obtain ⟨hlt, rfl⟩ := List.getElem?_eq_some_iff.mp hx
  have slice := flatten_slice (savedHeader :: s.sectionImages) (code + 1) (by simpa using hlt)
  rw [List.map_cons, State.sectionImages_lengths h, savedHeader_length] at slice
  rw [sectionBytes, s.buildImage_mapEntry hc, hentry, if_pos rfl, hlength]
  exact congrArg some slice

theorem State.activeRecords_displays (s : State) :
    s.cmp.active.displays.toList.map (·.record) = s.activeRecords.displays.toList := by
  rw [show s.cmp.active.displays.toList.map (·.record) = (s.cmp.active.displays.map (·.record)).toList from
    Vector.toList_map.symm]
  refine congrArg Vector.toList (Table.ext_get fun d => ?_)
  rw [State.activeRecords, Table.get_tab]
  exact Vector.getElem_map ..

theorem chordsLawful_of_readBack {s : State} (h : RecordsReadBack s) : s.tables.ChordsLawful :=
  fun n => slotRecordOf_blocked (h.1 n)

/-- The eight sections of the image a save takes are judged to be what it was taken of. -/
theorem loadValid_buildImage {s : State} (h : RecordsReadBack s) : loadValid s.buildImage =
    (⟨s.tables.access, s.tables.slots, s.tables.sources, ⟨s.activeRecords, s.tables.profiles, s.tables.shareRecord⟩,
      s.tables.presets, ⟨s.tables.hotkeys, s.tables.windows, s.general⟩,
      ⟨s.tables.colors, s.tables.sprites, s.tables.hotSpots, s.tables.shareCursor⟩, s.tables.timing⟩, 0) := by
  have chords := chordsLawful_of_readBack h
  have lengths := State.sectionImages_lengths chords
  have length {code : Nat} {x : List Byte} (hx : s.sectionImages[code]? = some x) :
      [24, 104, 176, 285, 976, 176, 1066, 14][code]? = some x.length := by
    rw [← lengths, List.getElem?_map, hx]
    rfl
  have at_ (code : Nat) (hc : code < 8) (n : Nat) (x : List Byte) (hx : s.sectionImages[code]? = some x)
      (hn : [24, 104, 176, 285, 976, 176, 1066, 14][code]? = some n)
      (hentry : mapEntry savedHeader code = (([40, 24, 104, 176, 285, 976, 176, 1066, 14].take (code + 1)).sum, n)) :
      sectionBytes s.buildImage code n = some x :=
    State.buildImage_section chords hc hx (Option.some.inj (hn.symm.trans (length hx))) hentry
  have access := at_ 0 (by decide) 24 _ rfl rfl (by decide)
  have slots := at_ 1 (by decide) 104 _ rfl rfl (by decide)
  have sources := at_ 2 (by decide) 176 _ rfl rfl (by decide)
  have layout := at_ 3 (by decide) 285 _ rfl rfl (by decide)
  have presets := at_ 4 (by decide) 976 _ rfl rfl (by decide)
  have input := at_ 5 (by decide) 176 _ rfl rfl (by decide)
  have appearance := at_ 6 (by decide) 1066 _ rfl rfl (by decide)
  have timing := at_ 7 (by decide) 14 _ rfl rfl (by decide)
  rw [s.activeRecords_displays, List.append_assoc] at layout
  rw [List.append_assoc] at input
  rw [List.append_assoc, List.append_assoc] at appearance
  have savedLayout : layoutSection (layoutBytes s.activeRecords.displays.toList s.cmp.active.tiles.toList ++
      (s.tables.profiles.toList.flatMap FrameValues.bytes ++ [orNone s.tables.shareRecord])) =
      some ⟨s.activeRecords, s.tables.profiles, s.tables.shareRecord⟩ := layoutSection_saved h
  have savedAccess : accessSection (s.tables.access.toList.flatMap AccessEntry.bytes) = some s.tables.access := by
    obtain ⟨-, -, -, -, -, -, -, -, -, -, writer, -⟩ := h
    exact Option.filter_eq_some_iff.mpr ⟨recordsOf_flatMap_nil (fun _ => rfl) fun _ => accessOf_bytes _, writer⟩
  have savedSlots : recordsOf 8 13 slotRecordOf (s.tables.slots.toList.flatMap SlotRecord.bytes) = some s.tables.slots :=
    recordsOf_flatMap_nil (fun n => SlotRecord.bytes_length (chords n)) h.1
  have savedSources : recordsOf 16 11 sourceRecordOf (s.tables.sources.toList.flatMap SourceRecord.bytes) = some s.tables.sources :=
    recordsOf_flatMap_nil (fun _ => rfl) h.2.1
  have savedTiming : recordsOf 7 2 timingOf (s.tables.timing.toList.flatMap TimingEntry.bytes) = some s.tables.timing :=
    recordsOf_flatMap_nil (fun _ => rfl) fun _ => timingOf_bytes _
  rw [loadValid]
  simp only [access, slots, sources, layout, presets, input, appearance, timing, Option.bind_some, savedAccess, savedSlots,
    savedSources, savedLayout, presetsSection_saved h, inputSection_saved h, appearanceSection_saved h, savedTiming, Option.getD_some, missing_some]
  rfl

/-! ### The end of a load -/

/-- Settles O7: the sections stand or fall by their own decoders, and what a save writes is read back piece by piece. -/
theorem loadEndWithAValidImage : Obligations.LoadEndWithAValidImage := by
  refine ⟨fun s changed img hreset hloading hbusy himage => ?_, fun img => ?_, accessSection_iff,
    fun l t => recordsOf_eq_some_iff, fun l x => ?_, fun l x => ?_, fun s h => ?_⟩
  · refine ⟨_, congrArg Host.Outcome.next (State.loadEnds_of_loading hreset hloading changed), ?_⟩
    rw [if_neg (by simp [hbusy]), himage]
    generalize hu : s.setFlash (s.flash.change changed) = u
    obtain ⟨tables, pl, flash, pending, layout, active, armed, fc, -⟩ := u.powerOn_spec (some img)
    refine ⟨tables, u.powerOn_taking _, by rw [pl], by rw [pl]; rfl, by rw [flash, ← hu]; rfl, by rw [pending, ← hu]; rfl,
      u.powerOn_events _, layout, by rw [active]; rfl, fun d => ?_, by rw [fc]; rfl, by rw [fc]; rfl⟩
    rw [active, armed, activeOf, Table.get_tab]
    exact ⟨rfl, rfl, Table.get_all .., (u.powerOn_head _ d).1⟩
  · obtain ⟨b0, b1, b2, b3, b4, b5, b6, b7⟩ := loadValid_defaulted img
    exact ⟨sectionJudged_of rfl b0, sectionJudged_of rfl b1, sectionJudged_of rfl b2, sectionJudged_of rfl b3,
      sectionJudged_of rfl b4, sectionJudged_of rfl b5, sectionJudged_of rfl b6, sectionJudged_of rfl b7⟩
  · rw [layoutSection_iff]
    simp only [layoutOf_iff, recordsOf_eq_some_iff, and_assoc]
  · rw [inputSection_iff, recordsOf_eq_some_iff, recordsOf_eq_some_iff, holdsKey_eq_false_iff]
  · have loaded := loadValid_buildImage h
    refine ⟨s.buildImage_headerValid, ?_, ?_, ?_, ?_, ?_⟩
    · rw [State.buildImage_length (chordsLawful_of_readBack h), s.buildImage_imageLength]
    all_goals rw [loaded]
    rfl

end Sys2Proof.Machine


/-! Keyboard reports: what an arrival is made of, and presses, releases and modifier changes on their own (01, R2, R3, R11 to R16; 02). -/

namespace Sys2Proof.Machine

/-! ### Images queued to a port with room -/

theorem mergeNewest_keyboard (q : List Entry) (k : KeyImage) : mergeNewest q (.keyboard k) = none := by
  rcases List.eq_nil_or_concat q with rfl | ⟨r, a, rfl⟩
  · rfl
  · rw [List.concat_eq_append, mergeNewest_concat, (merge?_keyboard k a).2]
    rfl

/-- An image queued to a port with room joins its queue, and T6 alone changes beside (05, R88; 06, R110). -/
theorem State.queueImage_of_room {s : State} {n : Slot} (on : s.link n ≠ .off) (room : (s.port n).queue.length < 16) :
    s.queueImage n = s.appended n (.keyboard (s.sent n)) := by
  have taken : takeEntry (s.port n).lastButtons (s.port n).queue (.keyboard (s.sent n)) =
      some ((s.port n).queue ++ [.keyboard (s.sent n)]) := by
    rw [takeEntry_of_no_merge (mergeNewest_keyboard _ _), if_pos room]
  exact State.handOver_of_taken on taken

theorem State.queueImage_of_off {s : State} {n : Slot} (off : s.link n = .off) : s.queueImage n = s := State.handOver_of_off off

theorem State.wakeOnInput_of_active {s : State} {n : Slot} (active : s.link n = .active) : s.wakeOnInput n = s :=
  if_neg fun h => h.1 active

/-! ### Reports -/

theorem keyCodeOk_ne_rollover {k : Byte} (h : UsableKey k) : ¬ (k = 1 ∨ k = 2 ∨ k = 3) := by
  rintro (rfl | rfl | rfl) <;> exact absurd h.1 (by decide)

theorem mem_reportKeys (k : Byte) (l : List Byte) : k ∈ reportKeys l ↔ k ∈ l ∧ UsableKey k := by
  induction l with
  | nil => simp [reportKeys]
  | cons a l ih =>
    rw [reportKeys]
    by_cases usable : UsableKey a
    · rw [if_pos ((keyCodeOk_iff a).mpr usable)]
      simp only [List.mem_cons, List.mem_filter, ih, decide_eq_true_eq]
      by_cases hk : k = a
      · subst hk
        simpa using usable
      · simp [hk]
    · rw [if_neg fun h => usable ((keyCodeOk_iff a).mp h), ih, List.mem_cons]
      by_cases hk : k = a
      · subst hk
        simp [usable]
      · simp [hk]

/-- A report of eight bytes or more without a rollover marker is its modifiers and its usable keys (13, R189; 01, R2). -/
theorem keyboardOf_eq (m r k0 k1 k2 k3 k4 k5 : Byte) (rest : List Byte)
    (h : ∀ k ∈ [k0, k1, k2, k3, k4, k5], k ≠ 1 ∧ k ≠ 2 ∧ k ≠ 3) :
    keyboardOf (m :: r :: k0 :: k1 :: k2 :: k3 :: k4 :: k5 :: rest) = some (m, reportKeys [k0, k1, k2, k3, k4, k5]) := by
  have none : ([k0, k1, k2, k3, k4, k5].any fun k => decide (k = 1 ∨ k = 2 ∨ k = 3)) = false := by
    rw [List.any_eq_false]
    intro k hk
    obtain ⟨h1, h2, h3⟩ := h k hk
    rw [decide_eq_true_iff]
    exact not_or.mpr ⟨h1, not_or.mpr ⟨h2, h3⟩⟩
  exact if_neg (by rw [none]; decide)

/-- A report that is short or bears a rollover marker is ignored whole. -/
theorem keyboardOf_eq_none {bytes : List Byte}
    (h : bytes.length < 8 ∨ ∃ k ∈ (bytes.drop 2).take 6, k = 1 ∨ k = 2 ∨ k = 3) : keyboardOf bytes = none := by
  unfold keyboardOf
  split
  next m r k0 k1 k2 k3 k4 k5 rest =>
    obtain ⟨k, hk, rollover⟩ := h.resolve_left (by simp)
    have some : ([k0, k1, k2, k3, k4, k5].any fun k => decide (k = 1 ∨ k = 2 ∨ k = 3)) = true :=
      List.any_eq_true.mpr ⟨k, hk, decide_eq_true rollover⟩
    exact if_pos some
  · rfl

theorem keyboardOf_pressReport {m k : Byte} (h : UsableKey k) : keyboardOf (pressReport m k) = some (m, [k]) := by
  have marker := keyCodeOk_ne_rollover h
  rw [not_or, not_or] at marker
  rw [pressReport, keyboardOf_eq _ _ _ _ _ _ _ _ [] (by simpa using marker)]
  have zeros : reportKeys [0, 0, 0, 0, 0] = [] := by decide
  rw [reportKeys, if_pos ((keyCodeOk_iff k).mpr h), zeros]
  rfl

theorem keyboardOf_releaseReport (m : Byte) : keyboardOf (releaseReport m) = some (m, []) := by
  rw [releaseReport, keyboardOf_eq _ _ _ _ _ _ _ _ [] (by simp)]
  rfl

/-! ### Arrivals with one change -/

/-- The console with other modifiers and keys. -/
def State.withConsole (s : State) (m : Modifiers) (keys : List Byte) : State := s.setCiu { s.ciu with mods := m, keys := keys }

theorem State.exec_report {s : State} {held keys bytes : List Byte} {m : Modifiers} (h : KeysHeld s held)
    (hreport : keyboardOf bytes = some (m, keys)) : exec (.keyboardReport bytes) s = .next (s.keyboardArrival m keys) := by
  obtain ⟨taking, ready, -⟩ := h
  rw [exec_keyboardReport taking, State.keyboardReports, if_pos ready, hreport]

/-- The arrival of a key with no other key held is its press. -/
theorem State.exec_press {s : State} {k : Byte} (h : KeysHeld s []) (usable : UsableKey k) :
    exec (.keyboardReport (pressReport s.ciu.mods k)) s = .next ((s.withConsole s.ciu.mods [k]).press k) := by
  rw [State.exec_report h (keyboardOf_pressReport usable), State.keyboardArrival, h.2.2]
  exact congrArg _ (by simp [State.withConsole, sortKeys, insertKey])

/-- The arrival of a key, with whatever modifiers: the modifier change first, then the press. -/
theorem State.exec_press_with {s : State} {k : Byte} (h : KeysHeld s []) (usable : UsableKey k) {m : Modifiers} (hm : m ≠ s.ciu.mods) :
    exec (.keyboardReport (pressReport m k)) s =
      .next (((s.withConsole m [k]).modifierChange (s.ciu.mods &&& ~~~m) (m &&& ~~~s.ciu.mods)).press k) := by
  rw [State.exec_report h (keyboardOf_pressReport usable), State.keyboardArrival, h.2.2]
  exact congrArg _ (by simp [State.withConsole, sortKeys, insertKey, hm])

/-- The arrival of no key where one was held is its release. -/
theorem State.exec_release {s : State} {k : Byte} (h : KeysHeld s [k]) :
    exec (.keyboardReport (releaseReport s.ciu.mods)) s = .next ((s.withConsole s.ciu.mods []).releaseKey k) := by
  rw [State.exec_report h (keyboardOf_releaseReport _), State.keyboardArrival, h.2.2]
  exact congrArg _ (by simp [State.withConsole, sortKeys])

/-- The arrival of modifiers alone is a modifier change. -/
theorem State.exec_modifiers {s : State} (h : KeysHeld s []) {m : Modifiers} (hm : m ≠ s.ciu.mods) :
    exec (.keyboardReport (releaseReport m)) s =
      .next ((s.withConsole m []).modifierChange (s.ciu.mods &&& ~~~m) (m &&& ~~~s.ciu.mods)) := by
  rw [State.exec_report h (keyboardOf_releaseReport _), State.keyboardArrival, h.2.2]
  exact congrArg _ (by simp [State.withConsole, sortKeys, hm])

/-- The arrival of the key that is held, with other modifiers, is a modifier change. -/
theorem State.exec_held {s : State} {k : Byte} (h : KeysHeld s [k]) (usable : UsableKey k) (m : Modifiers) :
    exec (.keyboardReport (pressReport m k)) s = .next (if m = s.ciu.mods then s.withConsole m [k]
      else (s.withConsole m [k]).modifierChange (s.ciu.mods &&& ~~~m) (m &&& ~~~s.ciu.mods)) := by
  rw [State.exec_report h (keyboardOf_pressReport usable), State.keyboardArrival, h.2.2]
  exact congrArg _ (by simp [State.withConsole, sortKeys, insertKey])

theorem State.withConsole_eq {s : State} {held : List Byte} (h : KeysHeld s held) (m : Modifiers) :
    s.withConsole m held = { s with ciu := { s.ciu with mods := m } } := by
  rw [State.withConsole, ← h.2.2]
  rfl

/-! ### A press (01, R11 to R14) -/

theorem State.press_of_normal {s : State} {k : Byte} (normal : s.hkm = .normal) : s.press k = s.normalPress k := by
  rw [State.press, normal]

theorem State.normalPress_of_no_chord {s : State} {k : Byte} (other : k ≠ s.tables.leadKey) (none : s.chordFor k = none) :
    s.normalPress k = s.routePress k := by
  rw [State.normalPress, if_neg other, none]

theorem State.routePress_of_none {s : State} {k : Byte} (h : s.candidate k = none) : s.routePress k = s.hold k .suppressed := by
  rw [State.routePress, h]

theorem State.routePress_of_candidate {s : State} {k : Byte} {n : Slot} (h : s.candidate k = some n) : s.routePress k =
    if (s.access n).inputAllowed = false then s.hold k .suppressed
    else if s.link n = .off then (s.hold k .suppressed).wakeOnInput n
    else if s.isBlocked n k then (s.hold k .suppressed).raiseEvent .keyBlocked
    else s.deliverPress n k := by
  rw [State.routePress, h]
  simp

/-- A press delivered to a port with room: the key joins the slot's image, and one image is queued. -/
theorem State.deliverPress_of_room {s : State} {n : Slot} (k : Byte) (on : s.link n ≠ .off) (room : (s.port n).queue.length < 16) :
    s.deliverPress n k = (State.appended { s with fc := { s.fc with
      held := holdKey k (.slot n) s.fc.held, sent := s.fc.sent.put n ⟨(s.sent n).mods, insertKey k (s.sent n).keys⟩ } } n
      (.keyboard ⟨(s.sent n).mods, insertKey k (s.sent n).keys⟩)).wakeOnInput n := by
  generalize hd : ({ s with fc := { s.fc with held := holdKey k (.slot n) s.fc.held
                                              sent := s.fc.sent.put n ⟨(s.sent n).mods, insertKey k (s.sent n).keys⟩ } } : State) = d
  have sent : d.sent n = ⟨(s.sent n).mods, insertKey k (s.sent n).keys⟩ := by
    rw [← hd]
    exact Table.get_put_same ..
  have link : d.link n = s.link n := by rw [← hd]; rfl
  have port : d.port n = s.port n := by rw [← hd]; rfl
  rw [← sent, ← State.queueImage_of_room (link ▸ on) (port ▸ room), ← hd]
  rfl

/-- Settles O13: the press goes to the routing, branch by branch. -/
theorem keyPressIsRouted : Obligations.KeyPressIsRouted := by
  intro s k held usable normal other none pressed report suppressed
  have run : exec report s = .next (pressed.routePress k) := by
    rw [State.exec_press held usable]
    refine congrArg _ ?_
    rw [State.press_of_normal (show (s.withConsole s.ciu.mods [k]).hkm = .normal from normal),
      State.normalPress_of_no_chord (show k ≠ (s.withConsole s.ciu.mods [k]).tables.leadKey from other)
        (show (s.withConsole s.ciu.mods [k]).chordFor k = .none from none)]
    rfl
  refine ⟨fun candidate => ?_, fun n candidate => ?_⟩
  · rw [run, State.routePress_of_none (show pressed.candidate k = .none from candidate)]
    rfl
  · rw [run, State.routePress_of_candidate (show pressed.candidate k = some n from candidate)]
    refine ⟨fun denied => ?_, fun allowed off => ?_, fun allowed on blocked => ?_, fun allowed on free room => ?_⟩
    · rw [if_pos (show (pressed.access n).inputAllowed = false from denied)]
      rfl
    · rw [if_neg (by rw [show (pressed.access n).inputAllowed = true from allowed]; decide), if_pos (show pressed.link n = .off from off)]
      rfl
    · rw [if_neg (by rw [show (pressed.access n).inputAllowed = true from allowed]; decide), if_neg (show ¬ pressed.link n = .off from on),
        if_pos (show pressed.isBlocked n k = true from blocked)]
      rfl
    · intro image delivered
      have sends : (if (pressed.access n).inputAllowed = false then pressed.hold k .suppressed
          else if pressed.link n = .off then (pressed.hold k .suppressed).wakeOnInput n
          else if pressed.isBlocked n k then (pressed.hold k .suppressed).raiseEvent .keyBlocked
          else pressed.deliverPress n k) = delivered.wakeOnInput n := by
        rw [if_neg (by rw [show (pressed.access n).inputAllowed = true from allowed]; decide), if_neg (show ¬ pressed.link n = .off from on),
          if_neg (by rw [show pressed.isBlocked n k = false from free]; decide), State.deliverPress_of_room (s := pressed) k on room]
        rfl
      rw [sends]
      refine ⟨rfl, fun active => ?_⟩
      rw [State.wakeOnInput_of_active]
      show (Table.get (Table.put s.ports n _) n).link = .active
      rw [Table.get_put_same]
      exact active

/-! ### A release (01, R15) -/

/-- A release delivers nothing where the press delivered nothing. -/
theorem State.releaseKey_of_undelivered {s : State} {k : Byte} (h : ∀ n, heldKey k s.fc.held ≠ some (.slot n)) :
    s.releaseKey k = s.setFc { s.fc with held := dropKey k s.fc.held } := by
  unfold State.releaseKey
  split
  next n hn => exact absurd hn (h n)
  · rfl

theorem State.releaseKey_of_delivered {s : State} {k : Byte} {n : Slot} (h : heldKey k s.fc.held = some (.slot n)) :
    s.releaseKey k =
      let s1 := (s.setSent n ⟨(s.sent n).mods, (s.sent n).keys.filter (· ≠ k)⟩).queueImage n
      s1.setFc { s1.fc with held := dropKey k s1.fc.held } := by
  unfold State.releaseKey
  rw [h]

/-- Settles O14. -/
theorem keyReleaseFollowsItsPress : Obligations.KeyReleaseFollowsItsPress := by
  intro s k held released report dropped
  have run : exec report s = .next (released.releaseKey k) := State.exec_release held
  refine ⟨fun undelivered => ?_, fun n delivered => ?_⟩
  · rw [run, State.releaseKey_of_undelivered]
    · rfl
    · intro n hn
      have hn : heldKey k s.fc.held = some (.slot n) := hn
      rw [hn] at undelivered
      rcases undelivered with h | h | h <;> cases h
  · intro image told
    have sent : (released.setSent n image).sent n = image := Table.get_put_same ..
    have loses : released.releaseKey k =
        ((released.setSent n image).queueImage n).setFc { ((released.setSent n image).queueImage n).fc with
          held := dropKey k ((released.setSent n image).queueImage n).fc.held } :=
      State.releaseKey_of_delivered (s := released) delivered
    refine ⟨fun off => ?_, fun on room => ?_⟩
    · rw [run, loses, State.queueImage_of_off (show (released.setSent n image).link n = .off from off)]
      rfl
    · rw [run, loses, State.queueImage_of_room (show (released.setSent n image).link n ≠ .off from on) room, sent]
      rfl

end Sys2Proof.Machine


/-! Modifier changes, the lead key and command mode, whole keyboard reports, and a console device that goes away (01, R2, R5, R16; 02). -/

namespace Sys2Proof.Machine

/-! ### A modifier change (01, R16) -/

theorem State.tellModifiers_of_same {s : State} (h : ∀ n, s.fc.focus = some n → s.focusModifiers = (s.sent n).mods) :
    s.tellModifiers = s := by
  unfold State.tellModifiers
  split
  · rfl
  next n hn => exact if_pos (h n hn)

theorem State.tellModifiers_of_room {s : State} {n : Slot} (focus : s.fc.focus = some n) (differ : s.focusModifiers ≠ (s.sent n).mods)
    (on : s.link n ≠ .off) (room : (s.port n).queue.length < 16) :
    s.tellModifiers = (s.setSent n ⟨s.focusModifiers, (s.sent n).keys⟩).appended n (.keyboard ⟨s.focusModifiers, (s.sent n).keys⟩) := by
  have sent : (s.setSent n ⟨s.focusModifiers, (s.sent n).keys⟩).sent n = ⟨s.focusModifiers, (s.sent n).keys⟩ := Table.get_put_same ..
  have queued := State.queueImage_of_room (s := s.setSent n ⟨s.focusModifiers, (s.sent n).keys⟩) on room
  rw [sent] at queued
  rw [← queued]
  unfold State.tellModifiers
  rw [focus]
  exact if_neg differ

theorem State.deliverable_of_none {s : State} (h : s.fc.focus = none) : s.deliverable = false := by
  rw [State.deliverable, h]

theorem State.deliverable_of_some {s : State} {n : Slot} (h : s.fc.focus = some n) : s.deliverable = s.canReceive n := by
  rw [State.deliverable, h]

/-- The state after a modifier change, before the focus slot is told. -/
theorem State.regroupModifiers_eq (s : State) (released pressed : Modifiers) : s.regroupModifiers released pressed =
    s.setFc { s.fc with suppressed := (s.fc.suppressed &&& ~~~released) ||| (if s.deliverable then 0 else pressed) } := rfl

/-- Settles O15. -/
theorem modifierChangeReachesTheFocus : Obligations.ModifierChangeReachesTheFocus := by
  intro s m held hm report changed kept
  have run : exec report s =
      .next (changed.regroupModifiers (s.ciu.mods &&& ~~~m) (m &&& ~~~s.ciu.mods)).tellModifiers := by
    rw [State.exec_modifiers held hm, State.modifierChange_eq, State.withConsole_eq held]
  have regrouped (x : Modifiers) (hx : (if s.deliverable then 0 else m &&& ~~~s.ciu.mods) = x) :
      changed.regroupModifiers (s.ciu.mods &&& ~~~m) (m &&& ~~~s.ciu.mods) =
        { changed with fc := { s.fc with suppressed := kept ||| x } } := by
    rw [← hx]
    rfl
  refine ⟨fun focus => ?_, fun n focus => ⟨fun closed silent => ?_, fun can same => ?_, fun can differ room => ?_⟩⟩
  · rw [run, regrouped _ (if_neg (by simp [State.deliverable_of_none focus])), State.tellModifiers_of_same]
    intro n hn
    cases focus.symm.trans hn
  · have undeliverable : s.deliverable = false := (State.deliverable_of_some focus).trans closed
    rw [run, regrouped _ (if_neg (by simp [undeliverable])), State.tellModifiers_of_same]
    intro f hf
    obtain rfl : n = f := Option.some.inj (focus.symm.trans hf)
    exact (if_neg fun h => absurd (undeliverable.symm.trans h) Bool.false_ne_true).trans silent.symm
  all_goals
    have deliverable : s.deliverable = true := (State.deliverable_of_some focus).trans can
    have told : ({ changed with fc := { s.fc with suppressed := kept } } : State).focusModifiers = m &&& ~~~kept := if_pos deliverable
    have none : kept ||| 0 = kept := BitVec.or_zero
    rw [run, regrouped 0 (if_pos deliverable), none]
  · rw [State.tellModifiers_of_same]
    intro f hf
    obtain rfl : n = f := Option.some.inj (focus.symm.trans hf)
    exact told.trans same
  · have differ : ({ changed with fc := { s.fc with suppressed := kept } } : State).focusModifiers ≠ (s.sent n).mods :=
      fun same => differ (told.symm.trans same)
    have on : s.link n ≠ .off := by
      intro off
      rw [State.canReceive, off] at can
      cases can
    rw [State.tellModifiers_of_room (s := { changed with fc := { s.fc with suppressed := kept } }) focus differ on room, told]
    rfl

/-! ### The lead key and command mode (02, R29, R32 to R34) -/

theorem State.normalPress_of_lead {s : State} {k : Byte} (lead : k = s.tables.leadKey) (off : s.fc.passNext = false) :
    s.normalPress k = ((s.hold k .consumed).setHkm .leadOne).startTimer .t0 := by
  rw [State.normalPress, if_pos lead, off]
  rfl

theorem State.handOver_passNext (s : State) (n : Slot) (e : Entry) : (s.handOver n e).fc.passNext = s.fc.passNext := by
  rcases s.handOver_cases n e with ⟨-, h⟩ | ⟨-, q, -, h⟩ | ⟨-, -, h⟩ <;> rw [h]
  · rw [State.settlePort_fc]
  · rw [State.raiseEvent_fc, State.releaseFlush_fc]
    rfl

theorem State.modifierChange_passNext (s : State) (released pressed : Modifiers) :
    (s.modifierChange released pressed).fc.passNext = s.fc.passNext := by
  rw [State.modifierChange_eq]
  unfold State.tellModifiers
  split
  · rfl
  · split
    · rfl
    · exact State.handOver_passNext ..

/-- The console after a modifier change is as the change found it. -/
theorem State.modifierChange_console (s : State) (released pressed : Modifiers) :
    (s.modifierChange released pressed).hkm = s.hkm ∧ (s.modifierChange released pressed).bank.t0 = s.bank.t0 ∧
    (s.modifierChange released pressed).ciu.keys = s.ciu.keys ∧ (s.modifierChange released pressed).tables = s.tables := by
  have side := s.modifierChange_consoleSide released pressed
  exact ⟨congrArg (·.2.1) side, congrArg (·.2.2.1) side, State.keys_of_side side,
    State.tables_eq_of_outer_eq (s.modifierChange_outer released pressed)⟩

/-- Settles O16. -/
theorem leadPressEntersLeadOne : Obligations.LeadPressEntersLeadOne := by
  have entered (s : State) (held : KeysHeld s []) (usable : UsableKey s.tables.leadKey) (normal : s.hkm = .normal)
      (off : s.fc.passNext = false) : exec (.keyboardReport (pressReport s.ciu.mods s.tables.leadKey)) s = .next { s with
        ciu := { s.ciu with keys := [s.tables.leadKey] }
        fc := { s.fc with held := holdKey s.tables.leadKey .consumed s.fc.held }
        hkm := .leadOne
        bank := { s.bank with t0 := .running (s.tables.timing.get 0).duration 0 } } := by
    rw [State.exec_press held usable, State.press_of_normal (s := s.withConsole s.ciu.mods [s.tables.leadKey]) normal,
      State.normalPress_of_lead (s := s.withConsole s.ciu.mods [s.tables.leadKey]) (k := s.tables.leadKey) rfl off]
    rfl
  refine ⟨entered, fun s m held usable normal off => ?_, fun s m held usable => ?_⟩
  · by_cases hm : m = s.ciu.mods
    · subst hm
      refine ⟨_, entered s held usable normal off, rfl, rfl, ?_, rfl⟩
      rw [heldKey_holdKey, if_pos rfl]
    · obtain ⟨hkm, -, keys, tables⟩ := State.modifierChange_console (s.withConsole m [s.tables.leadKey])
        (s.ciu.mods &&& ~~~m) (m &&& ~~~s.ciu.mods)
      have passNext := State.modifierChange_passNext (s.withConsole m [s.tables.leadKey]) (s.ciu.mods &&& ~~~m) (m &&& ~~~s.ciu.mods)
      rw [State.exec_press_with held usable hm]
      generalize (s.withConsole m [s.tables.leadKey]).modifierChange (s.ciu.mods &&& ~~~m) (m &&& ~~~s.ciu.mods) = u at *
      have tables : u.tables = s.tables := tables
      rw [State.press_of_normal (hkm.trans normal), State.normalPress_of_lead (by rw [tables]) (passNext.trans off)]
      refine ⟨_, rfl, rfl, ?_, ?_, keys⟩
      · show Wait.running (u.tables.timing.get 0).duration 0 = _
        rw [tables]
      · show heldKey _ (holdKey _ _ _) = _
        rw [heldKey_holdKey, if_pos rfl]
  · rw [State.exec_held held usable m]
    refine ⟨_, rfl, ?_⟩
    split
    · exact ⟨rfl, rfl, rfl⟩
    · obtain ⟨hkm, t0, keys, -⟩ := State.modifierChange_console (s.withConsole m [s.tables.leadKey])
        (s.ciu.mods &&& ~~~m) (m &&& ~~~s.ciu.mods)
      exact ⟨hkm, t0, keys⟩

theorem State.press_of_leadOne {s : State} {k : Byte} (h : s.hkm = .leadOne) : s.press k = s.leadOnePress k := by
  rw [State.press, h]

theorem State.press_of_command {s : State} {k : Byte} (h : s.hkm = .command) : s.press k = s.commandPress k := by
  rw [State.press, h]

theorem State.commandPress_of_leaving {s : State} {k : Byte} (h : k = 41 ∨ k = s.tables.leadKey) :
    s.commandPress k = ((s.hold k .consumed).stopTimer .t1).setCommand .normal := if_pos h

theorem State.commandPress_of_none {s : State} {k : Byte} (h : ¬ (k = 41 ∨ k = s.tables.leadKey)) (none : s.commandFor k = none) :
    s.commandPress k = (s.hold k .consumed).startTimer .t1 := by
  rw [State.commandPress, if_neg h, none]

theorem State.commandPress_of_entry {s : State} {k : Byte} {e : Hotkey} (h : ¬ (k = 41 ∨ k = s.tables.leadKey))
    (some : s.commandFor k = some e) : s.commandPress k =
      if e.stay then ((s.hold k .consumed).runAction e.action e.argument).startTimer .t1
      else (((s.hold k .consumed).stopTimer .t1).setCommand .normal).runAction e.action e.argument := by
  rw [State.commandPress, if_neg h, some]

/-- Settles O17. -/
theorem commandModeTakesPresses : Obligations.CommandModeTakesPresses := by
  intro s k held usable report consumed left restarted
  have run : exec report s = .next ((s.withConsole s.ciu.mods [k]).press k) := State.exec_press held usable
  refine ⟨fun one lead off => ?_, fun one other => ?_, fun command => ⟨fun leaves => ?_, fun notEscape notLead none => ?_,
    fun e notEscape notLead some => ?_⟩⟩
  · rw [run, State.press_of_leadOne (s := s.withConsole s.ciu.mods [k]) one]
    exact congrArg Host.Outcome.next (if_pos (show k = (s.withConsole s.ciu.mods [k]).tables.leadKey ∧ _ from ⟨lead, off⟩))
  · have again : exec report { s with hkm := .normal, bank := { s.bank with t0 := .stopped } } = .next
        ((({ s with hkm := .normal, bank := { s.bank with t0 := .stopped } } : State).withConsole s.ciu.mods [k]).press k) :=
      State.exec_press (s := { s with hkm := .normal, bank := { s.bank with t0 := .stopped } }) held usable
    rw [run, again, State.press_of_leadOne (s := s.withConsole s.ciu.mods [k]) one, State.press_of_normal (s := State.withConsole _ s.ciu.mods [k]) rfl]
    refine congrArg Host.Outcome.next (if_neg fun h => ?_)
    rcases other with other | on
    · exact other h.1
    · cases on.symm.trans h.2
  all_goals rw [run, State.press_of_command (s := s.withConsole s.ciu.mods [k]) command]
  · rw [State.commandPress_of_leaving (s := s.withConsole s.ciu.mods [k]) leaves]
    rfl
  · rw [State.commandPress_of_none (s := s.withConsole s.ciu.mods [k]) (not_or.mpr ⟨notEscape, notLead⟩) none]
    rfl
  · rw [State.commandPress_of_entry (s := s.withConsole s.ciu.mods [k]) (not_or.mpr ⟨notEscape, notLead⟩) some]
    split
    · have tables : (consumed.runAction e.action e.argument).tables = s.tables :=
        State.tables_eq_of_outer_eq (consumed.runAction_outer e.action e.argument)
      show Host.Outcome.next ((consumed.runAction e.action e.argument).setBank
        ((consumed.runAction e.action e.argument).bank.setTimer .t1
          (.running ((consumed.runAction e.action e.argument).tables.timing.get 1).duration 0))) = _
      rw [tables]
      rfl
    · rfl

/-! ### Whole reports (01, R2) -/

theorem insertKey_sorted {k : Byte} {l : List Byte} (h : l.Pairwise fun a b => a.toNat < b.toNat) :
    (insertKey k l).Pairwise fun a b => a.toNat < b.toNat := by
  induction l with
  | nil => exact List.pairwise_singleton ..
  | cons a l ih =>
    obtain ⟨first, rest⟩ := List.pairwise_cons.mp h
    unfold insertKey
    split
    next below =>
      refine List.pairwise_cons.mpr ⟨fun b hb => ?_, h⟩
      rcases List.mem_cons.mp hb with rfl | hb
      · exact below
      · exact Nat.lt_trans below (first b hb)
    next notBelow =>
      split
      · exact h
      next other =>
        refine List.pairwise_cons.mpr ⟨fun b hb => ?_, ih rest⟩
        rcases (mem_insertKey k b l).mp hb with rfl | hb
        · have : b.toNat ≠ a.toNat := fun h => other (BitVec.eq_of_toNat_eq h)
          omega
        · exact first b hb

theorem sortKeys_sorted (l : List Byte) : (sortKeys l).Pairwise fun a b => a.toNat < b.toNat := by
  have all (acc : List Byte) (h : acc.Pairwise fun a b => a.toNat < b.toNat) :
      (l.foldl (fun acc k => insertKey k acc) acc).Pairwise fun a b => a.toNat < b.toNat := by
    induction l generalizing acc with
    | nil => exact h
    | cons k l ih => exact ih _ (insertKey_sorted h)
  exact all [] .nil

/-- Settles O12. -/
theorem keyboardReportReplacesTheImage : Obligations.KeyboardReportReplacesTheImage := by
  intro s taking
  refine ⟨fun bytes other => ?_, fun bytes ignored => ?_, fun m r k0 k1 k2 k3 k4 k5 rest ready good => ?_⟩
  · rw [exec_keyboardReport taking, State.keyboardReports, if_neg other]
  · rw [exec_keyboardReport taking, State.keyboardReports, keyboardOf_eq_none ignored, ite_self]
  · refine ⟨_, State.exec_report ⟨taking, ready, rfl⟩ (keyboardOf_eq m r k0 k1 k2 k3 k4 k5 rest good), ?_⟩
    have image := s.keyboardArrival_consoleImage m (reportKeys [k0, k1, k2, k3, k4, k5])
    have keys := s.keyboardArrival_keys m (reportKeys [k0, k1, k2, k3, k4, k5])
    refine ⟨congrArg (·.2.2.1) image, fun k => ?_, ?_, congrArg (·.2.2.2.2) image, (congrArg (·.1) image).trans ready,
      congrArg (·.2.1) image, s.keyboardArrival_outer _ _⟩
    · rw [keys, mem_sortKeys, mem_reportKeys]
    · rw [keys]
      exact sortKeys_sorted _

/-! ### A console device goes away (01, R5) -/

/-- What is not in the held-key map does not join it by a release. -/
theorem State.handOver_heldKey_none {s : State} {k : Byte} (h : heldKey k s.fc.held = none) (n : Slot) (e : Entry) :
    heldKey k (s.handOver n e).fc.held = none := by
  rcases s.handOver_cases n e with ⟨-, he⟩ | ⟨-, q, -, he⟩ | ⟨-, -, he⟩ <;> rw [he]
  · exact h
  · rw [State.settlePort_fc]
    exact h
  · rw [State.raiseEvent_fc, State.releaseFlush_fc, State.heldKey_lostFc, h]
    rfl

theorem State.releaseKey_heldKey (s : State) (a k : Byte) (h : k = a ∨ heldKey k s.fc.held = none) :
    heldKey k (s.releaseKey a).fc.held = none := by
  unfold State.releaseKey
  show heldKey k (dropKey a _) = none
  rw [heldKey_dropKey]
  split
  · rfl
  next other =>
    have absent := h.resolve_left other
    split
    · exact State.handOver_heldKey_none (s := s.setSent _ _) absent _ _
    · exact absent

/-- Every key released has left the held-key map. -/
theorem State.foldl_releaseKey_heldKey (l : List Byte) (s : State) {k : Byte} (h : k ∈ l ∨ heldKey k s.fc.held = none) :
    heldKey k (l.foldl State.releaseKey s).fc.held = none := by
  induction l generalizing s with
  | nil => exact h.resolve_left nofun
  | cons a l ih =>
    refine ih _ ?_
    by_cases later : k ∈ l
    · exact .inl later
    · exact .inr (s.releaseKey_heldKey a k (h.imp_left fun hk => (List.mem_cons.mp hk).resolve_right later))

/-- The final arrival of a keyboard: no modifier and no key, so it is made of one modifier change and the releases. -/
theorem State.keyboardArrival_final (s : State) : s.keyboardArrival 0 [] = s.ciu.keys.foldl State.releaseKey
    (if 0 = s.ciu.mods then s.withConsole 0 [] else
      (s.withConsole 0 []).modifierChange (s.ciu.mods &&& ~~~0) (0 &&& ~~~s.ciu.mods)) := by
  unfold State.keyboardArrival
  simp [State.withConsole, sortKeys]

theorem State.keyboardArrival_final_console (s : State) : (s.keyboardArrival 0 []).hkm = s.hkm ∧
    (s.keyboardArrival 0 []).bank.t0 = s.bank.t0 ∧ (s.keyboardArrival 0 []).bank.t1 = s.bank.t1 := by
  have releases (l : List Byte) (u : State) : (l.foldl State.releaseKey u).consoleSide = u.consoleSide := by
    induction l generalizing u with
    | nil => rfl
    | cons k l ih => rw [List.foldl_cons, ih, u.releaseKey_consoleSide k]
  have side : (s.keyboardArrival 0 []).consoleSide = (s.withConsole 0 []).consoleSide := by
    rw [State.keyboardArrival_final, releases]
    split
    · rfl
    · exact State.modifierChange_consoleSide ..
  exact ⟨congrArg (·.2.1) side, congrArg (·.2.2.1) side, congrArg (·.2.2.2) side⟩

theorem State.finalArrival_of_not_ready {s : State} {p : ConsolePort} (h : s.ciu.attach p ≠ .ready) : s.finalArrival p = s := by
  unfold State.finalArrival
  exact if_neg h

theorem State.deviceDisconnects_of_not_ready {s : State} {p : ConsolePort} (h : s.ciu.attach p ≠ .ready) :
    s.deviceDisconnects p = s.setCiu (s.ciu.detach p) := by
  rw [State.deviceDisconnects, State.finalArrival_of_not_ready h]

theorem State.finalArrival_keyboard {s : State} (h : s.ciu.keyboardPort = .ready) :
    s.finalArrival .keyboard = s.commandToNormal.keyboardArrival 0 [] := by
  unfold State.finalArrival
  exact if_pos h

theorem State.finalArrival_pointer {s : State} (h : s.ciu.pointerPort = .ready) :
    s.finalArrival .pointer = s.buttonArrival 0 0 0 0 := by
  unfold State.finalArrival
  exact if_pos h

theorem State.commandToNormal_consoleImage (s : State) : s.commandToNormal.consoleImage = s.consoleImage := by
  rw [State.commandToNormal, State.setCommand_consoleImage, State.stopTimer_consoleImage, State.stopTimer_consoleImage]

/-- Settles O11. -/
theorem consolePortsDetach : Obligations.ConsolePortsDetach := by
  intro s taking
  have run (p : ConsolePort) : exec (.consoleDeviceDisconnected p) s = .next (s.deviceDisconnects p) :=
    exec_consoleDeviceDisconnected taking p
  refine ⟨fun waiting => ?_, fun waiting => ?_, fun ready => ?_, fun ready => ?_⟩
  · rw [run, State.deviceDisconnects_of_not_ready]
    · rfl
    · intro h
      have h : s.ciu.keyboardPort = .ready := h
      rw [h] at waiting
      rcases waiting with h | h <;> cases h
  · rw [run, State.deviceDisconnects_of_not_ready]
    · rfl
    · intro h
      have h : s.ciu.pointerPort = .ready := h
      rw [h] at waiting
      rcases waiting with h | h <;> cases h
  · refine ⟨_, run .keyboard, ?_⟩
    have outer := s.deviceDisconnects_outer .keyboard
    rw [State.deviceDisconnects, State.finalArrival_keyboard ready] at outer ⊢
    have before := s.commandToNormal_consoleImage
    have image := s.commandToNormal.keyboardArrival_consoleImage 0 []
    obtain ⟨hkm, t0, t1⟩ := s.commandToNormal.keyboardArrival_final_console
    have gone (k : Byte) (hk : k ∈ s.ciu.keys) : heldKey k (s.commandToNormal.keyboardArrival 0 []).fc.held = none := by
      rw [State.keyboardArrival_final]
      exact State.foldl_releaseKey_heldKey _ _ (.inl ((congrArg (k ∈ ·.2.2.2.1) before).mpr hk))
    generalize s.commandToNormal.keyboardArrival 0 [] = u at *
    exact ⟨rfl, congrArg (·.2.2.1) image, congrArg (·.2.2.2.1) image, hkm, t0, t1, rfl, rfl,
      (congrArg (·.2.1) image).trans (congrArg (·.2.1) before), (congrArg (·.2.2.2.2) image).trans (congrArg (·.2.2.2.2) before), outer, gone⟩
  · refine ⟨_, run .pointer, ?_⟩
    rw [State.deviceDisconnects, State.finalArrival_pointer ready]
    have side : (s.buttonArrival 0 0 0 0).consoleSide = (s.setCiu { s.ciu with buttons := 0 }).consoleSide :=
      State.pointerArrival_consoleSide ..
    generalize s.buttonArrival 0 0 0 0 = u at side
    exact ⟨rfl, congrArg (·.1.2.2.2.2) side, congrArg (·.1.1) side, congrArg (·.1.2.2.1) side, congrArg (·.1.2.2.2.1) side,
      congrArg (·.2.1) side⟩

end Sys2Proof.Machine


/-! Video source channels: frames, lock, still pictures and loss (08, R126 to R132). -/

namespace Sys2Proof.Machine

theorem Channel.frameStart_of_noSignal {c : Channel} (h : c.lock = .noSignal) (period : Nat) (f : Frame) (threshold : Nat) :
    c.frameStart period f threshold = { c with lock := .measuring, lossTimer := .running 200 0 } := by
  unfold Channel.frameStart
  rw [h]
  rfl

theorem Channel.frameStart_of_signal {c : Channel} (h : c.lock ≠ .noSignal) (period : Nat) (f : Frame) (threshold : Nat) :
    c.frameStart period f threshold = c.complete period f threshold := by
  unfold Channel.frameStart
  split
  next none => exact absurd none h
  · rfl
  · rfl

/-- Every marker starts the loss timer anew (08, R127, R130). -/
theorem Channel.frameStart_lossTimer (c : Channel) (period : Nat) (f : Frame) (threshold : Nat) :
    (c.frameStart period f threshold).lossTimer = .running 200 0 := by
  by_cases h : c.lock = .noSignal
  · rw [Channel.frameStart_of_noSignal h]
  · rw [Channel.frameStart_of_signal h]
    rfl

theorem Channel.judgeFrame_of_unusable (c : Channel) (signature : BitVec 32) (threshold : Nat) :
    c.judgeFrame none signature threshold = c.measure 0 0 := rfl

theorem Channel.judgeFrame_of_other (c : Channel) {w h : Nat} (other : c.width ≠ w ∨ c.height ≠ h) (signature : BitVec 32)
    (threshold : Nat) : c.judgeFrame (some (w, h)) signature threshold = c.measure w h :=
  if_neg fun same => other.elim (fun hw => hw same.1.symm) fun hh => hh same.2.symm

theorem Channel.judgeFrame_of_repeated (c : Channel) {w h : Nat} (hw : c.width = w) (hh : c.height = h) (signature : BitVec 32)
    (threshold : Nat) : (c.lock = .measuring → c.judgeFrame (some (w, h)) signature threshold = c.lockOn) ∧
      (c.lock = .locked → c.judgeFrame (some (w, h)) signature threshold = c.compare signature threshold) := by
  refine ⟨fun lock => ?_, fun lock => ?_⟩ <;>
  · unfold Channel.judgeFrame
    dsimp only
    rw [if_pos ⟨hw.symm, hh.symm⟩, lock]

/-- Settles O38. -/
theorem channelsMeasureLockAndLose : Obligations.ChannelsMeasureLockAndLose := by
  intro s n period f taking
  let c := s.channel n
  let c' := c.frameStart period.val f (s.source n).stillThreshold
  have after : (s.frameStarts n period.val f).channel n = c' := by
    unfold State.frameStarts
    dsimp only
    split <;> exact Table.get_put_same ..
  have others (m : SourceIx) (hm : m ≠ n) : (s.frameStarts n period.val f).channel m = s.channel m := by
    unfold State.frameStarts
    dsimp only
    split <;> exact Table.get_put_ne _ _ hm
  refine ⟨_, exec_frameStart taking n period f, ?_⟩
  rw [after]
  have completes (h : c.lock ≠ .noSignal) : c' = c.complete period.val f (s.source n).stillThreshold :=
    Channel.frameStart_of_signal h ..
  have signal {l : Lock} (h : c.lock = l) (hl : l ≠ .noSignal) : c.lock ≠ .noSignal := h ▸ hl
  refine ⟨?_, ?_, others, Channel.frameStart_lossTimer .., ?_, fun none => Channel.frameStart_of_noSignal none .., fun h => ?_,
    fun h unusable => ?_, fun w l size lock hw hl => ?_, fun w l size h other => ?_, fun w l size lock hw hl => ?_, fun due => ?_,
    fun early => ?_⟩
  · unfold State.frameStarts
    dsimp only
    split <;> rfl
  · unfold State.frameStarts
    dsimp only
    split <;> rfl
  · rfl
  · rw [completes h]
    exact ⟨rfl, rfl⟩
  · rw [completes h, Channel.complete, unusable, Channel.judgeFrame_of_unusable]
    exact ⟨rfl, rfl, rfl, rfl⟩
  · rw [completes (signal lock (by decide)), Channel.complete, size, (Channel.judgeFrame_of_repeated c hw hl _ _).1 lock]
    exact ⟨rfl, rfl, rfl⟩
  · rw [completes h, Channel.complete, size, Channel.judgeFrame_of_other c other]
    exact ⟨rfl, rfl, rfl, rfl⟩
  · rw [completes (signal lock (by decide)), Channel.complete, size, (Channel.judgeFrame_of_repeated c hw hl _ _).2 lock]
    refine ⟨lock, ?_, ?_⟩
    · show nextStillCount _ _ = _
      simp only [nextStillCount, decide_eq_true_eq]
      rfl
    · exact decide_eq_true_iff
  · have lost : s.lossExpires n = if (s.channel n).lock = .locked then (s.setChannel n Channel.reset).raiseEvent .sourceLost
        else s.setChannel n Channel.reset := if_pos due
    refine ⟨_, exec_lossTimerExpiry taking n, ?_⟩
    rw [lost]
    refine ⟨?_, fun m hm => ?_, rfl⟩
    · split <;> exact Table.get_put_same ..
    · split <;> exact Table.get_put_ne _ _ hm
  · have stays : s.lossExpires n = s := if_neg (by simp [early])
    rw [exec_lossTimerExpiry taking, stays]

end Sys2Proof.Machine


/-! Heads: their samples, and the pictures composed from them (09, R139, R151 to R159). -/

namespace Sys2Proof.Machine

/-! ### The first of a rising list -/

theorem find?_of_first {n : Nat} {l : List (Fin n)} {q : Fin n → Bool} {i : Fin n} (rising : l.Pairwise (· < ·)) (hi : i ∈ l)
    (hq : q i = true) (first : ∀ j, j < i → q j = false) : l.find? q = some i := by
  induction l with
  | nil => cases hi
  | cons a l ih =>
    obtain ⟨above, rising⟩ := List.pairwise_cons.mp rising
    rcases List.mem_cons.mp hi with rfl | hi
    · exact List.find?_cons_of_pos hq
    · rw [List.find?_cons_of_neg (by rw [first a (above i hi)]; decide)]
      exact ih rising hi

theorem allSixteen_rising : allSixteen.Pairwise (· < ·) := by decide

theorem allDisplays_rising : allDisplays.Pairwise (· < ·) := by decide

/-! ### Blankings (09, R139, R157, R158) -/

theorem State.headBlanks_of_stopped {s : State} {d : DisplayIx} (h : (s.cmp.heads.get d).running = false) :
    s.headBlanks (.display d) = s := by simp [State.headBlanks, h]

theorem State.headBlanks_of_plain {s : State} {d : DisplayIx} (h : (s.cmp.heads.get d).running = true) (none : s.cmp.armed.get d = none) :
    s.headBlanks (.display d) = s.blankHead d (s.cmp.heads.get d).values := by simp [State.headBlanks, h, none]

theorem State.headBlanks_of_armed {s : State} {d : DisplayIx} {a : ArmedLayout} (h : (s.cmp.heads.get d).running = true)
    (some : s.cmp.armed.get d = some a) : s.headBlanks (.display d) = s.activate [d] := by simp [State.headBlanks, h, some]

/-- A blanking of running DS (09, R157, R158). -/
theorem State.blankShare_of_running {s : State} (h : s.cmp.ds.running = true) : s.blankShare =
    let values := if s.cmp.shareWritten = true then
      (match s.tables.shareRecord with | some p => s.tables.profiles.get p | none => s.cmp.ds.values) else s.cmp.ds.values
    let s1 := s.setCmp { s.cmp with selection := s.cmp.requested, shareWritten := false }
    s1.setCmp { s1.cmp with ds := ⟨true, values, s.cmp.ds.values, some (s1.sample s.cmp.requested)⟩ } := by
  unfold State.blankShare
  simp only [h, Bool.true_eq_false, or_false, if_true]
  rfl

theorem blankings (s : State) (taking : s.taking = true) :
    (∀ d, (s.cmp.heads.get d).running = false → exec (.verticalBlanking (.display d)) s = .next s) ∧
    (s.cmp.ds.running = false → exec (.verticalBlanking .share) s = .next s) ∧
    (∀ d, (s.cmp.heads.get d).running = true → s.cmp.armed.get d = none →
      exec (.verticalBlanking (.display d)) s = .next (s.blankHead d (s.cmp.heads.get d).values)) ∧
    (s.cmp.ds.running = true → exec (.verticalBlanking .share) s = .next s.blankShare) := by
  refine ⟨fun d h => ?_, fun h => ?_, fun d h none => ?_, fun h => ?_⟩ <;> rw [exec_verticalBlanking taking]
  · rw [State.headBlanks_of_stopped h]
  · exact congrArg _ (if_neg (by simp [h]))
  · rw [State.headBlanks_of_plain h none]
  · exact congrArg _ (if_pos h)

/-! ### Samples (09, R139, R155; 07, R117) -/

theorem Atu.mark_eq_attended_iff (a : Atu) (n : Slot) :
    a.mark n = .attended ↔ ∃ top rest, a.stack = top :: rest ∧ top.slot = n := by
  unfold Atu.mark
  cases a.stack with
  | nil => simp; split <;> simp
  | cons top rest =>
    by_cases h : top.slot = n
    · simp [h]
    · simp [h]
      split <;> simp

theorem Atu.mark_eq_showing_iff (a : Atu) (n : Slot) : a.mark n = .showing ↔
    (∀ top rest, a.stack = top :: rest → top.slot ≠ n) ∧
      ∃ e ∈ a.alerts, e.slot = n ∧ ∀ top rest, a.stack = top :: rest → top.level < e.level := by
  unfold Atu.mark Atu.showing
  cases a.stack with
  | nil => simp
  | cons top rest =>
    by_cases h : top.slot = n
    · simp [h]
    · simp [h]

/-- The overlay cursor's sprite at P, place by place (09, R155). -/
theorem State.cursorAt_spec (s : State) (d : DisplayIx) :
    let within : Prop := ∃ r, (s.cmp.active.displays.get d).rect = some r ∧ r.holds s.gu.px s.gu.py = true
    (¬within → s.cursorAt d = none) ∧
    (within → (s.cmp.active.tileAt s.gu.px s.gu.py = none → s.cursorAt d = some .gap) ∧
      ∀ i, s.cmp.active.tileAt s.gu.px s.gu.py = some i →
        (s.tileSlot i = none → s.cursorAt d = some .blocked) ∧
        ∀ n, s.tileSlot i = some n →
          let barred : Prop := s.tileMode i = .none ∨ (s.access n).inputAllowed = false
          (barred → s.cursorAt d = some .blocked) ∧ (¬barred → s.link n ≠ .active → s.cursorAt d = some .waiting) ∧
          (¬barred → s.link n = .active →
            ((s.cmp.active.tiles.get i).cursorMode = .overlay → s.cursorAt d = some .normal) ∧
            ((s.cmp.active.tiles.get i).cursorMode = .own → s.cursorAt d = none))) := by
  intro within
  have test : (s.cmp.active.displays.get d).rect.any (·.holds s.gu.px s.gu.py) = true ↔ within := Option.any_eq_true _ _
  refine ⟨fun outside => if_neg fun h => outside (test.mp h), fun inside => ?_⟩
  have here : s.cursorAt d = _ := if_pos (test.mpr inside)
  rw [here]
  refine ⟨fun gap => by rw [gap], fun i hi => ?_⟩
  rw [hi]
  dsimp only
  refine ⟨fun unbound => by rw [unbound], fun n hn => ?_⟩
  rw [hn]
  dsimp only
  refine ⟨fun barred => if_pos barred, fun free waiting => ?_, fun free active => ?_⟩
  · rw [if_neg free, if_pos waiting]
  · rw [if_neg free, if_neg (not_not_intro active)]
    exact ⟨fun overlay => by rw [overlay], fun own => by rw [own]⟩

/-! ### Pictures (09, R151 to R155) -/

/-- Tile `i` covers display pixel (col, row) of display `d`. -/
def Sample.Covers (p : Sample) (d : DisplayIx) (col row : Nat) (i : TileIx) : Prop :=
  let t := p.layout.tiles.get i
  t.enabled = true ∧ t.display = d ∧ t.x ≤ col ∧ col < t.x + t.w ∧ t.y ≤ row ∧ row < t.y + t.h

/-- The test by which the tile of a pixel is found. -/
def TileRecord.coversPixel (t : TileRecord) (d : DisplayIx) (col row : Nat) : Bool :=
  t.enabled && decide (t.display = d) &&
    decide (t.x ≤ col) && decide (col < t.x + t.w) && decide (t.y ≤ row) && decide (row < t.y + t.h)

theorem Sample.covers_iff (p : Sample) (d : DisplayIx) (col row : Nat) (i : TileIx) :
    (p.layout.tiles.get i).coversPixel d col row = true ↔ p.Covers d col row i := by
  simp [TileRecord.coversPixel, Sample.Covers, and_assoc]

theorem Sample.tileOf_eq (p : Sample) (d : DisplayIx) (col row : Nat) : p.tileOf d col row =
    (allSixteen.find? fun i => (p.layout.tiles.get i).coversPixel d col row).map p.layout.tiles.get :=
  List.find?_map ..

theorem Sample.tileOf_of_uncovered {p : Sample} {d : DisplayIx} {col row : Nat} (h : ∀ i, ¬ p.Covers d col row i) :
    p.tileOf d col row = none := by
  rw [Sample.tileOf_eq, List.find?_eq_none.mpr fun i _ hi => h i ((p.covers_iff d col row i).mp hi)]
  rfl

theorem Sample.tileOf_of_covered {p : Sample} {d : DisplayIx} {col row : Nat} {i : TileIx} (h : p.Covers d col row i)
    (first : ∀ j, j < i → ¬ p.Covers d col row j) : p.tileOf d col row = some (p.layout.tiles.get i) := by
  rw [Sample.tileOf_eq, find?_of_first allSixteen_rising (mem_allSixteen i) ((p.covers_iff d col row i).mpr h) fun j hj =>
    Bool.eq_false_iff.mpr fun hc => first j hj ((p.covers_iff d col row j).mp hc)]
  rfl

theorem Sample.tileColor_of_none {p : Sample} {d : DisplayIx} {col row : Nat} (h : p.tileOf d col row = none) (f : Bool) :
    p.tileColor d f col row = p.colors.get 0 := by
  rw [Sample.tileColor, h]
  rfl

theorem Sample.tileColor_of_some {p : Sample} {d : DisplayIx} {col row : Nat} {t : TileRecord} (h : p.tileOf d col row = some t)
    (f : Bool) : p.tileColor d f col row = if f && p.withheld t then p.colors.get 7
      else if t.inBorder (col - t.x) (row - t.y) then p.borderColor t else p.content t (col - t.x) (row - t.y) := by
  rw [Sample.tileColor, h]
  rfl

theorem Sample.withheld_iff (p : Sample) (t : TileRecord) : p.withheld t = true ↔
    ∀ n, (p.sources.get t.source).bound = some n → (p.slots.get n).shareAllowed = false := by
  unfold Sample.withheld Sample.tileSlot
  cases (p.sources.get t.source).bound <;> simp

theorem TileRecord.inBorder_iff (t : TileRecord) (i j : Nat) : t.inBorder i j = true ↔
    i < t.border ∨ j < t.border ∨ t.w < i + 1 + t.border ∨ t.h < j + 1 + t.border := by
  simp [TileRecord.inBorder, or_assoc]

/-- The mark that colours a tile's border: its slot's, where its source is bound. -/
def Sample.tileMark (p : Sample) (t : TileRecord) : Mark :=
  match p.tileSlot t with
  | some n => (p.slots.get n).mark
  | none => .none

theorem Sample.borderColor_eq (p : Sample) (t : TileRecord) : p.borderColor t =
    if p.tileMark t = .attended then p.colors.get 4
    else if p.tileMark t = .showing then (if p.blink then p.colors.get 3 else p.colors.get 1)
    else if (p.sources.get t.source).still then p.colors.get 5
    else if (p.tileSlot t).isSome ∧ p.tileSlot t = p.focus then p.colors.get 2 else p.colors.get 1 := rfl

theorem Sample.tileMark_iff (p : Sample) (t : TileRecord) {m : Mark} (hm : m ≠ .none) :
    p.tileMark t = m ↔ ∃ n, (p.sources.get t.source).bound = some n ∧ (p.slots.get n).mark = m := by
  unfold Sample.tileMark Sample.tileSlot
  cases (p.sources.get t.source).bound <;> simp [hm.symm]

/-- The border's colour, condition by condition (09, R152). -/
theorem Sample.borderColor_spec (p : Sample) (t : TileRecord) :
    let source := p.sources.get t.source
    let marked (m : Mark) : Prop := ∃ n, source.bound = some n ∧ (p.slots.get n).mark = m
    (marked .attended → p.borderColor t = p.colors.get 4) ∧
    (marked .showing → p.borderColor t = p.colors.get (if p.blink = true then 3 else 1)) ∧
    (¬marked .attended → ¬marked .showing →
      (source.still = true → p.borderColor t = p.colors.get 5) ∧
      (source.still = false → p.borderColor t =
        p.colors.get (if source.bound.isSome = true ∧ source.bound = p.focus then 2 else 1))) := by
  intro source marked
  have attended : p.tileMark t = .attended ↔ marked .attended := p.tileMark_iff t (by decide)
  have showing : p.tileMark t = .showing ↔ marked .showing := p.tileMark_iff t (by decide)
  rw [Sample.borderColor_eq]
  refine ⟨fun h => if_pos (attended.mpr h), fun h => ?_, fun h h' => ⟨fun still => ?_, fun moving => ?_⟩⟩
  · have mark := showing.mpr h
    rw [if_neg (by rw [mark]; decide), if_pos mark]
    split <;> rfl
  all_goals rw [if_neg (attended.not.mpr h), if_neg (showing.not.mpr h')]
  · exact if_pos still
  · rw [if_neg (by rw [show (p.sources.get t.source).still = false from moving]; decide)]
    show (if source.bound.isSome = true ∧ source.bound = p.focus then p.colors.get 2 else p.colors.get 1) = _
    split <;> rfl

/-- A pixel of a tile: PRIVACY, its border or its content (09, R151, R152, R159). -/
theorem Sample.tileColor_spec {p : Sample} {d : DisplayIx} {col row : Nat} {i : TileIx} (covers : p.Covers d col row i)
    (first : ∀ j, j < i → ¬ p.Covers d col row j) :
    let t := p.layout.tiles.get i
    let x := col - t.x
    let y := row - t.y
    (p.withheld t = true → p.tileColor d true col row = p.colors.get 7) ∧
    (¬ p.withheld t = true → p.tileColor d true col row = p.tileColor d false col row) ∧
    (t.inBorder x y = true → p.tileColor d false col row = p.borderColor t) ∧
    (¬ t.inBorder x y = true → p.tileColor d false col row = p.content t x y) := by
  intro t x y
  have color := Sample.tileColor_of_some (Sample.tileOf_of_covered covers first)
  have plain : ¬ (false && p.withheld t) = true := by simp
  rw [color, color]
  refine ⟨fun h => if_pos (by simpa using h), fun h => ?_, fun h => ?_, fun h => ?_⟩
  · have shared : ¬ (true && p.withheld t) = true := by simpa using h
    rw [if_neg shared, if_neg plain]
  all_goals rw [if_neg plain]
  · exact if_pos h
  · exact if_neg h

theorem Sample.content_eq (p : Sample) (t : TileRecord) (x y : Nat) : p.content t x y =
    let source := p.sources.get t.source
    if source.locked then ((source.frame.getD (y * source.height / t.h) []).getD (x * source.width / t.w) ⟨0, 0, 0⟩)
    else p.colors.get 6 := rfl

/-! ### The overlay cursor (09, R155; 13, section 13.2) -/

theorem Table.toList_getD {α : Type} {n : Nat} (t : Table α n) (i : Fin n) (x : α) : t.toList.getD i.val x = t.get i := by
  simp [List.getD, Table.get]

theorem Sample.spritePixel_eq (p : Sample) (k : Sprite) {u v : Nat} {group byteAt : Fin 32}
    (hgroup : group.val = k.number.val * 8 + v / 4) (hbyte : byteAt.val = 8 * (v % 4) + u / 4) :
    p.spritePixel k u v = ((p.sprites.get group).get byteAt).toNat / 4 ^ (u % 4) % 4 := by
  unfold Sample.spritePixel
  rw [← hgroup, ← hbyte, Table.toList_getD p.sprites group]
  dsimp only
  rw [Table.toList_getD (p.sprites.get group) byteAt]

/-- The colour of a sprite's pixel value; 0 is transparent. -/
def Sample.spriteColor (p : Sample) : Nat → Option Rgb
  | 1 => some (p.colors.get 8)
  | 2 => some (p.colors.get 9)
  | 3 => some (p.colors.get 10)
  | _ => none

theorem Sample.cursorColor_of_none {p : Sample} (h : p.cursor = none) (d : DisplayIx) (col row : Nat) :
    p.cursorColor d col row = none := by
  rw [Sample.cursorColor, h]
  rfl

/-- The sprite's column of a display column. -/
def Sample.spriteColumn (p : Sample) (d : DisplayIx) (k : Sprite) (col : Nat) : Int :=
  col - (p.px - (p.layout.displays.get d).record.ox - (p.hotSpots.get k.number).hx)

/-- The sprite's row of a display row. -/
def Sample.spriteRow (p : Sample) (d : DisplayIx) (k : Sprite) (row : Nat) : Int :=
  row - (p.py - (p.layout.displays.get d).record.oy - (p.hotSpots.get k.number).hy)

theorem Sample.cursorColor_of_some {p : Sample} {k : Sprite} (h : p.cursor = some k) (d : DisplayIx) (col row : Nat) :
    p.cursorColor d col row =
      if 0 ≤ p.spriteColumn d k col ∧ p.spriteColumn d k col < 32 ∧ 0 ≤ p.spriteRow d k row ∧ p.spriteRow d k row < 32 then
        p.spriteColor (p.spritePixel k (p.spriteColumn d k col).toNat (p.spriteRow d k row).toNat)
      else none := by
  rw [Sample.cursorColor, h]
  rfl

/-- A display's pixel: the cursor over what lies under it (09, R155). -/
theorem Sample.displayPixel_of_some {p : Sample} {d : DisplayIx} {col row : Nat} {c : Rgb} (h : p.cursorColor d col row = some c) :
    p.displayPixel d col row = c := by
  rw [Sample.displayPixel, h]
  rfl

theorem Sample.displayPixel_of_none {p : Sample} {d : DisplayIx} {col row : Nat} (h : p.cursorColor d col row = none) :
    p.displayPixel d col row = p.tileColor d false col row := by
  rw [Sample.displayPixel, h]
  rfl

/-! ### DS's picture (09, R158, R159) -/

theorem Sample.sharePixel_of_shown {p : Sample} {d : DisplayIx} (h : p.selection = some d)
    (enabled : (p.layout.displays.get d).record.profile ≠ none) (v : FrameValues) (col row : Nat) :
    let shown := (p.layout.displays.get d).values
    let x := col * shown.width / v.width
    let y := row * shown.height / v.height
    p.sharePixel v col row = if p.shareCursor then (p.cursorColor d x y).getD (p.tileColor d true x y) else p.tileColor d true x y := by
  intro shown x y
  rw [Sample.sharePixel, h]
  exact if_neg (by simpa using enabled)

/-- Settles O39: blankings, samples, and the pictures layer by layer. -/
theorem headsSampleAtTheirBlanking : Obligations.HeadsSampleAtTheirBlanking := by
  refine ⟨fun s taking => ?_, fun s shown => ?_, fun p d col row => ?_, fun p v col row => ?_, fun s col row => ?_⟩
  · obtain ⟨stopped, shareStopped, plain, share⟩ := blankings s taking
    refine ⟨stopped, shareStopped, fun d running none => plain d running none, ?_⟩
    intro running values
    refine ⟨_, share running, ?_⟩
    rw [State.blankShare_of_running running]
    exact ⟨rfl, rfl, rfl, rfl⟩
  · intro p
    refine ⟨rfl, rfl, rfl, rfl, rfl, rfl, rfl, rfl, rfl, rfl, fun n => ?_, fun n => ?_, fun hnone => ?_, fun d hd => ?_⟩
    · have source : p.sources.get n = s.sampleSource n := Table.get_tab ..
      rw [source]
      exact ⟨rfl, decide_eq_true_iff, rfl, rfl, rfl, rfl⟩
    · have slot : p.slots.get n = s.sampleSlot n := Table.get_tab ..
      rw [slot]
      exact ⟨rfl, rfl, rfl, s.atu.mark_eq_attended_iff n, s.atu.mark_eq_showing_iff n⟩
    · show shown.bind s.cursorAt = none
      rw [hnone]
      rfl
    · have cursor : p.cursor = s.cursorAt d := by
        show shown.bind s.cursorAt = _
        rw [hd]
        rfl
      rw [cursor]
      exact s.cursorAt_spec d
  · intro covers
    refine ⟨fun bare f => Sample.tileColor_of_none (Sample.tileOf_of_uncovered bare) f, fun i hi first => ?_, fun hnone => ?_,
      fun k hk => ?_⟩
    · intro t source x y inBorder withheld marked
      obtain ⟨privacy, shared, border, content⟩ := Sample.tileColor_spec (p := p) hi first
      obtain ⟨attended, showing, plain⟩ := p.borderColor_spec t
      have hwithheld : p.withheld t = true ↔ withheld := p.withheld_iff t
      have hborder : t.inBorder x y = true ↔ inBorder := t.inBorder_iff x y
      refine ⟨fun h => privacy (hwithheld.mpr h), fun h => shared (hwithheld.not.mpr h), fun h => ?_, fun h => ?_⟩
      · rw [border (hborder.mpr h)]
        exact ⟨attended, showing, plain⟩
      · rw [content (hborder.not.mpr h), Sample.content_eq]
        refine ⟨fun unlocked => if_neg ?_, fun locked => if_pos locked⟩
        rw [show (p.sources.get t.source).locked = false from unlocked]
        decide
    · exact Sample.displayPixel_of_none (Sample.cursorColor_of_none hnone d col row)
    · intro number spot c r
      have drawn := Sample.cursorColor_of_some hk d col row
      have number_eq : k.number.val = number := by cases k <;> rfl
      refine ⟨number_eq, fun outside => ?_, fun u w group byteAt hc hr hu hw hgroup hbyte => ?_⟩
      · exact Sample.displayPixel_of_none (drawn.trans (if_neg outside))
      · have inside : 0 ≤ c ∧ c < 32 ∧ 0 ≤ r ∧ r < 32 := by omega
        have drawnHere : 0 ≤ p.spriteColumn d k col ∧ p.spriteColumn d k col < 32 ∧ 0 ≤ p.spriteRow d k row ∧
            p.spriteRow d k row < 32 := inside
        have column : (p.spriteColumn d k col).toNat = u := by
          rw [show p.spriteColumn d k col = u from hc, Int.toNat_natCast]
        have row' : (p.spriteRow d k row).toNat = w := by
          rw [show p.spriteRow d k row = w from hr, Int.toNat_natCast]
        have color : p.cursorColor d col row =
            p.spriteColor (((p.sprites.get group).get byteAt).toNat / 4 ^ (u % 4) % 4) := by
          rw [drawn, if_pos drawnHere, column, row',
            Sample.spritePixel_eq p k (by rw [number_eq, hgroup, Nat.mul_comm]) hbyte]
        generalize ((p.sprites.get group).get byteAt).toNat / 4 ^ (u % 4) % 4 = value at color ⊢
        match value with
        | 0 => exact Sample.displayPixel_of_none color
        | 1 | 2 | 3 => exact Sample.displayPixel_of_some color
        | _ + 4 => exact Sample.displayPixel_of_none color
  · refine ⟨fun off => ?_, fun d hd => ?_⟩
    · rw [Sample.sharePixel, off]
      rfl
    · intro shown x y
      refine ⟨fun none => ?_, fun enabled => ?_⟩
      · rw [Sample.sharePixel, hd]
        exact if_pos (by simp [none])
      · have pixel : p.sharePixel v col row = _ := Sample.sharePixel_of_shown hd enabled v col row
        rw [pixel]
        refine ⟨fun h => ?_, fun flag => ?_⟩
        · rcases h with flag | none
          · exact if_neg (by simp [flag])
          · rw [Sample.cursorColor_of_none none]
            exact ite_self _
        · rw [if_pos flag]
          refine ⟨fun none => ?_, fun c hc => ⟨?_, Sample.displayPixel_of_some hc⟩⟩
          · show (p.cursorColor d x y).getD _ = _
            rw [none]
            rfl
          · show (p.cursorColor d x y).getD _ = _
            rw [hc]
            rfl
  · refine ⟨fun d p running sample hc hr => ?_, fun d stopped => ?_, fun p running sample hc hr => ?_, fun stopped => ?_⟩
    · exact (if_pos ⟨running, hc, hr⟩).trans (by rw [sample]; rfl)
    · exact if_neg (by simp [stopped])
    · exact (if_pos ⟨running, hc, hr⟩).trans (by rw [sample]; rfl)
    · exact if_neg (by simp [stopped])

end Sys2Proof.Machine


/-! Activation of armed layouts: the group, its installation, its heads, and the re-evaluation of P (09, R147 to R149; 03, R59). -/

namespace Sys2Proof.Machine

/-! ### The group (09, R148) -/

theorem Rect.meets_iff (a b : Rect) : a.meets b = true ↔ ∃ x y, a.holds x y = true ∧ b.holds x y = true := by
  simp only [Rect.meets, Rect.holds, Bool.and_eq_true, decide_eq_true_eq]
  constructor
  · intro h
    exact ⟨max a.x b.x, max a.y b.y, by omega⟩
  · rintro ⟨x, y, h⟩
    omega

theorem Cmp.joins_iff (c : Cmp) (g : List DisplayIx) (e : DisplayIx) : c.joins g e = true ↔
    ∃ f ∈ g, f ≠ e ∧ ∃ p q x y, c.newRect f = some p ∧ (c.active.displays.get e).rect = some q ∧
      p.holds x y = true ∧ q.holds x y = true := by
  unfold Cmp.joins
  cases (c.active.displays.get e).rect with
  | none => simp
  | some q =>
    simp only [List.any_eq_true, Bool.and_eq_true, decide_eq_true_eq, Option.any_eq_true, Rect.meets_iff]
    refine exists_congr fun f => and_congr_right fun _ => and_congr_right fun _ => ?_
    constructor
    · rintro ⟨p, hp, x, y, h⟩
      exact ⟨p, q, x, y, hp, rfl, h⟩
    · rintro ⟨p, q', x, y, hp, hq, h⟩
      obtain rfl := Option.some.inj hq
      exact ⟨p, hp, x, y, h⟩

theorem Cmp.mem_growGroup (c : Cmp) (g : List DisplayIx) (e : DisplayIx) : e ∈ c.growGroup g ↔ e ∈ g ∨ c.joins g e = true := by
  simp [Cmp.growGroup, mem_allDisplays]

/-- The displays of one round of joining, as a set. -/
def Cmp.grown (c : Cmp) (g : Finset DisplayIx) : Finset DisplayIx :=
  Finset.univ.filter fun e => e ∈ g ∨ ∃ f ∈ g, c.joins [f] e = true

theorem Cmp.joins_iff_one (c : Cmp) (g : List DisplayIx) (e : DisplayIx) : c.joins g e = true ↔ ∃ f ∈ g, c.joins [f] e = true := by
  simp only [Cmp.joins_iff, List.mem_singleton, exists_eq_left]

theorem Cmp.toFinset_growGroup (c : Cmp) (g : List DisplayIx) : (c.growGroup g).toFinset = c.grown g.toFinset := by
  ext e
  rw [List.mem_toFinset, Cmp.mem_growGroup, Cmp.joins_iff_one]
  simp [Cmp.grown]

theorem Cmp.subset_grown (c : Cmp) (g : Finset DisplayIx) : g ⊆ c.grown g := fun e he => by simp [Cmp.grown, he]

/-- A growing set of at most four displays stands still after as many rounds as there are displays outside it. -/
theorem grown_settles {f : Finset DisplayIx → Finset DisplayIx} (grows : ∀ g, g ⊆ f g) (g : Finset DisplayIx) (k : Nat) :
    f (f^[k] g) = f^[k] g ∨ g.card + k + 1 ≤ (f (f^[k] g)).card := by
  induction k with
  | zero =>
    by_cases still : f g = g
    · exact .inl still
    · exact .inr (Finset.card_lt_card ((grows g).ssubset_of_ne (Ne.symm still)))
  | succ k ih =>
    rw [Function.iterate_succ_apply']
    rcases ih with still | more
    · exact .inl (congrArg f still)
    · by_cases still : f (f (f^[k] g)) = f (f^[k] g)
      · exact .inl still
      · have := Finset.card_lt_card ((grows _).ssubset_of_ne (Ne.symm still))
        exact .inr (by omega)

/-- Three rounds settle the group (09, R148). -/
theorem Cmp.grown_group (c : Cmp) (start : List DisplayIx) : c.grown (c.group start).toFinset = (c.group start).toFinset := by
  have rounds : (c.group start).toFinset = c.grown^[3] start.toFinset := by
    simp only [Cmp.group, Cmp.toFinset_growGroup]
    rfl
  rw [rounds]
  rcases grown_settles c.subset_grown start.toFinset 3 with still | many
  · exact still
  · have few : (c.grown (c.grown^[3] start.toFinset)).card ≤ 4 := Finset.card_le_univ _
    have empty : start.toFinset = ∅ := Finset.card_eq_zero.mp (by omega)
    have nothing : c.grown ∅ = ∅ := by simp [Cmp.grown]
    rw [empty]
    simp [nothing]

theorem Cmp.group_closed (c : Cmp) (start : List DisplayIx) {e : DisplayIx} (h : c.joins (c.group start) e = true) :
    e ∈ c.group start := by
  have joined : e ∈ c.grown (c.group start).toFinset := by
    rw [← Cmp.toFinset_growGroup, List.mem_toFinset, Cmp.mem_growGroup]
    exact .inr h
  rwa [c.grown_group start, List.mem_toFinset] at joined

theorem Cmp.mem_group_of_start (c : Cmp) {start : List DisplayIx} {d : DisplayIx} (h : d ∈ start) : d ∈ c.group start :=
  (c.mem_growGroup _ d).mpr (.inl ((c.mem_growGroup _ d).mpr (.inl ((c.mem_growGroup _ d).mpr (.inl h)))))

theorem Cmp.group_nodup (c : Cmp) (start : List DisplayIx) : (c.group start).Nodup := by
  rw [Cmp.group, Cmp.growGroup]
  exact nodup_allDisplays.filter _

/-- The group is the least closed set. -/
theorem Cmp.group_least (c : Cmp) {start g : List DisplayIx} (hstart : ∀ d ∈ start, d ∈ g)
    (closed : ∀ e, c.joins g e = true → e ∈ g) : ∀ e ∈ c.group start, e ∈ g := by
  have round {h : List DisplayIx} (hh : ∀ e ∈ h, e ∈ g) : ∀ e ∈ c.growGroup h, e ∈ g := by
    intro e he
    rcases (c.mem_growGroup h e).mp he with he | he
    · exact hh e he
    · obtain ⟨f, hf, joined⟩ := (c.joins_iff_one h e).mp he
      exact closed e ((c.joins_iff_one g e).mpr ⟨f, hh f hf, joined⟩)
  exact round (round (round hstart))

/-! ### Installation (09, R147) -/

/-- One display's armed layout installed, where it holds one. -/
def Cmp.installOne (c : Cmp) (d : DisplayIx) : Cmp :=
  match c.armed.get d with
  | some a => { c with active := installArmed c.active d a, armed := c.armed.put d none }
  | none => c

theorem Cmp.installGroup_eq (c : Cmp) (g : List DisplayIx) : c.installGroup g = g.foldl Cmp.installOne c := rfl

/-- The armed layout of a display of a list. -/
def Cmp.armedIn (c : Cmp) (g : List DisplayIx) (e : DisplayIx) : Option ArmedLayout := if e ∈ g then c.armed.get e else none

theorem Cmp.armedIn_eq_some {c : Cmp} {g : List DisplayIx} {e : DisplayIx} {x : ArmedLayout} (h : c.armedIn g e = some x) :
    e ∈ g ∧ c.armed.get e = some x := by
  unfold Cmp.armedIn at h
  split at h
  · exact ⟨‹_›, h⟩
  · cases h

theorem Cmp.installOne_armed (c : Cmp) (d e : DisplayIx) :
    (c.installOne d).armed.get e = if e = d then none else c.armed.get e := by
  unfold Cmp.installOne
  split
  · exact Table.get_put ..
  next none =>
    by_cases h : e = d
    · rw [if_pos h, h, none]
    · rw [if_neg h]

theorem Cmp.installOne_armedIn (c : Cmp) {d : DisplayIx} {g : List DisplayIx} (h : d ∉ g) (e : DisplayIx) :
    (c.installOne d).armedIn g e = c.armedIn g e := by
  unfold Cmp.armedIn
  split
  next he => rw [Cmp.installOne_armed, if_neg (by rintro rfl; exact h he)]
  · rfl

theorem Cmp.armedIn_cons (c : Cmp) (d : DisplayIx) (g : List DisplayIx) (e : DisplayIx) :
    c.armedIn (d :: g) e = if e = d then c.armed.get d else c.armedIn g e := by
  unfold Cmp.armedIn
  by_cases h : e = d <;> simp [h]

/-- A tile without a claim: disabled where it was of the display installed (09, R147). -/
def TileRecord.unclaimed (t : TileRecord) (gone : Bool) : TileRecord :=
  if gone = true ∧ t.enabled = true then { t with enabled := false } else t

theorem TileRecord.unclaimed_display (t : TileRecord) (b : Bool) : (t.unclaimed b).display = t.display := by
  unfold TileRecord.unclaimed
  split <;> rfl

theorem TileRecord.unclaimed_unclaimed (t : TileRecord) (a b : Bool) : (t.unclaimed a).unclaimed b = t.unclaimed (a || b) := by
  unfold TileRecord.unclaimed
  cases a <;> cases b <;> cases h : t.enabled <;> simp [h]

theorem TileRecord.unclaimed_false (t : TileRecord) : t.unclaimed false = t := if_neg nofun

theorem Cmp.installOne_of_some {c : Cmp} {d : DisplayIx} {a : ArmedLayout} (h : c.armed.get d = some a) :
    c.installOne d = { c with active := installArmed c.active d a, armed := c.armed.put d none } := by
  unfold Cmp.installOne
  rw [h]

theorem Cmp.installOne_of_none {c : Cmp} {d : DisplayIx} (h : c.armed.get d = none) : c.installOne d = c := by
  unfold Cmp.installOne
  rw [h]

theorem Cmp.installOne_display (c : Cmp) (d e : DisplayIx) : (c.installOne d).active.displays.get e =
    if e = d then ((c.armed.get d).map ArmedLayout.display).getD (c.active.displays.get d) else c.active.displays.get e := by
  cases h : c.armed.get d with
  | none =>
    rw [Cmp.installOne_of_none h]
    by_cases he : e = d <;> simp [he]
  | some a =>
    rw [Cmp.installOne_of_some h]
    exact Table.get_put ..

theorem Cmp.installOne_tile_of_claimed {c : Cmp} {d : DisplayIx} {a : ArmedLayout} {i : TileIx} {t : TileRecord}
    (h : c.armed.get d = some a) (claim : a.claims.get i = some t) : (c.installOne d).active.tiles.get i = t := by
  rw [Cmp.installOne_of_some h]
  show (installArmed c.active d a).tiles.get i = t
  rw [installArmed, Table.get_tab, claim]

theorem Cmp.installOne_tile_of_unclaimed {c : Cmp} {d : DisplayIx} {i : TileIx}
    (h : ∀ a, c.armed.get d = some a → a.claims.get i = none) : (c.installOne d).active.tiles.get i =
      (c.active.tiles.get i).unclaimed (decide ((c.active.tiles.get i).display = d) && (c.armed.get d).isSome) := by
  cases ha : c.armed.get d with
  | none => rw [Cmp.installOne_of_none ha, Option.isSome_none, Bool.and_false, TileRecord.unclaimed_false]
  | some a =>
    rw [Cmp.installOne_of_some ha]
    show (installArmed c.active d a).tiles.get i = _
    rw [installArmed, Table.get_tab, h a ha, Option.isSome_some, Bool.and_true]
    dsimp only
    unfold TileRecord.unclaimed
    simp only [decide_eq_true_eq]

/-- What installing a group leaves: the displays' records, the armed layouts and the tiles. -/
theorem Cmp.installGroup_spec (c : Cmp) {g : List DisplayIx} (once : g.Nodup) :
    (∀ e, (c.installGroup g).active.displays.get e = ((c.armedIn g e).map ArmedLayout.display).getD (c.active.displays.get e)) ∧
    (∀ e, (c.installGroup g).armed.get e = if (c.armedIn g e).isSome then none else c.armed.get e) ∧
    (∀ i, (∀ e x, c.armedIn g e = some x → x.claims.get i = none) → (c.installGroup g).active.tiles.get i =
      (c.active.tiles.get i).unclaimed (c.armedIn g (c.active.tiles.get i).display).isSome) ∧
    (∀ i e x y, c.armedIn g e = some x → x.claims.get i = some y → y.display = e →
      (∀ f z, c.armedIn g f = some z → f ≠ e → z.claims.get i = none) → (c.installGroup g).active.tiles.get i = y) ∧
    c.installGroup g = { c with active := (c.installGroup g).active, armed := (c.installGroup g).armed } := by
  rw [Cmp.installGroup_eq]
  induction g generalizing c with
  | nil =>
    have none (e : DisplayIx) : c.armedIn [] e = none := rfl
    refine ⟨fun e => rfl, fun e => rfl, fun i _ => ?_, fun i e x y hx => ?_, rfl⟩
    · rw [none, Option.isSome_none, TileRecord.unclaimed_false]
      rfl
    · cases hx
  | cons d g ih =>
    obtain ⟨fresh, once⟩ := List.nodup_cons.mp once
    obtain ⟨displays, armed, unclaimed, claimed, rest⟩ := ih (c.installOne d) once
    simp only [Cmp.installOne_armedIn c fresh] at displays armed unclaimed claimed
    rw [List.foldl_cons]
    have notIn : c.armedIn g d = none := if_neg fresh
    have cons (e : DisplayIx) := c.armedIn_cons d g e
    refine ⟨fun e => ?_, fun e => ?_, fun i free => ?_, fun i e x y hx hy own others => ?_, ?_⟩
    · rw [displays, cons, Cmp.installOne_display]
      by_cases he : e = d
      · rw [if_pos he, if_pos he, he, notIn]
        rfl
      · rw [if_neg he, if_neg he]
    · rw [armed, cons, Cmp.installOne_armed]
      by_cases he : e = d
      · rw [if_pos he, if_pos he, he, notIn]
        cases c.armed.get d <;> rfl
      · rw [if_neg he, if_neg he]
    · have first := Cmp.installOne_tile_of_unclaimed (c := c) (d := d) (i := i)
        fun a ha => free d a (by rw [cons, if_pos rfl, ha])
      rw [unclaimed i fun e x hx => free e x (by
        rw [cons, if_neg (by rintro rfl; rw [notIn] at hx; cases hx), hx]), first, TileRecord.unclaimed_display,
        TileRecord.unclaimed_unclaimed, cons]
      by_cases hd : (c.active.tiles.get i).display = d
      · rw [if_pos hd, hd, notIn]
        simp
      · simp [hd]
    · by_cases he : e = d
      · subst he
        rw [cons, if_pos rfl] at hx
        have first := Cmp.installOne_tile_of_claimed hx hy
        rw [unclaimed i fun f z hz => others f z (by
          rw [cons, if_neg (by rintro rfl; rw [notIn] at hz; cases hz), hz]) (by rintro rfl; rw [notIn] at hz; cases hz),
          first, own, notIn, Option.isSome_none, TileRecord.unclaimed_false]
      · rw [cons, if_neg he] at hx
        exact claimed i e x y hx hy own fun f z hz hf => others f z (by
          rw [cons, if_neg (by rintro rfl; rw [notIn] at hz; cases hz), hz]) hf
    · rw [rest]
      unfold Cmp.installOne
      split <;> rfl

/-! ### Activation (09, R147 to R149) -/

/-- The displays of a group that hold an armed layout, installed and their heads settled: an activation but for the
re-evaluations of P. -/
def State.activated (s : State) (g : List DisplayIx) : State :=
  (s.cmp.activated g).foldl State.settleHead ((s.setCmp (s.cmp.installGroup g)).raiseEvent .layoutApplied)

theorem State.activate_eq (s : State) {start : List DisplayIx} (some : s.cmp.activated (s.cmp.group start) ≠ []) :
    s.activate start = State.reevaluate^[(s.cmp.activated (s.cmp.group start)).length] (s.activated (s.cmp.group start)) :=
  (if_neg some).trans (List.foldl_const ..)

theorem State.activate_of_none (s : State) {start : List DisplayIx} (none : s.cmp.activated (s.cmp.group start) = []) :
    s.activate start = s := if_pos none

theorem Cmp.mem_activated (c : Cmp) (g : List DisplayIx) (e : DisplayIx) : e ∈ c.activated g ↔ (c.armedIn g e).isSome = true := by
  unfold Cmp.activated Cmp.armedIn
  rw [List.mem_filter]
  by_cases h : e ∈ g <;> simp [h]

/-- An activation installs the group, raises LAYOUT_APPLIED once, and settles each activated head. -/
theorem State.activated_spec (s : State) {g : List DisplayIx} (once : g.Nodup) : ActivatesGroup s (s.activated g) g := by
  obtain ⟨displays, armed, unclaimed, claimed, rest⟩ := s.cmp.installGroup_spec once
  have settled := ((s.setCmp (s.cmp.installGroup g)).raiseEvent .layoutApplied).foldl_settleHead
    (l := s.cmp.activated g) (once.filter _)
  have hu : s.activated g = _ := settled
  generalize s.activated g = u at hu
  have active : u.cmp.active = (s.cmp.installGroup g).active := by rw [hu]; rfl
  have arms : u.cmp.armed = (s.cmp.installGroup g).armed := by rw [hu]; rfl
  have head (e : DisplayIx) : u.cmp.heads.get e = if (s.cmp.armedIn g e).isSome = true
      then ((s.setCmp (s.cmp.installGroup g)).raiseEvent .layoutApplied).settledHead e else s.cmp.heads.get e := by
    have heads : (s.cmp.installGroup g).heads = s.cmp.heads := by rw [rest]
    rw [hu]
    refine (Table.get_tab ..).trans ?_
    simp only [Cmp.mem_activated]
    rw [show ((s.setCmp (s.cmp.installGroup g)).raiseEvent .layoutApplied).cmp.heads = (s.cmp.installGroup g).heads from rfl, heads]
  refine ⟨?_, fun m => ?_, fun e he => ?_, fun e x hx => ?_, fun i free => ?_, fun i e x y hx hy own others => ?_⟩
  · rw [hu, rest]
    rfl
  · rw [hu]
    exact State.raiseEvent_events ..
  · have he : s.cmp.armedIn g e = none := he
    rw [head, active, arms, displays, armed, he]
    exact ⟨rfl, rfl, rfl⟩
  · have hx : s.cmp.armedIn g e = some x := hx
    have now : (s.cmp.installGroup g).active.displays.get e = x.display := by rw [displays, hx]; rfl
    have heads : (s.cmp.installGroup g).heads = s.cmp.heads := by rw [rest]
    have sample : ((s.setCmp (s.cmp.installGroup g)).raiseEvent .layoutApplied).sample (some e) = u.sample (some e) := by
      rw [hu]
      rfl
    have settledHead : ((s.setCmp (s.cmp.installGroup g)).raiseEvent .layoutApplied).settledHead e =
        if x.display.record.profile.isNone then Head.stopped
        else ⟨true, x.display.values, if (s.cmp.heads.get e).running then (s.cmp.heads.get e).values else x.display.values,
          some (u.sample (some e))⟩ := by
      unfold State.settledHead
      rw [sample, show ((s.setCmp (s.cmp.installGroup g)).raiseEvent .layoutApplied).cmp = s.cmp.installGroup g from rfl, now, heads]
    rw [head, active, arms, armed, hx, Option.isSome_some, if_pos rfl, if_pos rfl, settledHead]
    refine ⟨now, rfl, fun none => ?_, fun some => ?_⟩
    · rw [if_pos (by rw [none]; rfl)]
      rfl
    · exact if_neg (by simpa using some)
  · rw [active]
    exact unclaimed i free
  · rw [active]
    exact claimed i e x y hx hy own others

/-! ### The re-evaluation of P (03, R59) -/

theorem findSome?_of_first {α : Type} {n : Nat} {l : List (Fin n)} {f : Fin n → Option α} {i : Fin n} {a : α}
    (rising : l.Pairwise (· < ·)) (hi : i ∈ l) (hf : f i = some a) (first : ∀ j, j < i → f j = none) : l.findSome? f = some a := by
  induction l with
  | nil => cases hi
  | cons b l ih =>
    obtain ⟨above, rising⟩ := List.pairwise_cons.mp rising
    rcases List.mem_cons.mp hi with rfl | hi
    · rw [List.findSome?_cons, hf]
    · rw [List.findSome?_cons, first b (above i hi)]
      exact ih rising hi

theorem ActiveLayout.firstRect_of_first {l : ActiveLayout} {d : DisplayIx} {r : Rect} (h : (l.displays.get d).rect = some r)
    (first : ∀ e, e < d → (l.displays.get e).rect = none) : l.firstRect = some r :=
  findSome?_of_first allDisplays_rising (mem_allDisplays d) h first

theorem ActiveLayout.firstRect_of_none {l : ActiveLayout} (h : ∀ d, (l.displays.get d).rect = none) : l.firstRect = none := by
  rw [ActiveLayout.firstRect, List.findSome?_eq_none_iff]
  exact fun d _ => h d

theorem State.reevaluate_of_inside {s : State} {d : DisplayIx} (h : s.cmp.active.displayAt s.gu.px s.gu.py = some d) :
    s.reevaluate = s.reevaluateTo s.gu.px s.gu.py := by
  rw [State.reevaluate, h]

theorem State.reevaluate_of_outside {s : State} {r : Rect} (h : s.cmp.active.displayAt s.gu.px s.gu.py = none)
    (first : s.cmp.active.firstRect = some r) : s.reevaluate = s.reevaluateTo r.centreX r.centreY := by
  rw [State.reevaluate, h, first]

theorem State.reevaluate_of_empty {s : State} (h : s.cmp.active.firstRect = none) :
    s.reevaluate = s.reevaluateTo s.gu.px s.gu.py := by
  unfold State.reevaluate
  split
  next hr => rw [h] at hr; cases hr
  · rfl

/-- Settles O40. -/
theorem armedLayoutsApplyAtTheirBlanking : Obligations.ArmedLayoutsApplyAtTheirBlanking := by
  refine ⟨?_, ?_, ?_⟩
  · intro s d a taking running armed group
    have some : s.cmp.activated group ≠ [] := by
      refine List.ne_nil_of_mem (a := d) ((s.cmp.mem_activated group d).mpr ?_)
      rw [Cmp.armedIn, if_pos (s.cmp.mem_group_of_start (List.mem_singleton_self d)), armed]
      rfl
    refine ⟨s.activated group, ?_, s.activated_spec (s.cmp.group_nodup [d])⟩
    rw [exec_verticalBlanking taking, State.headBlanks_of_armed running armed, s.activate_eq some]
    rfl
  · intro c start rect renewed overlapped
    have joins (g : List DisplayIx) (e : DisplayIx) : c.joins g e = true ↔ overlapped g e := c.joins_iff g e
    exact ⟨fun d => c.mem_group_of_start, fun e he => c.group_closed start ((joins _ e).mpr he), c.group_nodup start,
      fun g hstart closed => c.group_least hstart fun e he => closed e ((joins g e).mp he)⟩
  · intro s relocated
    exact ⟨fun d => State.reevaluate_of_inside, fun d r outside hr first =>
      State.reevaluate_of_outside outside (ActiveLayout.firstRect_of_first hr first), fun none =>
      State.reevaluate_of_empty (ActiveLayout.firstRect_of_none none)⟩

end Sys2Proof.Machine


/-! What the ports, the wake sequences, the focus and the pointer never change: the Compositor and the Attention Unit. One lemma for
each operation, in the order of the model. -/

namespace Sys2Proof.Machine

/-- The Compositor and the Attention Unit. -/
def State.deskSide (s : State) : Cmp × Atu := (s.cmp, s.atu)

theorem State.cmp_of_side {s t : State} (h : t.deskSide = s.deskSide) : t.cmp = s.cmp := congrArg Prod.fst h
theorem State.atu_of_side {s t : State} (h : t.deskSide = s.deskSide) : t.atu = s.atu := congrArg Prod.snd h

@[simp] theorem State.setCiu_deskSide (s : State) (x : Ciu) : (s.setCiu x).deskSide = s.deskSide := rfl
@[simp] theorem State.setFc_deskSide (s : State) (x : Fc) : (s.setFc x).deskSide = s.deskSide := rfl
@[simp] theorem State.setHkm_deskSide (s : State) (x : CommandState) : (s.setHkm x).deskSide = s.deskSide := rfl
@[simp] theorem State.setGu_deskSide (s : State) (x : Gu) : (s.setGu x).deskSide = s.deskSide := rfl
@[simp] theorem State.setPorts_deskSide (s : State) (x : Table Port 8) : (s.setPorts x).deskSide = s.deskSide := rfl
@[simp] theorem State.setWakes_deskSide (s : State) (x : Table WakeRecord 8) : (s.setWakes x).deskSide = s.deskSide := rfl
@[simp] theorem State.setBank_deskSide (s : State) (x : Bank) : (s.setBank x).deskSide = s.deskSide := rfl
@[simp] theorem State.setMgi_deskSide (s : State) (x : Mgi) : (s.setMgi x).deskSide = s.deskSide := rfl
@[simp] theorem State.setTables_deskSide (s : State) (x : Tables) : (s.setTables x).deskSide = s.deskSide := rfl
@[simp] theorem State.setPort_deskSide (s : State) (n : Slot) (x : Port) : (s.setPort n x).deskSide = s.deskSide := rfl
@[simp] theorem State.setWake_deskSide (s : State) (n : Slot) (x : WakeRecord) : (s.setWake n x).deskSide = s.deskSide := rfl
@[simp] theorem State.setSent_deskSide (s : State) (n : Slot) (x : KeyImage) : (s.setSent n x).deskSide = s.deskSide := rfl
@[simp] theorem State.setDelivered_deskSide (s : State) (n : Slot) (x : Buttons) : (s.setDelivered n x).deskSide = s.deskSide := rfl
@[simp] theorem State.startTimer_deskSide (s : State) (i : TimerId) : (s.startTimer i).deskSide = s.deskSide := rfl
@[simp] theorem State.stopTimer_deskSide (s : State) (i : TimerId) : (s.stopTimer i).deskSide = s.deskSide := rfl
@[simp] theorem State.hold_deskSide (s : State) (k : Byte) (d : Destination) : (s.hold k d).deskSide = s.deskSide := rfl
@[simp] theorem State.raiseEvent_deskSide (s : State) (e : EventKind) : (s.raiseEvent e).deskSide = s.deskSide := rfl
@[simp] theorem State.updateLeds_deskSide (s : State) : s.updateLeds.deskSide = s.deskSide := rfl

@[simp] theorem State.settlePort_deskSide (s : State) (n : Slot) (p : Port) : (s.settlePort n p).deskSide = s.deskSide := by
  simp only [State.settlePort]
  repeat' (first | split | simp)

@[simp] theorem State.settleFlushedPort_deskSide (s : State) (n : Slot) (p : Port) : (s.settleFlushedPort n p).deskSide = s.deskSide := by
  simp only [State.settleFlushedPort]
  repeat' (first | split | simp)

@[simp] theorem State.suppressHeld_deskSide (s : State) (n : Slot) : (s.suppressHeld n).deskSide = s.deskSide := by
  simp only [State.suppressHeld]
  repeat' (first | split | simp)

@[simp] theorem State.suppressFocusModifiers_deskSide (s : State) (n : Slot) : (s.suppressFocusModifiers n).deskSide = s.deskSide := by
  simp only [State.suppressFocusModifiers]
  repeat' (first | split | simp)

@[simp] theorem State.fcLoss_deskSide (s : State) (n : Slot) : (s.fcLoss n).deskSide = s.deskSide := by
  simp only [State.fcLoss]
  repeat' (first | split | simp)

@[simp] theorem State.guLoss_deskSide (s : State) (n : Slot) : (s.guLoss n).deskSide = s.deskSide := by
  simp only [State.guLoss]
  repeat' (first | split | simp)

@[simp] theorem State.releaseFlush_deskSide (s : State) (n : Slot) : (s.releaseFlush n).deskSide = s.deskSide := by
  simp only [State.releaseFlush]
  repeat' (first | split | simp)

@[simp] theorem State.handOver_deskSide (s : State) (n : Slot) (e : Entry) : (s.handOver n e).deskSide = s.deskSide := by
  simp only [State.handOver]
  repeat' (first | split | simp)

@[simp] theorem State.queueImage_deskSide (s : State) (n : Slot) : (s.queueImage n).deskSide = s.deskSide := by
  simp only [State.queueImage]
  repeat' (first | split | simp)

@[simp] theorem State.stopWakeTimers_deskSide (s : State) (n : Slot) : (s.stopWakeTimers n).deskSide = s.deskSide := by
  simp only [State.stopWakeTimers]
  repeat' (first | split | simp)

@[simp] theorem State.setPhase_deskSide (s : State) (n : Slot) (p : Phase) : (s.setPhase n p).deskSide = s.deskSide := by
  simp only [State.setPhase]
  repeat' (first | split | simp)

@[simp] theorem State.applyHoldPolicy_deskSide (s : State) (n : Slot) : (s.applyHoldPolicy n).deskSide = s.deskSide := by
  simp only [State.applyHoldPolicy]
  repeat' (first | split | simp)

@[simp] theorem State.enterFailed_deskSide (s : State) (n : Slot) : (s.enterFailed n).deskSide = s.deskSide := by
  simp only [State.enterFailed]
  repeat' (first | split | simp)

@[simp] theorem State.enterLinePulse_deskSide (s : State) (n : Slot) : (s.enterLinePulse n).deskSide = s.deskSide := by
  simp only [State.enterLinePulse]
  repeat' (first | split | simp)

@[simp] theorem State.enterLineAwait_deskSide (s : State) (n : Slot) : (s.enterLineAwait n).deskSide = s.deskSide := by
  simp only [State.enterLineAwait]
  repeat' (first | split | simp)

@[simp] theorem State.wakeExhausted_deskSide (s : State) (n : Slot) : (s.wakeExhausted n).deskSide = s.deskSide := by
  simp only [State.wakeExhausted]
  repeat' (first | split | simp)

@[simp] theorem State.wakeOnActive_deskSide (s : State) (n : Slot) : (s.wakeOnActive n).deskSide = s.deskSide := by
  simp only [State.wakeOnActive]
  repeat' (first | split | simp)

@[simp] theorem State.enterSignal_deskSide (s : State) (n : Slot) : (s.enterSignal n).deskSide = s.deskSide := by
  simp only [State.enterSignal]
  repeat' (first | split | simp)

@[simp] theorem State.startSequence_deskSide (s : State) (n : Slot) : (s.startSequence n).1.deskSide = s.deskSide := by
  simp only [State.startSequence]
  repeat' (first | split | simp)

@[simp] theorem State.trigger_deskSide (s : State) (n : Slot) (c : Cause) : (s.trigger n c).1.deskSide = s.deskSide := by
  simp only [State.trigger]
  repeat' (first | split | simp)

@[simp] theorem State.wakeOnFocus_deskSide (s : State) (n : Slot) : (s.wakeOnFocus n).deskSide = s.deskSide := by
  simp only [State.wakeOnFocus]
  repeat' (first | split | simp)

@[simp] theorem State.wakeOnInput_deskSide (s : State) (n : Slot) : (s.wakeOnInput n).deskSide = s.deskSide := by
  simp only [State.wakeOnInput]
  repeat' (first | split | simp)

@[simp] theorem State.leaveFocus_deskSide (s : State) (f : Option Slot) : (s.leaveFocus f).deskSide = s.deskSide := by
  simp only [State.leaveFocus]
  repeat' (first | split | simp)

@[simp] theorem State.enterFocus_deskSide (s : State) (t : Option Slot) : (s.enterFocus t).deskSide = s.deskSide := by
  simp only [State.enterFocus]
  repeat' (first | split | simp)

@[simp] theorem State.focusChange_deskSide (s : State) (t : Option Slot) : (s.focusChange t).deskSide = s.deskSide := by
  simp only [State.focusChange]
  repeat' (first | split | simp)

@[simp] theorem State.fcPowerLost_deskSide (s : State) (n : Slot) : (s.fcPowerLost n).deskSide = s.deskSide := by
  simp only [State.fcPowerLost]
  repeat' (first | split | simp)

@[simp] theorem State.fcInputRemoved_deskSide (s : State) (n : Slot) : (s.fcInputRemoved n).deskSide = s.deskSide := by
  simp only [State.fcInputRemoved]
  repeat' (first | split | simp)

@[simp] theorem State.locate_deskSide (s : State) : s.locate.deskSide = s.deskSide := by
  simp only [State.locate]
  repeat' (first | split | simp)

@[simp] theorem State.moveTo_deskSide (s : State) (x y : Int) : (s.moveTo x y).deskSide = s.deskSide := by
  simp only [State.moveTo]
  repeat' (first | split | simp)

@[simp] theorem State.releaseButtons_deskSide (s : State) (n : Option Slot) : (s.releaseButtons n).deskSide = s.deskSide := by
  simp only [State.releaseButtons]
  repeat' (first | split | simp)

@[simp] theorem State.clearAccumulators_deskSide (s : State) (n : Slot) : (s.clearAccumulators n).deskSide = s.deskSide := by
  simp only [State.clearAccumulators]
  repeat' (first | split | simp)

@[simp] theorem State.relocate_deskSide (s : State) (x y : Int) : (s.relocate x y).deskSide = s.deskSide := by
  simp only [State.relocate]
  repeat' (first | split | simp)

@[simp] theorem State.relocateHome_deskSide (s : State) (n : Slot) : (s.relocateHome n).deskSide = s.deskSide := by
  simp only [State.relocateHome]
  repeat' (first | split | simp)

@[simp] theorem State.followPointer_deskSide (s : State) (b : Option Slot) : (s.followPointer b).deskSide = s.deskSide := by
  simp only [State.followPointer]
  repeat' (first | split | simp)

@[simp] theorem State.reevaluateTo_deskSide (s : State) (x y : Int) : (s.reevaluateTo x y).deskSide = s.deskSide := by
  simp only [State.reevaluateTo]
  repeat' (first | split | simp)

@[simp] theorem State.reevaluate_deskSide (s : State) : s.reevaluate.deskSide = s.deskSide := by
  simp only [State.reevaluate]
  repeat' (first | split | simp)

@[simp] theorem State.select_deskSide (s : State) (n : Slot) : (s.select n).deskSide = s.deskSide := by
  simp only [State.select]
  repeat' (first | split | simp)

@[simp] theorem State.guLinkReset_deskSide (s : State) (n : Slot) : (s.guLinkReset n).deskSide = s.deskSide := by
  simp only [State.guLinkReset]
  repeat' (first | split | simp)

@[simp] theorem State.guInputRemoved_deskSide (s : State) (n : Slot) : (s.guInputRemoved n).deskSide = s.deskSide := by
  simp only [State.guInputRemoved]
  repeat' (first | split | simp)

@[simp] theorem State.wakeOnBusReset_deskSide (s : State) (n : Slot) : (s.wakeOnBusReset n).deskSide = s.deskSide := by
  simp only [State.wakeOnBusReset]
  repeat' (first | split | simp)

@[simp] theorem State.wakeOnPowerLost_deskSide (s : State) (n : Slot) : (s.wakeOnPowerLost n).deskSide = s.deskSide := by
  simp only [State.wakeOnPowerLost]
  repeat' (first | split | simp)

@[simp] theorem State.endRemoteWakeup_deskSide (s : State) (n : Slot) : (s.endRemoteWakeup n).deskSide = s.deskSide := by
  simp only [State.endRemoteWakeup]
  repeat' (first | split | simp)

end Sys2Proof.Machine


/-! COMMIT (09, R142, R144 to R149; 11, R174). -/

namespace Sys2Proof.Machine

theorem moveOrigin_profile (profiles : Table FrameValues 8) (r : DisplayRecord) : (moveOrigin profiles r).profile = r.profile := by
  unfold moveOrigin
  split <;> rfl

theorem clipLayout_profile (profiles : Table FrameValues 8) (mask : DisplayIx → Bool) (l : Layout) (d : DisplayIx) :
    ((clipLayout profiles mask l).displays.get d).profile = (l.displays.get d).profile := by
  rw [clipLayout, Table.get_tab]
  split
  · exact moveOrigin_profile ..
  · rfl

theorem clipLayout_of_empty (profiles : Table FrameValues 8) {mask : DisplayIx → Bool} (empty : ∀ d, mask d = false) (l : Layout) :
    clipLayout profiles mask l = l := by
  have displays : (clipLayout profiles mask l).displays = l.displays := Table.ext_get fun d => by simp [clipLayout, empty]
  have tiles : (clipLayout profiles mask l).tiles = l.tiles := Table.ext_get fun i => by simp [clipLayout, empty]
  calc clipLayout profiles mask l = ⟨(clipLayout profiles mask l).displays, (clipLayout profiles mask l).tiles⟩ := rfl
    _ = l := by rw [displays, tiles]

theorem Cmp.arm_get (c : Cmp) (profiles : Table FrameValues 8) {mask : DisplayIx → Bool} (l : Layout) {d : DisplayIx}
    (masked : mask d = true) : (c.arm profiles mask l).get d = some (buildArmed profiles l d) := by
  rw [Cmp.arm, Table.get_tab, if_pos masked]

theorem Cmp.arm_of_empty (c : Cmp) (profiles : Table FrameValues 8) {mask : DisplayIx → Bool} (empty : ∀ d, mask d = false)
    (l : Layout) : c.arm profiles mask l = c.armed := by
  refine Table.ext_get fun d => ?_
  rw [Cmp.arm, Table.get_tab, if_neg (by rw [empty]; decide)]
  cases h : c.armed.get d with
  | none => rfl
  | some a =>
    have claims : (Table.tab fun i => if mask (l.tiles.get i).display = true then none else a.claims.get i) = a.claims :=
      Table.ext_get fun i => by simp [empty]
    rw [Option.map_some, claims]

/-- The part with a COMMIT's displays armed (09, R142). -/
def State.readied (s : State) (mask : DisplayIx → Bool) : State :=
  let l := clipLayout s.tables.profiles mask s.cmp.layout
  s.setCmp { s.cmp with layout := l, armed := s.cmp.arm s.tables.profiles mask l }

/-- The masked displays that a COMMIT activates at once (09, R146). -/
def State.startAtOnce (s : State) (mask : DisplayIx → Bool) : List DisplayIx :=
  allDisplays.filter fun d => mask d && s.cmp.atOnce (clipLayout s.tables.profiles mask s.cmp.layout) d

theorem State.mem_startAtOnce (s : State) (mask : DisplayIx → Bool) (d : DisplayIx) : d ∈ s.startAtOnce mask ↔ mask d = true ∧
    ((s.cmp.active.displays.get d).record.profile = none ∨ (s.cmp.layout.displays.get d).profile = none) := by
  simp [State.startAtOnce, mem_allDisplays, Cmp.atOnce, clipLayout_profile]

/-- What a COMMIT answers where the future layout holds no overlap: ARMED while a masked display waits for its blanking. -/
def State.commitAnswer (s : State) (mask : DisplayIx → Bool) : Status :=
  if allDisplays.any fun d => mask d && (s.cmp.armed.get d).isSome then .armed else .done

theorem State.commitAnswer_armed {s : State} {mask : DisplayIx → Bool} {d : DisplayIx} (masked : mask d = true)
    (waits : (s.cmp.armed.get d).isSome = true) : s.commitAnswer mask = .armed :=
  if_pos (List.any_eq_true.mpr ⟨d, mem_allDisplays d, by rw [masked, waits]; rfl⟩)

theorem State.commitAnswer_done {s : State} {mask : DisplayIx → Bool} (none : ∀ d, mask d = true → s.cmp.armed.get d = none) :
    s.commitAnswer mask = .done := by
  refine if_neg fun some => ?_
  obtain ⟨d, _, hd⟩ := List.any_eq_true.mp some
  obtain ⟨masked, waits⟩ := Bool.and_eq_true_iff.mp hd
  rw [none d masked] at waits
  cases waits

theorem State.commitMask_of_conflict {s : State} {mask : DisplayIx → Bool}
    (h : (s.cmp.future s.tables.profiles mask (clipLayout s.tables.profiles mask s.cmp.layout)).conflicts = true) :
    s.commitMask mask = (s, .conflict) := by
  rw [State.commitMask, if_pos h]

theorem State.commitMask_of_clear {s : State} {mask : DisplayIx → Bool}
    (h : (s.cmp.future s.tables.profiles mask (clipLayout s.tables.profiles mask s.cmp.layout)).conflicts = false) :
    s.commitMask mask = ((s.readied mask).activate (s.startAtOnce mask),
      ((s.readied mask).activate (s.startAtOnce mask)).commitAnswer mask) := by
  rw [State.commitMask, if_neg (by rw [h]; decide)]
  rfl

theorem Cmp.group_nil (c : Cmp) : c.group [] = [] :=
  List.eq_nil_iff_forall_not_mem.mpr fun e he => List.not_mem_nil (c.group_least (g := []) (fun _ h => h)
    (fun e h => by obtain ⟨f, hf, _⟩ := (c.joins_iff [] e).mp h; cases hf) e he)

theorem State.activate_nil (s : State) : s.activate [] = s := s.activate_of_none (by rw [Cmp.group_nil]; rfl)

/-- With no display to activate at once, a COMMIT arms and activates nothing. -/
theorem State.commitMask_of_waiting {s : State} {mask : DisplayIx → Bool}
    (h : (s.cmp.future s.tables.profiles mask (clipLayout s.tables.profiles mask s.cmp.layout)).conflicts = false)
    (waiting : ∀ d, d ∉ s.startAtOnce mask) : s.commitMask mask = (s.readied mask, (s.readied mask).commitAnswer mask) := by
  rw [State.commitMask_of_clear h, List.eq_nil_iff_forall_not_mem.mpr waiting, State.activate_nil]

/-- Re-evaluating P leaves the Compositor. -/
theorem State.reevaluate_iterate_cmp (s : State) (k : Nat) : (State.reevaluate^[k] s).cmp = s.cmp := by
  induction k generalizing s with
  | zero => rfl
  | succ k ih => rw [Function.iterate_succ_apply, ih, State.cmp_of_side s.reevaluate_deskSide]

theorem State.activated_armed (s : State) {g : List DisplayIx} (once : g.Nodup) (e : DisplayIx) :
    (s.activated g).cmp.armed.get e = if e ∈ g then none else s.cmp.armed.get e := by
  obtain ⟨_, _, kept, installed, _⟩ := s.activated_spec once
  cases h : s.cmp.armedIn g e with
  | none =>
    obtain ⟨_, armed, _⟩ := kept e h
    rw [armed]
    split
    next he => rwa [Cmp.armedIn, if_pos he] at h
    · rfl
  | some x =>
    obtain ⟨_, armed, _⟩ := installed e x h
    rw [armed, if_pos (Cmp.armedIn_eq_some h).1]

/-- Settles O46: by the permission, the overlap, and whether a masked display is to be activated at once. -/
theorem commitArmsTheMaskedDisplays : Obligations.CommitArmsTheMaskedDisplays := by
  intro s n b hopen request answered mask clipped armed ready atOnce
  have asked : request = _ := rfl
  have answer := exec_commit_answer hopen 0 0 0 (payload := [b]) (by simp)
  have readied : s.readied mask = ready := rfl
  have starts (d : DisplayIx) : d ∈ s.startAtOnce mask ↔ atOnce d := s.mem_startAtOnce mask d
  have isArmed {d : DisplayIx} (masked : mask d = true) : (ready.cmp.armed.get d).isSome = true := by
    rw [← readied]
    exact congrArg Option.isSome (s.cmp.arm_get s.tables.profiles _ masked)
  refine ⟨fun denied => ?_, fun allowed => ?_⟩
  · rw [asked, answer, State.commitRequest, State.byteAction_of_denied rfl denied]
    rfl
  · have committed : exec request s = .next ((answerOf (s.commitMask mask)).sent n 3 0 0) := by
      rw [asked, answer, State.commitRequest, State.byteAction_of_allowed rfl allowed]
    have answers {x : State} {st : Status} (h : s.commitMask mask = (x, st)) : exec request s = answered x st := by
      rw [committed, h]
      rfl
    refine ⟨fun overlap => answers (State.commitMask_of_conflict overlap), fun clear => ⟨fun empty => ?_, ?_, ?_⟩⟩
    · refine answers ((State.commitMask_of_waiting clear fun d hd => ?_).trans ?_)
      · have := ((starts d).mp hd).1
        rw [empty d] at this
        cases this
      · rw [State.commitAnswer_done (fun d masked => absurd masked (by rw [empty d]; decide)), State.readied,
          clipLayout_of_empty _ empty, Cmp.arm_of_empty _ _ empty]
        rfl
    · rintro ⟨d, masked⟩ waiting
      refine answers ((State.commitMask_of_waiting clear fun e he => waiting e ((starts e).mp he)).trans ?_)
      rw [readied, State.commitAnswer_armed masked (isArmed masked)]
    · rintro ⟨d, now⟩
      have once := ready.cmp.group_nodup (s.startAtOnce mask)
      have inGroup := ready.cmp.mem_group_of_start ((starts d).mpr now)
      have some : ready.cmp.activated (ready.cmp.group (s.startAtOnce mask)) ≠ [] := by
        refine List.ne_nil_of_mem (a := d) ((ready.cmp.mem_activated _ d).mpr ?_)
        rw [Cmp.armedIn, if_pos inGroup]
        exact isArmed now.1
      have left (k : Nat) (e : DisplayIx) :
          (State.reevaluate^[k] (ready.activated (ready.cmp.group (s.startAtOnce mask)))).cmp.armed.get e = _ :=
        (congrArg (fun c => c.armed.get e) (State.reevaluate_iterate_cmp _ k)).trans (ready.activated_armed once e)
      have result := State.commitMask_of_clear clear
      rw [readied, ready.activate_eq some] at result
      refine ⟨s.startAtOnce mask, ready.activated (ready.cmp.group (s.startAtOnce mask)), starts,
        ready.activated_spec once, ?_, fun all => ?_⟩
      · rintro ⟨e, masked, out⟩
        refine answers (result.trans ?_)
        rw [State.commitAnswer_armed masked (by rw [left, if_neg out]; exact isArmed masked)]
        rfl
      · refine answers (result.trans ?_)
        rw [State.commitAnswer_done (fun e masked => by rw [left, if_pos (all e masked)])]
        rfl

end Sys2Proof.Machine


/-! Two more frames. The place of the pointer, which only the Glide Unit's own operations change; and the focus with the follow mode,
which those of the Glide Unit, the ports and the wake sequences leave. One lemma for each operation, in the order of the model. -/

namespace Sys2Proof.Machine

/-! ### The place -/

/-- P, the residues, what depends on P, glide lock and the accumulators (03; 04). -/
def State.placeSide (s : State) :
    (Int × Int × Int × Int) × (Option TileIx × Option DisplayIx × Option Slot) × Bool × Table Int 8 × Table Int 8 :=
  ((s.gu.px, s.gu.py, s.gu.rx, s.gu.ry), (s.gu.tile, s.gu.display, s.gu.pointerSlot), s.gu.glideLock, s.gu.accX, s.gu.accY)

theorem State.place_of_side {s t : State} (h : t.placeSide = s.placeSide) : t.gu.px = s.gu.px ∧ t.gu.py = s.gu.py ∧
    t.gu.tile = s.gu.tile ∧ t.gu.pointerSlot = s.gu.pointerSlot ∧ t.gu.accX = s.gu.accX ∧ t.gu.accY = s.gu.accY := by
  simp only [State.placeSide, Prod.mk.injEq] at h
  obtain ⟨⟨hx, hy, _, _⟩, ⟨ht, _, hp⟩, _, hax, hay⟩ := h
  exact ⟨hx, hy, ht, hp, hax, hay⟩

@[simp] theorem State.setCiu_placeSide (s : State) (x : Ciu) : (s.setCiu x).placeSide = s.placeSide := rfl
@[simp] theorem State.setFc_placeSide (s : State) (x : Fc) : (s.setFc x).placeSide = s.placeSide := rfl
@[simp] theorem State.setHkm_placeSide (s : State) (x : CommandState) : (s.setHkm x).placeSide = s.placeSide := rfl
@[simp] theorem State.setPorts_placeSide (s : State) (x : Table Port 8) : (s.setPorts x).placeSide = s.placeSide := rfl
@[simp] theorem State.setWakes_placeSide (s : State) (x : Table WakeRecord 8) : (s.setWakes x).placeSide = s.placeSide := rfl
@[simp] theorem State.setBank_placeSide (s : State) (x : Bank) : (s.setBank x).placeSide = s.placeSide := rfl
@[simp] theorem State.setMgi_placeSide (s : State) (x : Mgi) : (s.setMgi x).placeSide = s.placeSide := rfl
@[simp] theorem State.setAtu_placeSide (s : State) (x : Atu) : (s.setAtu x).placeSide = s.placeSide := rfl
@[simp] theorem State.setCmp_placeSide (s : State) (x : Cmp) : (s.setCmp x).placeSide = s.placeSide := rfl
@[simp] theorem State.setTables_placeSide (s : State) (x : Tables) : (s.setTables x).placeSide = s.placeSide := rfl
@[simp] theorem State.setPort_placeSide (s : State) (n : Slot) (x : Port) : (s.setPort n x).placeSide = s.placeSide := rfl
@[simp] theorem State.setWake_placeSide (s : State) (n : Slot) (x : WakeRecord) : (s.setWake n x).placeSide = s.placeSide := rfl
@[simp] theorem State.setSent_placeSide (s : State) (n : Slot) (x : KeyImage) : (s.setSent n x).placeSide = s.placeSide := rfl
@[simp] theorem State.setDelivered_placeSide (s : State) (n : Slot) (x : Buttons) : (s.setDelivered n x).placeSide = s.placeSide := rfl
@[simp] theorem State.startTimer_placeSide (s : State) (i : TimerId) : (s.startTimer i).placeSide = s.placeSide := rfl
@[simp] theorem State.stopTimer_placeSide (s : State) (i : TimerId) : (s.stopTimer i).placeSide = s.placeSide := rfl
@[simp] theorem State.hold_placeSide (s : State) (k : Byte) (d : Destination) : (s.hold k d).placeSide = s.placeSide := rfl
@[simp] theorem State.raiseEvent_placeSide (s : State) (e : EventKind) : (s.raiseEvent e).placeSide = s.placeSide := rfl
@[simp] theorem State.updateLeds_placeSide (s : State) : s.updateLeds.placeSide = s.placeSide := rfl

@[simp] theorem State.settlePort_placeSide (s : State) (n : Slot) (p : Port) : (s.settlePort n p).placeSide = s.placeSide := by
  simp only [State.settlePort]
  repeat' (first | split | simp)

@[simp] theorem State.settleFlushedPort_placeSide (s : State) (n : Slot) (p : Port) : (s.settleFlushedPort n p).placeSide = s.placeSide := by
  simp only [State.settleFlushedPort]
  repeat' (first | split | simp)

@[simp] theorem State.suppressHeld_placeSide (s : State) (n : Slot) : (s.suppressHeld n).placeSide = s.placeSide := by
  simp only [State.suppressHeld]
  repeat' (first | split | simp)

@[simp] theorem State.suppressFocusModifiers_placeSide (s : State) (n : Slot) : (s.suppressFocusModifiers n).placeSide = s.placeSide := by
  simp only [State.suppressFocusModifiers]
  repeat' (first | split | simp)

@[simp] theorem State.fcLoss_placeSide (s : State) (n : Slot) : (s.fcLoss n).placeSide = s.placeSide := by
  simp only [State.fcLoss]
  repeat' (first | split | simp)

@[simp] theorem State.guLoss_placeSide (s : State) (n : Slot) : (s.guLoss n).placeSide = s.placeSide := rfl

@[simp] theorem State.releaseFlush_placeSide (s : State) (n : Slot) : (s.releaseFlush n).placeSide = s.placeSide := by
  simp only [State.releaseFlush]
  repeat' (first | split | simp)

@[simp] theorem State.handOver_placeSide (s : State) (n : Slot) (e : Entry) : (s.handOver n e).placeSide = s.placeSide := by
  simp only [State.handOver]
  repeat' (first | split | simp)

@[simp] theorem State.queueImage_placeSide (s : State) (n : Slot) : (s.queueImage n).placeSide = s.placeSide := by
  simp only [State.queueImage]
  repeat' (first | split | simp)

@[simp] theorem State.stopWakeTimers_placeSide (s : State) (n : Slot) : (s.stopWakeTimers n).placeSide = s.placeSide := by
  simp only [State.stopWakeTimers]
  repeat' (first | split | simp)

@[simp] theorem State.setPhase_placeSide (s : State) (n : Slot) (p : Phase) : (s.setPhase n p).placeSide = s.placeSide := by
  simp only [State.setPhase]
  repeat' (first | split | simp)

@[simp] theorem State.applyHoldPolicy_placeSide (s : State) (n : Slot) : (s.applyHoldPolicy n).placeSide = s.placeSide := by
  simp only [State.applyHoldPolicy]
  repeat' (first | split | simp)

@[simp] theorem State.enterFailed_placeSide (s : State) (n : Slot) : (s.enterFailed n).placeSide = s.placeSide := by
  simp only [State.enterFailed]
  repeat' (first | split | simp)

@[simp] theorem State.enterLinePulse_placeSide (s : State) (n : Slot) : (s.enterLinePulse n).placeSide = s.placeSide := by
  simp only [State.enterLinePulse]
  repeat' (first | split | simp)

@[simp] theorem State.enterLineAwait_placeSide (s : State) (n : Slot) : (s.enterLineAwait n).placeSide = s.placeSide := by
  simp only [State.enterLineAwait]
  repeat' (first | split | simp)

@[simp] theorem State.wakeExhausted_placeSide (s : State) (n : Slot) : (s.wakeExhausted n).placeSide = s.placeSide := by
  simp only [State.wakeExhausted]
  repeat' (first | split | simp)

@[simp] theorem State.wakeOnActive_placeSide (s : State) (n : Slot) : (s.wakeOnActive n).placeSide = s.placeSide := by
  simp only [State.wakeOnActive]
  repeat' (first | split | simp)

@[simp] theorem State.enterSignal_placeSide (s : State) (n : Slot) : (s.enterSignal n).placeSide = s.placeSide := by
  simp only [State.enterSignal]
  repeat' (first | split | simp)

@[simp] theorem State.startSequence_placeSide (s : State) (n : Slot) : (s.startSequence n).1.placeSide = s.placeSide := by
  simp only [State.startSequence]
  repeat' (first | split | simp)

@[simp] theorem State.trigger_placeSide (s : State) (n : Slot) (c : Cause) : (s.trigger n c).1.placeSide = s.placeSide := by
  simp only [State.trigger]
  repeat' (first | split | simp)

@[simp] theorem State.wakeOnFocus_placeSide (s : State) (n : Slot) : (s.wakeOnFocus n).placeSide = s.placeSide := by
  simp only [State.wakeOnFocus]
  repeat' (first | split | simp)

@[simp] theorem State.wakeOnInput_placeSide (s : State) (n : Slot) : (s.wakeOnInput n).placeSide = s.placeSide := by
  simp only [State.wakeOnInput]
  repeat' (first | split | simp)

@[simp] theorem State.leaveFocus_placeSide (s : State) (f : Option Slot) : (s.leaveFocus f).placeSide = s.placeSide := by
  simp only [State.leaveFocus]
  repeat' (first | split | simp)

@[simp] theorem State.enterFocus_placeSide (s : State) (t : Option Slot) : (s.enterFocus t).placeSide = s.placeSide := by
  simp only [State.enterFocus]
  repeat' (first | split | simp)

@[simp] theorem State.focusChange_placeSide (s : State) (t : Option Slot) : (s.focusChange t).placeSide = s.placeSide := by
  simp only [State.focusChange]
  repeat' (first | split | simp)

@[simp] theorem State.fcPowerLost_placeSide (s : State) (n : Slot) : (s.fcPowerLost n).placeSide = s.placeSide := by
  simp only [State.fcPowerLost]
  repeat' (first | split | simp)

@[simp] theorem State.fcInputRemoved_placeSide (s : State) (n : Slot) : (s.fcInputRemoved n).placeSide = s.placeSide := by
  simp only [State.fcInputRemoved]
  repeat' (first | split | simp)

@[simp] theorem State.releaseButtons_placeSide (s : State) (n : Option Slot) : (s.releaseButtons n).placeSide = s.placeSide := by
  simp only [State.releaseButtons]
  repeat' (first | split | simp)

@[simp] theorem State.followPointer_placeSide (s : State) (b : Option Slot) : (s.followPointer b).placeSide = s.placeSide := by
  simp only [State.followPointer]
  repeat' (first | split | simp)

@[simp] theorem State.guInputRemoved_placeSide (s : State) (n : Slot) : (s.guInputRemoved n).placeSide = s.placeSide := by
  simp only [State.guInputRemoved]
  repeat' (first | split | simp)

@[simp] theorem State.wakeOnBusReset_placeSide (s : State) (n : Slot) : (s.wakeOnBusReset n).placeSide = s.placeSide := by
  simp only [State.wakeOnBusReset]
  repeat' (first | split | simp)

@[simp] theorem State.wakeOnPowerLost_placeSide (s : State) (n : Slot) : (s.wakeOnPowerLost n).placeSide = s.placeSide := by
  simp only [State.wakeOnPowerLost]
  repeat' (first | split | simp)

@[simp] theorem State.endRemoteWakeup_placeSide (s : State) (n : Slot) : (s.endRemoteWakeup n).placeSide = s.placeSide := by
  simp only [State.endRemoteWakeup]
  repeat' (first | split | simp)

/-! ### The focus and the follow mode -/

/-- The focus and the follow mode (01). -/
def State.focusSide (s : State) : Option Slot × FollowMode := (s.fc.focus, s.fc.follow)

theorem State.focus_of_side {s t : State} (h : t.focusSide = s.focusSide) : t.fc.focus = s.fc.focus := congrArg Prod.fst h
theorem State.follow_of_side {s t : State} (h : t.focusSide = s.focusSide) : t.fc.follow = s.fc.follow := congrArg Prod.snd h

@[simp] theorem State.setCiu_focusSide (s : State) (x : Ciu) : (s.setCiu x).focusSide = s.focusSide := rfl
@[simp] theorem State.setHkm_focusSide (s : State) (x : CommandState) : (s.setHkm x).focusSide = s.focusSide := rfl
@[simp] theorem State.setGu_focusSide (s : State) (x : Gu) : (s.setGu x).focusSide = s.focusSide := rfl
@[simp] theorem State.setPorts_focusSide (s : State) (x : Table Port 8) : (s.setPorts x).focusSide = s.focusSide := rfl
@[simp] theorem State.setWakes_focusSide (s : State) (x : Table WakeRecord 8) : (s.setWakes x).focusSide = s.focusSide := rfl
@[simp] theorem State.setBank_focusSide (s : State) (x : Bank) : (s.setBank x).focusSide = s.focusSide := rfl
@[simp] theorem State.setMgi_focusSide (s : State) (x : Mgi) : (s.setMgi x).focusSide = s.focusSide := rfl
@[simp] theorem State.setAtu_focusSide (s : State) (x : Atu) : (s.setAtu x).focusSide = s.focusSide := rfl
@[simp] theorem State.setCmp_focusSide (s : State) (x : Cmp) : (s.setCmp x).focusSide = s.focusSide := rfl
@[simp] theorem State.setTables_focusSide (s : State) (x : Tables) : (s.setTables x).focusSide = s.focusSide := rfl
@[simp] theorem State.setPort_focusSide (s : State) (n : Slot) (x : Port) : (s.setPort n x).focusSide = s.focusSide := rfl
@[simp] theorem State.setWake_focusSide (s : State) (n : Slot) (x : WakeRecord) : (s.setWake n x).focusSide = s.focusSide := rfl
@[simp] theorem State.setSent_focusSide (s : State) (n : Slot) (x : KeyImage) : (s.setSent n x).focusSide = s.focusSide := rfl
@[simp] theorem State.setDelivered_focusSide (s : State) (n : Slot) (x : Buttons) : (s.setDelivered n x).focusSide = s.focusSide := rfl
@[simp] theorem State.startTimer_focusSide (s : State) (i : TimerId) : (s.startTimer i).focusSide = s.focusSide := rfl
@[simp] theorem State.stopTimer_focusSide (s : State) (i : TimerId) : (s.stopTimer i).focusSide = s.focusSide := rfl
@[simp] theorem State.hold_focusSide (s : State) (k : Byte) (d : Destination) : (s.hold k d).focusSide = s.focusSide := rfl
@[simp] theorem State.raiseEvent_focusSide (s : State) (e : EventKind) : (s.raiseEvent e).focusSide = s.focusSide := rfl
@[simp] theorem State.updateLeds_focusSide (s : State) : s.updateLeds.focusSide = s.focusSide := rfl

@[simp] theorem State.settlePort_focusSide (s : State) (n : Slot) (p : Port) : (s.settlePort n p).focusSide = s.focusSide := by
  simp only [State.settlePort]
  repeat' (first | split | simp)

@[simp] theorem State.settleFlushedPort_focusSide (s : State) (n : Slot) (p : Port) : (s.settleFlushedPort n p).focusSide = s.focusSide := by
  simp only [State.settleFlushedPort]
  repeat' (first | split | simp)

@[simp] theorem State.suppressHeld_focusSide (s : State) (n : Slot) : (s.suppressHeld n).focusSide = s.focusSide := rfl

@[simp] theorem State.suppressFocusModifiers_focusSide (s : State) (n : Slot) : (s.suppressFocusModifiers n).focusSide = s.focusSide := by
  unfold State.suppressFocusModifiers
  split <;> rfl

@[simp] theorem State.fcLoss_focusSide (s : State) (n : Slot) : (s.fcLoss n).focusSide = s.focusSide := by
  simp only [State.fcLoss]
  repeat' (first | split | simp)

@[simp] theorem State.guLoss_focusSide (s : State) (n : Slot) : (s.guLoss n).focusSide = s.focusSide := by
  simp only [State.guLoss]
  repeat' (first | split | simp)

@[simp] theorem State.releaseFlush_focusSide (s : State) (n : Slot) : (s.releaseFlush n).focusSide = s.focusSide := by
  simp only [State.releaseFlush]
  repeat' (first | split | simp)

@[simp] theorem State.handOver_focusSide (s : State) (n : Slot) (e : Entry) : (s.handOver n e).focusSide = s.focusSide := by
  simp only [State.handOver]
  repeat' (first | split | simp)

@[simp] theorem State.queueImage_focusSide (s : State) (n : Slot) : (s.queueImage n).focusSide = s.focusSide := by
  simp only [State.queueImage]
  repeat' (first | split | simp)

@[simp] theorem State.stopWakeTimers_focusSide (s : State) (n : Slot) : (s.stopWakeTimers n).focusSide = s.focusSide := by
  simp only [State.stopWakeTimers]
  repeat' (first | split | simp)

@[simp] theorem State.setPhase_focusSide (s : State) (n : Slot) (p : Phase) : (s.setPhase n p).focusSide = s.focusSide := by
  simp only [State.setPhase]
  repeat' (first | split | simp)

@[simp] theorem State.applyHoldPolicy_focusSide (s : State) (n : Slot) : (s.applyHoldPolicy n).focusSide = s.focusSide := by
  simp only [State.applyHoldPolicy]
  repeat' (first | split | simp)

@[simp] theorem State.enterFailed_focusSide (s : State) (n : Slot) : (s.enterFailed n).focusSide = s.focusSide := by
  simp only [State.enterFailed]
  repeat' (first | split | simp)

@[simp] theorem State.enterLinePulse_focusSide (s : State) (n : Slot) : (s.enterLinePulse n).focusSide = s.focusSide := by
  simp only [State.enterLinePulse]
  repeat' (first | split | simp)

@[simp] theorem State.enterLineAwait_focusSide (s : State) (n : Slot) : (s.enterLineAwait n).focusSide = s.focusSide := by
  simp only [State.enterLineAwait]
  repeat' (first | split | simp)

@[simp] theorem State.wakeExhausted_focusSide (s : State) (n : Slot) : (s.wakeExhausted n).focusSide = s.focusSide := by
  simp only [State.wakeExhausted]
  repeat' (first | split | simp)

@[simp] theorem State.wakeOnActive_focusSide (s : State) (n : Slot) : (s.wakeOnActive n).focusSide = s.focusSide := by
  simp only [State.wakeOnActive]
  repeat' (first | split | simp)

@[simp] theorem State.enterSignal_focusSide (s : State) (n : Slot) : (s.enterSignal n).focusSide = s.focusSide := by
  simp only [State.enterSignal]
  repeat' (first | split | simp)

@[simp] theorem State.startSequence_focusSide (s : State) (n : Slot) : (s.startSequence n).1.focusSide = s.focusSide := by
  simp only [State.startSequence]
  repeat' (first | split | simp)

@[simp] theorem State.trigger_focusSide (s : State) (n : Slot) (c : Cause) : (s.trigger n c).1.focusSide = s.focusSide := by
  simp only [State.trigger]
  repeat' (first | split | simp)

@[simp] theorem State.wakeOnFocus_focusSide (s : State) (n : Slot) : (s.wakeOnFocus n).focusSide = s.focusSide := by
  simp only [State.wakeOnFocus]
  repeat' (first | split | simp)

@[simp] theorem State.wakeOnInput_focusSide (s : State) (n : Slot) : (s.wakeOnInput n).focusSide = s.focusSide := by
  simp only [State.wakeOnInput]
  repeat' (first | split | simp)

@[simp] theorem State.leaveFocus_focusSide (s : State) (f : Option Slot) : (s.leaveFocus f).focusSide = s.focusSide := by
  simp only [State.leaveFocus]
  repeat' (first | split | simp)

@[simp] theorem State.fcInputRemoved_focusSide (s : State) (n : Slot) : (s.fcInputRemoved n).focusSide = s.focusSide := by
  simp only [State.fcInputRemoved]
  repeat' (first | split | simp)

@[simp] theorem State.locate_focusSide (s : State) : s.locate.focusSide = s.focusSide := by
  simp only [State.locate]
  repeat' (first | split | simp)

@[simp] theorem State.moveTo_focusSide (s : State) (x y : Int) : (s.moveTo x y).focusSide = s.focusSide := by
  simp only [State.moveTo]
  repeat' (first | split | simp)

@[simp] theorem State.releaseButtons_focusSide (s : State) (n : Option Slot) : (s.releaseButtons n).focusSide = s.focusSide := by
  simp only [State.releaseButtons]
  repeat' (first | split | simp)

@[simp] theorem State.clearAccumulators_focusSide (s : State) (n : Slot) : (s.clearAccumulators n).focusSide = s.focusSide := by
  simp only [State.clearAccumulators]
  repeat' (first | split | simp)

@[simp] theorem State.relocate_focusSide (s : State) (x y : Int) : (s.relocate x y).focusSide = s.focusSide := by
  simp only [State.relocate]
  repeat' (first | split | simp)

@[simp] theorem State.relocateHome_focusSide (s : State) (n : Slot) : (s.relocateHome n).focusSide = s.focusSide := by
  simp only [State.relocateHome]
  repeat' (first | split | simp)

@[simp] theorem State.guLinkReset_focusSide (s : State) (n : Slot) : (s.guLinkReset n).focusSide = s.focusSide := by
  simp only [State.guLinkReset]
  repeat' (first | split | simp)

@[simp] theorem State.guInputRemoved_focusSide (s : State) (n : Slot) : (s.guInputRemoved n).focusSide = s.focusSide := by
  simp only [State.guInputRemoved]
  repeat' (first | split | simp)

@[simp] theorem State.wakeOnBusReset_focusSide (s : State) (n : Slot) : (s.wakeOnBusReset n).focusSide = s.focusSide := by
  simp only [State.wakeOnBusReset]
  repeat' (first | split | simp)

@[simp] theorem State.wakeOnPowerLost_focusSide (s : State) (n : Slot) : (s.wakeOnPowerLost n).focusSide = s.focusSide := by
  simp only [State.wakeOnPowerLost]
  repeat' (first | split | simp)

@[simp] theorem State.endRemoteWakeup_focusSide (s : State) (n : Slot) : (s.endRemoteWakeup n).focusSide = s.focusSide := by
  simp only [State.endRemoteWakeup]
  repeat' (first | split | simp)

/-- A focus change ends at its target and leaves the follow mode. -/
theorem State.focusChange_focusSide (s : State) (t : Option Slot) : (s.focusChange t).focusSide = (t, s.fc.follow) := by
  have changed : ((s.leaveFocus s.fc.focus).enterFocus t).focusSide = (t, s.fc.follow) := by
    show (t, (s.leaveFocus s.fc.focus).fc.follow) = (t, s.fc.follow)
    rw [State.follow_of_side (s.leaveFocus_focusSide s.fc.focus)]
  unfold State.focusChange
  split
  next same => rw [same]; rfl
  · cases t with
    | none => exact changed
    | some n => exact (State.wakeOnFocus_focusSide _ n).trans changed

end Sys2Proof.Machine


/-! What becomes of a slot whose link is reset while other slots are served: the restore of a saved focus touches nothing that a link
reset settled. -/

namespace Sys2Proof.Machine

/-- From `s` to `t` slot `n` is spared: its link and wake record stay, and so does each of its values that is at rest. -/
structure State.Spares (n : Slot) (s t : State) : Prop where
  link : t.link n = s.link n
  wake : t.wake n = s.wake n
  reset : s.port n = Port.reset → s.timer (.t6 n) = .stopped → t.port n = Port.reset ∧ t.timer (.t6 n) = .stopped
  sent : s.sent n = KeyImage.empty → t.sent n = KeyImage.empty
  delivered : s.delivered n = 0 → t.delivered n = 0
  accumulators : s.gu.accX.get n = 0 ∧ s.gu.accY.get n = 0 → t.gu.accX.get n = 0 ∧ t.gu.accY.get n = 0
  held : ∀ k, heldKey k s.fc.held = some .suppressed → heldKey k t.fc.held = some .suppressed

namespace State.Spares

variable {n m : Slot} {s t u : State}

theorem refl (s : State) : s.Spares n s := ⟨rfl, rfl, fun p q => ⟨p, q⟩, id, id, id, fun _ => id⟩

theorem trans (h : s.Spares n t) (h' : t.Spares n u) : s.Spares n u where
  link := h'.link.trans h.link
  wake := h'.wake.trans h.wake
  reset p q := h'.reset (h.reset p q).1 (h.reset p q).2
  sent a := h'.sent (h.sent a)
  delivered a := h'.delivered (h.delivered a)
  accumulators a := h'.accumulators (h.accumulators a)
  held k a := h'.held k (h.held k a)

/-- A change of the Glide Unit or of the focus record alone. -/
theorem of_gu (s : State) (x : Gu) (hdelivered : s.delivered n = 0 → x.delivered.get n = 0)
    (hacc : s.gu.accX.get n = 0 ∧ s.gu.accY.get n = 0 → x.accX.get n = 0 ∧ x.accY.get n = 0) : s.Spares n (s.setGu x) :=
  ⟨rfl, rfl, fun p q => ⟨p, q⟩, id, hdelivered, hacc, fun _ => id⟩

theorem of_fc (s : State) (x : Fc) (hsent : s.sent n = KeyImage.empty → x.sent.get n = KeyImage.empty)
    (hheld : ∀ k, heldKey k s.fc.held = some .suppressed → heldKey k x.held = some .suppressed) : s.Spares n (s.setFc x) :=
  ⟨rfl, rfl, fun p q => ⟨p, q⟩, hsent, id, id, hheld⟩

theorem raiseEvent (s : State) (e : EventKind) : s.Spares n (s.raiseEvent e) :=
  ⟨rfl, rfl, fun p q => ⟨p, q⟩, id, id, id, fun _ => id⟩

/-- Another slot's port is settled. -/
theorem settlePort (s : State) (p : Port) (hm : n ≠ m) : s.Spares n (s.settlePort m p) where
  link := congrArg Port.link (s.settlePort_port_ne p hm)
  wake := s.settlePort_wake m n p
  reset a b := ⟨(s.settlePort_port_ne p hm).trans a, (s.settlePort_timer m p _ (by simpa using hm)).trans b⟩
  sent a := (s.settlePort_sent m n p).trans a
  delivered a := by rwa [State.delivered, State.settlePort_gu]
  accumulators a := by rwa [State.settlePort_gu]
  held k a := by rwa [State.settlePort_fc]

theorem heldKey_lost {k : Byte} (h : heldKey k s.fc.held = some .suppressed) : heldKey k (s.lostFc m).held = some .suppressed := by
  rw [State.heldKey_lostFc, h]
  rfl

theorem releaseFlush (s : State) (m : Slot) : s.Spares n (s.releaseFlush m) where
  link := by rw [State.link, State.releaseFlush_port]; split <;> simp_all [State.link, Port.flushed]
  wake := s.releaseFlush_wake m n
  reset a b := by
    rw [State.releaseFlush_port, State.releaseFlush_timer]
    by_cases hm : n = m
    · subst hm
      rw [if_pos rfl, if_pos rfl, a]
      exact ⟨rfl, rfl⟩
    · rw [if_neg hm, if_neg (by simpa using hm)]
      exact ⟨a, b⟩
  sent a := by rw [State.releaseFlush_sent]; split <;> simp [a]
  delivered a := by rw [State.releaseFlush_delivered]; split <;> simp [a]
  accumulators a := by rwa [State.releaseFlush_gu]
  held k a := by rw [State.releaseFlush_fc]; exact heldKey_lost a

/-- An entry handed to any slot. -/
theorem handOver (s : State) (m : Slot) (e : Entry) : s.Spares n (s.handOver m e) := by
  rcases s.handOver_cases m e with ⟨-, h⟩ | ⟨on, q, -, h⟩ | ⟨-, -, h⟩ <;> rw [h]
  · exact refl s
  · by_cases hm : n = m
    · subst hm
      have link : (s.settlePort n { s.port n with queue := q }).link n = s.link n := by
        rw [State.link, State.settlePort_port_same]
        rfl
      exact ⟨link, s.settlePort_wake n n _,
        fun a => absurd (show s.link n = .off by rw [State.link, a]; rfl) on, fun a => (s.settlePort_sent n n _).trans a,
        fun a => by rwa [State.delivered, State.settlePort_gu], fun a => by rwa [State.settlePort_gu],
        fun k a => by rwa [State.settlePort_fc]⟩
    · exact settlePort s _ hm
  · exact (releaseFlush s m).trans (raiseEvent _ _)

/-! ### Wake sequences of another slot -/

/-- A phase entered in another slot's record, its timers stopped or one of them started. -/
theorem enterPhase (s : State) (w : WakeRecord) (p : Phase) (hm : n ≠ m) : s.Spares n (s.enterPhase m w p) where
  link := congrArg Port.link (s.enterPhase_port m n w p)
  wake := by rw [State.enterPhase_wake, if_neg hm]
  reset a b := ⟨(s.enterPhase_port m n w p).trans a, (s.enterPhase_timer m w p _).trans ((if_neg (by simp)).trans b)⟩
  sent := id
  delivered := id
  accumulators := id
  held _ := id

theorem startTimer (s : State) (i : TimerId) (hi : i ≠ .t6 n) : s.Spares n (s.startTimer i) :=
  ⟨rfl, rfl, fun a b => ⟨a, by rw [State.timer_startTimer, if_neg (Ne.symm hi), b]⟩, id, id, id, fun _ => id⟩

theorem enterPhase_of (s : State) (p : Phase) (hm : n ≠ m) : s.Spares n ((s.stopWakeTimers m).setPhase m p) := by
  have entered := enterPhase s (s.wake m) p hm
  rwa [State.enterPhase, State.setWake_self] at entered

theorem enterLinePulse (s : State) (hm : n ≠ m) : s.Spares n (s.enterLinePulse m) :=
  (enterPhase_of s .linePulse hm).trans (startTimer _ _ (by simp))

theorem enterLineAwait (s : State) (hm : n ≠ m) : s.Spares n (s.enterLineAwait m) :=
  (enterPhase_of s .lineAwait hm).trans (startTimer _ _ (by simp))

theorem enterFailed (s : State) (hm : n ≠ m) : s.Spares n (s.enterFailed m) := by
  have failing : s.Spares n (s.failing m) := (enterPhase_of s .failed hm).trans (raiseEvent _ _)
  cases policy : (s.slotRecord m).policy with
  | keep => rwa [State.enterFailed_of_keep policy]
  | discard =>
    rw [State.enterFailed_of_discard policy]
    exact failing.trans (releaseFlush _ m)

theorem wakeExhausted (s : State) (hm : n ≠ m) : s.Spares n (s.wakeExhausted m) := by
  unfold State.wakeExhausted
  split
  · exact enterLinePulse s hm
  · exact enterFailed s hm

theorem enterSignal (s : State) (hm : n ≠ m) : s.Spares n (s.enterSignal m) := by
  by_cases can : (s.port m).canSignal = true
  · rw [State.enterSignal_of_canSignal can]
    exact (enterPhase_of s .signal hm).trans (settlePort _ _ hm)
  · by_cases active : s.link m = .active
    · rw [State.enterSignal_of_active active]
      exact (enterPhase_of s .idle hm).trans (raiseEvent _ _)
    · rw [State.enterSignal_of_refused active (by simpa using can)]
      exact wakeExhausted s hm

theorem startSequence (s : State) (hm : n ≠ m) : s.Spares n (s.startSequence m).1 := by
  have lineOr : s.Spares n (if (s.slotRecord m).wakeLineWired = true then (s.enterLinePulse m, WakeOutcome.started)
      else (s.enterFailed m, .failed)).1 := by
    split
    · exact enterLinePulse s hm
    · exact enterFailed s hm
  unfold State.startSequence
  cases s.link m with
  | active => exact refl s
  | resuming => exact refl s
  | attached => exact enterLineAwait s hm
  | off => exact lineOr
  | suspended =>
    cases permitted : (s.port m).remoteWake with
    | true => exact enterSignal s hm
    | false => exact lineOr

theorem setWake (s : State) (w : WakeRecord) (hm : n ≠ m) : s.Spares n (s.setWake m w) :=
  ⟨rfl, by rw [State.setWake_wake, if_neg hm], fun a b => ⟨a, b⟩, id, id, id, fun _ => id⟩

theorem trigger (s : State) (c : Cause) (hm : n ≠ m) : s.Spares n (s.trigger m c).1 := by
  rcases s.trigger_cases m c with ⟨-, h⟩ | ⟨-, -, h⟩ | ⟨-, -, -, h⟩ <;> rw [h]
  · exact refl s
  · exact refl s
  · exact (setWake s _ hm).trans (startSequence _ hm)

theorem wakeOnFocus (s : State) (hm : n ≠ m) : s.Spares n (s.wakeOnFocus m) := by
  unfold State.wakeOnFocus
  split
  · exact trigger s _ hm
  · exact refl s

/-! ### The focus and the pointer -/

theorem suppressHeld (s : State) (m : Slot) : s.Spares n (s.suppressHeld m) := by
  refine of_fc s _ (fun a => ?_) fun k a => ?_
  · exact (s.suppressHeld_sent m n).trans (by split <;> simp [a])
  · exact heldKey_lost (s := s) (m := m) a

theorem leaveFocus (s : State) (f : Option Slot) : s.Spares n (s.leaveFocus f) := by
  cases f with
  | none => exact refl s
  | some m => exact (suppressHeld s m).trans (handOver _ m _)

theorem focusChange (s : State) {t : Option Slot} (other : t ≠ some n) : s.Spares n (s.focusChange t) := by
  have entered : s.Spares n ((s.leaveFocus s.fc.focus).enterFocus t) :=
    (leaveFocus s s.fc.focus).trans ⟨rfl, rfl, fun a b => ⟨a, b⟩, id, id, id, fun _ => id⟩
  unfold State.focusChange
  split
  · exact refl s
  · cases t with
    | none => exact entered
    | some m => exact entered.trans (wakeOnFocus _ fun h => other (congrArg some h.symm))

theorem releaseButtons (s : State) (o : Option Slot) : s.Spares n (s.releaseButtons o) := by
  unfold State.releaseButtons
  split
  · exact refl s
  · split
    · exact refl s
    next m _ =>
      have emptied : s.Spares n (s.setDelivered m 0) :=
        of_gu s _ (fun a => (Table.get_put ..).trans (by split <;> [rfl; exact a])) id
      exact emptied.trans (handOver _ m _)

theorem clearAccumulators (s : State) (m : Slot) : s.Spares n (s.clearAccumulators m) := by
  refine of_gu s _ id fun ⟨hx, hy⟩ => ?_
  dsimp only
  rw [Table.get_put, Table.get_put]
  split <;> simp [hx, hy]

theorem clearEntered (s : State) (o : Option Slot) : s.Spares n (s.clearEntered o) := by
  unfold State.clearEntered
  split
  · split
    · exact refl s
    · exact clearAccumulators s _
  · exact refl s

theorem handPlace (s : State) (x y : Int) : s.Spares n (s.handPlace x y) := by
  unfold State.handPlace
  split
  · split
    · exact handOver s _ _
    · exact refl s
  · exact refl s

theorem relocate (s : State) (x y : Int) : s.Spares n (s.relocate x y) := by
  rw [State.relocate_eq]
  have moved : s.Spares n (((s.releaseButtons s.gu.pointerSlot).suppressButtons).moveTo x y) :=
    (releaseButtons s _).trans (((of_gu _ _ id id).trans (of_gu _ _ id id)).trans (of_gu _ _ id id))
  exact (moved.trans (clearEntered _ _)).trans (handPlace _ x y)

theorem restore (s : State) {f : Option Slot} (other : f ≠ some n) (x y : Int) : s.Spares n (s.restore f x y) := by
  unfold State.restore
  refine (focusChange s other).trans ?_
  dsimp only
  split
  · split
    · exact relocate _ _ _
    · split
      · exact relocate _ _ _
      · exact refl _
  · exact refl _

end State.Spares

end Sys2Proof.Machine


/-! A loss of bus power and a bus reset (05, R79, R80; 07, R121 to R123). -/

namespace Sys2Proof.Machine

/-! ### The attended stack after a link reset (07, R122, R123) -/

/-- The pending set and the stack after a link reset of slot `n`. -/
def Atu.lost (a : Atu) (n : Slot) : Atu where
  alerts := removeAlert n a.alerts
  stack := match a.stack with
    | [] => []
    | top :: rest => if top.slot = n then rest else removeBelow n (top :: rest)

/-- The entry whose saved values a link reset of slot `n` restores: that slot's at the top, with another saved focus. -/
def Atu.restores (a : Atu) (n : Slot) : Option Attended :=
  match a.stack with
  | [] => none
  | top :: _ => if top.slot = n ∧ top.savedFocus ≠ some n then some top else none

theorem Atu.restores_of_top {a : Atu} {n : Slot} {e : Attended} {rest : List Attended} (h : a.stack = e :: rest) (top : e.slot = n)
    (other : e.savedFocus ≠ some n) : a.restores n = some e := by
  rw [Atu.restores, h]
  exact if_pos ⟨top, other⟩

theorem Atu.restores_eq_some {a : Atu} {n : Slot} {e : Attended} (h : a.restores n = some e) :
    (∃ rest, a.stack = e :: rest) ∧ e.slot = n ∧ e.savedFocus ≠ some n := by
  unfold Atu.restores at h
  split at h
  · cases h
  next top rest hs =>
    split at h
    next cond =>
      obtain rfl := Option.some.inj h
      exact ⟨⟨rest, hs⟩, cond⟩
    · cases h

theorem Atu.restores_eq_none {a : Atu} {n : Slot} (h : ∀ e rest, a.stack = e :: rest → e.slot = n → e.savedFocus = some n) :
    a.restores n = none := by
  cases hr : a.restores n with
  | none => rfl
  | some e =>
    obtain ⟨⟨rest, hs⟩, top, other⟩ := Atu.restores_eq_some hr
    exact absurd (h e rest hs top) other

theorem State.atuLinkReset_of_restore {s : State} {n : Slot} {e : Attended} (h : s.atu.restores n = some e) :
    s.atuLinkReset n = (s.setAtu (s.atu.lost n)).restore e.savedFocus e.savedX e.savedY := by
  obtain ⟨⟨rest, hs⟩, top, other⟩ := Atu.restores_eq_some h
  have lost : s.atu.lost n = ⟨removeAlert n s.atu.alerts, rest⟩ := by
    unfold Atu.lost
    rw [hs]
    exact congrArg (Atu.mk _) (if_pos top)
  rw [lost]
  unfold State.atuLinkReset
  rw [hs]
  dsimp only
  rw [if_pos top, if_neg other]

theorem State.atuLinkReset_of_none {s : State} {n : Slot} (h : s.atu.restores n = none) :
    s.atuLinkReset n = s.setAtu (s.atu.lost n) := by
  unfold State.atuLinkReset Atu.lost
  unfold Atu.restores at h
  cases hs : s.atu.stack with
  | nil => rfl
  | cons top rest =>
    rw [hs] at h
    dsimp only at h ⊢
    by_cases htop : top.slot = n
    · have same : top.savedFocus = some n := by
        by_contra other
        rw [if_pos ⟨htop, other⟩] at h
        cases h
      rw [if_pos htop, if_pos htop, if_pos same]
    · rw [if_neg htop, if_neg htop]

theorem Atu.lost_isPending (a : Atu) (n : Slot) : (a.lost n).isPending n = false := by
  simp [Atu.isPending, Atu.lost, removeAlert]

theorem removeBelow_of_not_mem {n : Slot} {l : List Attended} (h : ∀ e ∈ l, e.slot ≠ n) : removeBelow n l = l := by
  induction l using removeBelow.induct n with
  | case1 above e rest heq => exact absurd heq (h e (by simp))
  | case2 above e rest hne ih =>
    rw [removeBelow, if_neg hne, ih fun x hx => h x (List.mem_cons_of_mem _ hx)]
  | case3 l hl => rw [removeBelow]; exact hl

/-- The entry of the slot goes, and the one above it takes over what it saved. -/
theorem removeBelow_append {n : Slot} {upper : List Attended} {above e : Attended} {lower : List Attended}
    (fresh : ∀ x ∈ upper ++ [above], x.slot ≠ n) (he : e.slot = n) : removeBelow n (upper ++ above :: e :: lower) =
      upper ++ { above with savedFocus := e.savedFocus, savedX := e.savedX, savedY := e.savedY } :: lower := by
  induction upper with
  | nil => rw [List.nil_append, removeBelow, if_pos he]; rfl
  | cons x upper ih =>
    have rest : removeBelow n (upper ++ above :: e :: lower) = _ := ih fun y hy => fresh y (List.mem_cons_of_mem _ hy)
    cases upper with
    | nil =>
      rw [List.nil_append] at rest
      rw [List.cons_append, List.nil_append, removeBelow, if_neg (fresh above (by simp)), rest]
      rfl
    | cons y upper =>
      rw [List.cons_append] at rest
      rw [List.cons_append, List.cons_append, removeBelow, if_neg (fresh y (by simp)), rest]
      rfl

theorem removeBelow_slots {n : Slot} {top : Attended} {rest : List Attended} (htop : top.slot ≠ n)
    (once : ((top :: rest).map (·.slot)).Nodup) : ∀ e ∈ removeBelow n (top :: rest), e.slot ≠ n := by
  by_cases h : ∃ e ∈ rest, e.slot = n
  · obtain ⟨e, he, hn⟩ := h
    obtain ⟨upper, above, lower, split⟩ : ∃ upper above lower, top :: rest = upper ++ above :: e :: lower := by
      obtain ⟨l, r, rfl⟩ := List.append_of_mem he
      rcases List.eq_nil_or_concat l with rfl | ⟨l', a, rfl⟩
      · exact ⟨[], top, r, rfl⟩
      · exact ⟨top :: l', a, r, by simp⟩
    rw [split] at once ⊢
    have apart : ∀ x ∈ upper ++ [above] ++ lower, x.slot ≠ n := by
      intro x hx hxn
      rw [show upper ++ above :: e :: lower = (upper ++ [above]) ++ e :: lower by simp, List.map_append, List.map_cons] at once
      obtain ⟨_, tail, disjoint⟩ := List.nodup_append.mp once
      rcases List.mem_append.mp hx with hx | hx
      · exact disjoint _ (List.mem_map_of_mem hx) e.slot (by simp) (hxn.trans hn.symm)
      · exact (List.nodup_cons.mp tail).1 (List.mem_map.mpr ⟨x, hx, hxn.trans hn.symm⟩)
    rw [removeBelow_append (fun x hx => apart x (List.mem_append_left _ hx)) hn]
    intro x hx
    rcases List.mem_append.mp hx with hx | hx
    · exact apart x (by simp [hx])
    · rcases List.mem_cons.mp hx with rfl | hx
      · exact apart above (by simp)
      · exact apart x (by simp [hx])
  · rw [removeBelow_of_not_mem]
    all_goals
      intro e he
      rcases List.mem_cons.mp he with rfl | he
      · exact htop
      · exact fun hn => h ⟨e, he, hn⟩

theorem Atu.lost_isStacked {a : Atu} (h : a.Lawful) (n : Slot) : (a.lost n).isStacked n = false := by
  obtain ⟨_, _, _, once, _⟩ := h
  rw [Atu.isStacked, List.any_eq_false]
  intro e he
  rw [decide_eq_true_eq]
  unfold Atu.lost at he
  cases hs : a.stack with
  | nil => rw [hs] at he; cases he
  | cons top rest =>
    rw [hs] at he once
    dsimp only at he
    split at he
    next htop =>
      rw [List.map_cons, List.nodup_cons] at once
      exact fun hn => once.1 (List.mem_map.mpr ⟨e, he, hn.trans htop.symm⟩)
    next htop => exact removeBelow_slots htop once e he

theorem leavesTheStack {s t : State} {n : Slot} (h : s.atu.Lawful) (lost : t.atu = s.atu.lost n) : LeavesTheStack s t n := by
  obtain ⟨_, _, _, once, _⟩ := h
  unfold LeavesTheStack
  rw [lost]
  refine ⟨fun out => ?_, fun e rest hs top => ?_, fun upper above e lower hs he => ?_⟩
  · have none (e : Attended) (he : e ∈ s.atu.stack) : e.slot ≠ n := by
      have := List.any_eq_false.mp out e he
      rwa [decide_eq_true_eq] at this
    unfold Atu.lost
    cases hs : s.atu.stack with
    | nil => rfl
    | cons top rest =>
      rw [hs] at none
      exact (if_neg (none top (by simp))).trans (removeBelow_of_not_mem none)
  · unfold Atu.lost
    rw [hs]
    exact if_pos top
  · rw [hs] at once
    have fresh : ∀ x ∈ upper ++ [above], x.slot ≠ n := by
      intro x hx hxn
      rw [show upper ++ above :: e :: lower = (upper ++ [above]) ++ e :: lower by simp, List.map_append, List.map_cons] at once
      exact (List.nodup_append.mp once).2.2 _ (List.mem_map_of_mem hx) e.slot (by simp) (hxn.trans he.symm)
    have moved := removeBelow_append (lower := lower) fresh he
    unfold Atu.lost
    rw [hs]
    cases upper with
    | nil => exact (if_neg (fresh above (by simp))).trans moved
    | cons x upper => exact (if_neg (fresh x (by simp))).trans moved

/-! ### The restore (07, R121) -/

theorem State.clearEntered_place (s : State) (o : Option Slot) :
    (s.clearEntered o).gu.px = s.gu.px ∧ (s.clearEntered o).gu.py = s.gu.py := by
  unfold State.clearEntered
  split
  · split <;> exact ⟨rfl, rfl⟩
  · exact ⟨rfl, rfl⟩

theorem State.handPlace_place (s : State) (x y : Int) : (s.handPlace x y).placeSide = s.placeSide := by
  unfold State.handPlace
  split
  · split
    · exact State.handOver_placeSide ..
    · rfl
  · rfl

/-- A relocation ends at its place. -/
theorem State.relocate_place (s : State) (x y : Int) : (s.relocate x y).gu.px = x ∧ (s.relocate x y).gu.py = y := by
  obtain ⟨hx, hy, _⟩ := State.place_of_side (State.handPlace_place
    ((((s.releaseButtons s.gu.pointerSlot).suppressButtons).moveTo x y).clearEntered s.gu.pointerSlot) x y)
  obtain ⟨hx', hy'⟩ := State.clearEntered_place (((s.releaseButtons s.gu.pointerSlot).suppressButtons).moveTo x y) s.gu.pointerSlot
  rw [State.relocate_eq]
  exact ⟨hx.trans hx', hy.trans hy'⟩

theorem State.tileSlot_of_eq {s t : State} (hcmp : t.cmp = s.cmp) (htables : t.tables = s.tables) (i : TileIx) :
    t.tileSlot i = s.tileSlot i := by
  simp only [State.tileSlot, State.source, hcmp, htables]

theorem allSixteen_mem (i : TileIx) : i ∈ allSixteen := mem_allSixteen i

/-- The home tile is the lowest-numbered tile on the desk bound to the slot (03, R58). -/
theorem State.homeTile_of_first {s : State} {n : Slot} {i : TileIx} {r : Rect} (slot : s.tileSlot i = some n)
    (placed : s.cmp.active.placed i = some r) (first : ∀ j, j < i → s.tileSlot j = some n → s.cmp.active.placed j = none) :
    s.homeTile n = some r := by
  refine findSome?_of_first allSixteen_rising (mem_allSixteen i) ((if_pos slot).trans placed) fun j hj => ?_
  split
  next h => exact first j hj h
  · rfl

theorem State.homeTile_of_none {s : State} {n : Slot} (h : ∀ i, s.tileSlot i = some n → s.cmp.active.placed i = none) :
    s.homeTile n = none := by
  rw [State.homeTile, List.findSome?_eq_none_iff]
  intro i _
  split
  next hi => exact h i hi
  · rfl

theorem State.homeTile_of_eq {s t : State} (hcmp : t.cmp = s.cmp) (htables : t.tables = s.tables) (n : Slot) :
    t.homeTile n = s.homeTile n := by
  simp only [State.homeTile, State.tileSlot_of_eq hcmp htables, hcmp]

@[simp] theorem State.restore_deskSide (s : State) (f : Option Slot) (x y : Int) : (s.restore f x y).deskSide = s.deskSide := by
  simp only [State.restore]
  repeat' (first | split | simp)

theorem State.restore_focusSide (s : State) (f : Option Slot) (x y : Int) : (s.restore f x y).focusSide = (f, s.fc.follow) := by
  refine Eq.trans ?_ (s.focusChange_focusSide f)
  simp only [State.restore]
  repeat' (first | split | simp)

section Restore
variable {s : State} {f : Option Slot} {x y : Int}

theorem State.focusChange_follow (s : State) (t : Option Slot) : (s.focusChange t).fc.follow = s.fc.follow :=
  congrArg Prod.snd (s.focusChange_focusSide t)

theorem State.restore_of_separate (h : s.fc.follow = .separate) : s.restore f x y = s.focusChange f :=
  if_neg (by rw [State.focusChange_follow, h]; decide)

theorem State.restore_of_onDesk (h : s.fc.follow = .follow) (onDesk : (s.cmp.active.displayAt x y).isSome = true) :
    s.restore f x y = (s.focusChange f).relocate x y :=
  (if_pos ((s.focusChange_follow f).trans h)).trans (if_pos (by rwa [State.cmp_of_side (s.focusChange_deskSide f)]))

theorem State.focusChange_homeTile (s : State) (t : Option Slot) : (s.focusChange t).homeTile = s.homeTile := funext fun n =>
  State.homeTile_of_eq (State.cmp_of_side (s.focusChange_deskSide t)) (State.tables_eq_of_outer_eq (s.focusChange_outer t)) n

theorem State.restore_of_home (h : s.fc.follow = .follow) (off : ¬ (s.cmp.active.displayAt x y).isSome = true) {r : Rect}
    (home : f.bind s.homeTile = some r) : s.restore f x y = (s.focusChange f).relocate r.centreX r.centreY := by
  unfold State.restore
  dsimp only
  rw [if_pos ((s.focusChange_follow f).trans h), if_neg (by rwa [State.cmp_of_side (s.focusChange_deskSide f)]),
    State.focusChange_homeTile, home]

theorem State.restore_of_no_home (h : s.fc.follow = .follow) (off : ¬ (s.cmp.active.displayAt x y).isSome = true)
    (home : f.bind s.homeTile = none) : s.restore f x y = s.focusChange f := by
  unfold State.restore
  dsimp only
  rw [if_pos ((s.focusChange_follow f).trans h), if_neg (by rwa [State.cmp_of_side (s.focusChange_deskSide f)]),
    State.focusChange_homeTile, home]

end Restore

/-- A restore of what an entry saved, from a state whose desk and place are those of `s`, whatever follows leaving them. -/
theorem restoresSaved {s u t : State} {e : Attended} (hcmp : u.cmp = s.cmp) (htables : u.tables = s.tables)
    (hplace : u.gu.px = s.gu.px ∧ u.gu.py = s.gu.py) (hfollow : u.fc.follow = s.fc.follow)
    (focus : t.fc.focus = (u.restore e.savedFocus e.savedX e.savedY).fc.focus)
    (place : t.placeSide = (u.restore e.savedFocus e.savedX e.savedY).placeSide) : RestoresSaved s t e := by
  obtain ⟨tx, ty, _⟩ := State.place_of_side place
  have still : (u.focusChange e.savedFocus).gu.px = s.gu.px ∧ (u.focusChange e.savedFocus).gu.py = s.gu.py := by
    obtain ⟨hx, hy, _⟩ := State.place_of_side (u.focusChange_placeSide e.savedFocus)
    exact ⟨hx.trans hplace.1, hy.trans hplace.2⟩
  refine ⟨?_, fun separate => ?_, fun follow onDesk => ?_, fun follow off f i r saved slot placed first => ?_,
    fun follow off none => ?_⟩
  · exact focus.trans (congrArg Prod.fst (u.restore_focusSide _ _ _))
  · rw [tx, ty, State.restore_of_separate (hfollow.trans separate)]
    exact still
  · rw [tx, ty, State.restore_of_onDesk (hfollow.trans follow) (by rwa [hcmp])]
    exact State.relocate_place ..
  · have home : e.savedFocus.bind u.homeTile = some r := by
      rw [saved, Option.bind_some, State.homeTile_of_eq hcmp htables, State.homeTile_of_first slot placed first]
    rw [tx, ty, State.restore_of_home (hfollow.trans follow) (by rwa [hcmp]) home]
    exact State.relocate_place ..
  · have noHome : e.savedFocus.bind u.homeTile = Option.none := by
      cases saved : e.savedFocus with
      | none => rfl
      | some f =>
        rw [Option.bind_some, State.homeTile_of_eq hcmp htables]
        exact State.homeTile_of_none fun i => none f i saved
    rw [tx, ty, State.restore_of_no_home (hfollow.trans follow) (by rwa [hcmp]) noHome]
    exact still

end Sys2Proof.Machine


/-! A loss of bus power and a bus reset, step by step (05, R79, R80). -/

namespace Sys2Proof.Machine

/-- What a loss of slot `n` leaves of it in the Focus Controller and the Glide Unit (01, R21; 03, R60). -/
structure State.Lost (n : Slot) (s t : State) : Prop where
  sent : t.sent n = KeyImage.empty
  delivered : t.delivered n = 0
  accumulators : t.gu.accX.get n = 0 ∧ t.gu.accY.get n = 0
  held : ∀ k, heldKey k s.fc.held = some (.slot n) → heldKey k t.fc.held = some .suppressed

theorem State.Lost.spares {n : Slot} {s t u : State} (h : t.Lost n s) (kept : s.Spares n u) : t.Lost n u :=
  ⟨kept.sent h.sent, kept.delivered h.delivered, kept.accumulators h.accumulators, fun k hk => kept.held k (h.held k hk)⟩

theorem State.Lost.of_eq {n : Slot} {s t u : State} (h : t.Lost n s) (hfc : u.fc = s.fc) (hgu : u.gu = s.gu) : t.Lost n u :=
  ⟨by rw [State.sent, hfc]; exact h.sent, by rw [State.delivered, hgu]; exact h.delivered, hgu ▸ h.accumulators,
    fun k hk => hfc ▸ h.held k hk⟩

/-- The slot's port is at its power-on values and its T6 stopped. -/
def State.Unpowered (n : Slot) (s : State) : Prop := s.port n = Port.reset ∧ s.timer (.t6 n) = .stopped

/-! ### What each block's part does -/

theorem State.guLinkReset_eq (s : State) (n : Slot) : s.guLinkReset n = s.setGu { s.gu with
    suppressed := s.gu.suppressed ||| s.gu.delivered.get n
    delivered := s.gu.delivered.put n 0
    accX := s.gu.accX.put n 0
    accY := s.gu.accY.put n 0 } := rfl

/-- The FC's and the GU's parts together, whatever the focus does between them. -/
theorem State.lost_of_guLinkReset {n : Slot} {s t u : State} (hfc : s.fc = (t.lostFc n)) (kept : s.Spares n u) :
    t.Lost n (u.guLinkReset n) where
  sent := kept.sent (by rw [State.sent, hfc]; exact Table.get_put_same ..)
  delivered := Table.get_put_same ..
  accumulators := ⟨Table.get_put_same .., Table.get_put_same ..⟩
  held k hk := kept.held k (by rw [hfc, State.heldKey_lostFc, hk]; exact congrArg some (if_pos rfl))

theorem State.settlePort_lostFc (s : State) (n : Slot) (p : Port) : (s.settlePort n p).lostFc n = s.lostFc n := by
  simp only [State.lostFc, State.settlePort_fc, State.settlePort_ciu]

theorem State.settlePort_unpowered (s : State) (n : Slot) : (s.settlePort n Port.reset).Unpowered n :=
  ⟨s.settlePort_port_same n _, by rw [State.settlePort_eq]; exact s.bank.timer_setTimer (.t6 n) (.t6 n) _ |>.trans (if_pos rfl)⟩

theorem State.Spares.unpowered {n : Slot} {s t : State} (kept : s.Spares n t) (h : s.Unpowered n) : t.Unpowered n :=
  kept.reset h.1 h.2

theorem State.fcPowerLost_spares (s : State) (n : Slot) : (s.fcLoss n).Spares n (s.fcPowerLost n) := by
  show (s.fcLoss n).Spares n (if (s.fcLoss n).fc.focus = some n then (s.fcLoss n).focusChange none else s.fcLoss n)
  split
  · exact .focusChange _ nofun
  · exact .refl _

theorem State.fcPowerLost_focusSide (s : State) (n : Slot) :
    (s.fcPowerLost n).focusSide = (if s.fc.focus = some n then none else s.fc.focus, s.fc.follow) := by
  have side := s.fcLoss_focusSide n
  have focus := State.focus_of_side side
  show State.focusSide (if (s.fcLoss n).fc.focus = some n then (s.fcLoss n).focusChange none else s.fcLoss n) = _
  rw [focus]
  split
  · rw [State.focusChange_focusSide, State.follow_of_side side]
  · exact side

theorem State.atuLinkReset_deskSide (s : State) (n : Slot) : (s.atuLinkReset n).deskSide = (s.cmp, s.atu.lost n) := by
  cases h : s.atu.restores n with
  | none => rw [State.atuLinkReset_of_none h]; rfl
  | some e => rw [State.atuLinkReset_of_restore h, State.restore_deskSide]; rfl

theorem State.atuLinkReset_spares (s : State) (n : Slot) : s.Spares n (s.atuLinkReset n) := by
  have atu (x : Atu) : s.Spares n (s.setAtu x) := ⟨rfl, rfl, fun p q => ⟨p, q⟩, id, id, id, fun _ => id⟩
  cases h : s.atu.restores n with
  | none => rw [State.atuLinkReset_of_none h]; exact atu _
  | some e =>
    rw [State.atuLinkReset_of_restore h]
    exact (atu _).trans (.restore _ (Atu.restores_eq_some h).2.2 _ _)

/-! ### The wake sequence of the slot -/

theorem State.wakeOnBusReset_of_running {s : State} {n : Slot}
    (h : (s.wake n).phase = .signal ∨ (s.wake n).phase = .await ∨ (s.wake n).phase = .linePulse) :
    s.wakeOnBusReset n = s.enterLineAwait n := by
  unfold State.wakeOnBusReset
  rcases h with h | h | h <;> rw [h]

theorem State.wakeOnBusReset_of_other {s : State} {n : Slot}
    (h : ¬ ((s.wake n).phase = .signal ∨ (s.wake n).phase = .await ∨ (s.wake n).phase = .linePulse)) : s.wakeOnBusReset n = s := by
  unfold State.wakeOnBusReset
  cases hp : (s.wake n).phase <;> simp_all

theorem State.wakeOnPowerLost_of_signalling {s : State} {n : Slot} (h : (s.wake n).phase = .signal ∨ (s.wake n).phase = .await) :
    s.wakeOnPowerLost n = if (s.slotRecord n).wakeLineWired = true then s.enterLinePulse n else s.enterFailed n := by
  unfold State.wakeOnPowerLost
  rcases h with h | h <;> rw [h] <;> rfl

theorem State.wakeOnPowerLost_of_other {s : State} {n : Slot} (h : ¬ ((s.wake n).phase = .signal ∨ (s.wake n).phase = .await)) :
    s.wakeOnPowerLost n = s := by
  unfold State.wakeOnPowerLost
  cases hp : (s.wake n).phase <;> simp_all

theorem State.enterFailed_wake (s : State) (n : Slot) : (s.enterFailed n).wake n = { s.wake n with phase := .failed, line := false } := by
  have failing : (s.failing n).wake n = { s.wake n with phase := .failed, line := false } := Table.get_put_same ..
  cases policy : (s.slotRecord n).policy with
  | keep => rw [State.enterFailed_of_keep policy, failing]
  | discard => rw [State.enterFailed_of_discard policy, State.releaseFlush_wake, failing]

theorem State.enterLinePulse_wake (s : State) (n : Slot) :
    (s.enterLinePulse n).wake n = { s.wake n with phase := .linePulse, line := true } := by
  rw [State.enterLinePulse_eq]
  exact Table.get_put_same ..

theorem State.enterLinePulse_rest (s : State) (n : Slot) :
    (s.enterLinePulse n).ports = s.ports ∧ (s.enterLinePulse n).fc = s.fc ∧ (s.enterLinePulse n).gu = s.gu := by
  rw [State.enterLinePulse_eq]
  exact ⟨rfl, rfl, rfl⟩

theorem State.enterLinePulse_t6 (s : State) (n : Slot) : (s.enterLinePulse n).timer (.t6 n) = s.timer (.t6 n) := by
  rw [State.enterLinePulse, State.timer_startTimer, if_neg nofun, State.timer_setPhase, State.timer_stopWakeTimers, if_neg (by simp)]

theorem State.failing_t6 (s : State) (n : Slot) : (s.failing n).timer (.t6 n) = s.timer (.t6 n) :=
  (s.timer_stopWakeTimers n (.t6 n)).trans (if_neg (by simp))

/-- A slot without bus power keeps its values when its wake sequence goes on. -/
theorem State.Lost.wakeOnPowerLost {n : Slot} {s t : State} (h : t.Lost n s) (off : s.Unpowered n) :
    t.Lost n (s.wakeOnPowerLost n) ∧ (s.wakeOnPowerLost n).Unpowered n := by
  by_cases signalling : (s.wake n).phase = .signal ∨ (s.wake n).phase = .await
  case neg => rw [State.wakeOnPowerLost_of_other signalling]; exact ⟨h, off⟩
  rw [State.wakeOnPowerLost_of_signalling signalling]
  split
  · obtain ⟨hport, hfc, hgu⟩ := s.enterLinePulse_rest n
    exact ⟨h.of_eq hfc hgu, (congrArg (Table.get · n) hport).trans off.1, (s.enterLinePulse_t6 n).trans off.2⟩
  · have failing : t.Lost n (s.failing n) := h.of_eq rfl rfl
    have failingOff : (s.failing n).Unpowered n := ⟨off.1, (s.failing_t6 n).trans off.2⟩
    cases policy : (s.slotRecord n).policy with
    | keep => rw [State.enterFailed_of_keep policy]; exact ⟨failing, failingOff⟩
    | discard =>
      rw [State.enterFailed_of_discard policy]
      exact ⟨failing.spares (.releaseFlush _ n), (State.Spares.releaseFlush _ n).unpowered failingOff⟩

theorem State.wakeOnPowerLost_wake (s : State) (n : Slot) :
    ((s.wakeOnPowerLost n).wake n).attempts = (s.wake n).attempts ∧ ((s.wakeOnPowerLost n).wake n).cause = (s.wake n).cause ∧
    ((s.wakeOnPowerLost n).wake n).phase = (if (s.wake n).phase = .signal ∨ (s.wake n).phase = .await then
      (if (s.slotRecord n).wakeLineWired = true then .linePulse else .failed) else (s.wake n).phase) := by
  by_cases signalling : (s.wake n).phase = .signal ∨ (s.wake n).phase = .await
  · rw [State.wakeOnPowerLost_of_signalling signalling, if_pos signalling]
    split
    · rw [State.enterLinePulse_wake]; exact ⟨rfl, rfl, rfl⟩
    · rw [State.enterFailed_wake]; exact ⟨rfl, rfl, rfl⟩
  · rw [State.wakeOnPowerLost_of_other signalling, if_neg signalling]
    exact ⟨rfl, rfl, rfl⟩

/-! ### A loss of bus power -/

/-- The state after the port's, the FC's and the GU's parts of a loss of bus power. -/
def State.unpowered (s : State) (n : Slot) : State := ((s.settlePort n Port.reset).fcPowerLost n).guLinkReset n

section PowerLoss
variable (s : State) (n : Slot)

theorem State.unpowered_lost : s.Lost n (s.unpowered n) :=
  State.lost_of_guLinkReset (s := (s.settlePort n Port.reset).fcLoss n)
    ((congrArg State.fc (State.fcLoss_eq ..)).trans (s.settlePort_lostFc n _)) (State.fcPowerLost_spares _ n)

theorem State.unpowered_unpowered : (s.unpowered n).Unpowered n := by
  have lost : ((s.settlePort n Port.reset).fcLoss n).Unpowered n := by
    rw [State.fcLoss_eq]
    exact s.settlePort_unpowered n
  exact (State.fcPowerLost_spares _ n).unpowered lost

theorem State.unpowered_wake : (s.unpowered n).wake n = s.wake n :=
  (State.fcPowerLost_spares _ n).wake.trans (((s.settlePort n Port.reset).fcLoss_wake n n).trans (s.settlePort_wake n n _))

theorem State.unpowered_deskSide : (s.unpowered n).deskSide = s.deskSide := by simp [State.unpowered]

theorem State.unpowered_tables : (s.unpowered n).tables = s.tables :=
  State.tables_eq_of_outer_eq (by simp [State.unpowered])

theorem State.guLinkReset_place (s : State) (n : Slot) :
    (s.guLinkReset n).gu.px = s.gu.px ∧ (s.guLinkReset n).gu.py = s.gu.py := ⟨rfl, rfl⟩

theorem State.unpowered_place : (s.unpowered n).gu.px = s.gu.px ∧ (s.unpowered n).gu.py = s.gu.py := by
  have side : ((s.settlePort n Port.reset).fcPowerLost n).placeSide = s.placeSide := by simp
  obtain ⟨hx, hy, _⟩ := State.place_of_side side
  exact ⟨hx, hy⟩

theorem State.unpowered_focusSide : (s.unpowered n).focusSide = (if s.fc.focus = some n then none else s.fc.focus, s.fc.follow) := by
  rw [State.unpowered, State.guLinkReset_focusSide, State.fcPowerLost_focusSide, State.settlePort_fc]

theorem State.takePowerLoss_eq : s.takePowerLoss n =
    ((((s.unpowered n).atuLinkReset n).wakeOnPowerLost n).dropSnapshot n).updateLeds := rfl

/-- What the last two parts leave: the wake sequence's part, but for the snapshot and the console's LEDs. -/
theorem State.takePowerLoss_rest : let v := ((s.unpowered n).atuLinkReset n).wakeOnPowerLost n
    (s.takePowerLoss n).port n = v.port n ∧ (s.takePowerLoss n).timer (.t6 n) = v.timer (.t6 n) ∧ (s.takePowerLoss n).fc = v.fc ∧
    (s.takePowerLoss n).gu = v.gu ∧ (s.takePowerLoss n).wake n = v.wake n ∧ (s.takePowerLoss n).mgi.snapshots.get n = none := by
  intro v
  rw [State.takePowerLoss_eq]
  exact ⟨rfl, rfl, rfl, rfl, rfl, Table.get_put_same ..⟩

@[simp] theorem State.dropSnapshot_deskSide : (s.dropSnapshot n).deskSide = s.deskSide := rfl
@[simp] theorem State.dropSnapshot_focusSide : (s.dropSnapshot n).focusSide = s.focusSide := rfl
@[simp] theorem State.dropSnapshot_placeSide : (s.dropSnapshot n).placeSide = s.placeSide := rfl

theorem State.takePowerLoss_sides : let v := (s.unpowered n).atuLinkReset n
    (s.takePowerLoss n).deskSide = v.deskSide ∧ (s.takePowerLoss n).focusSide = v.focusSide ∧
    (s.takePowerLoss n).placeSide = v.placeSide := by
  intro v
  rw [State.takePowerLoss_eq]
  simp [v]

theorem State.takePowerLoss_atu : (s.takePowerLoss n).atu = s.atu.lost n := by
  have side := (s.takePowerLoss_sides n).1
  rw [State.atuLinkReset_deskSide, State.atu_of_side (s.unpowered_deskSide n)] at side
  exact congrArg Prod.snd side

theorem State.unpowered_restores : (s.unpowered n).atu.restores n = s.atu.restores n := by
  rw [State.atu_of_side (s.unpowered_deskSide n)]

theorem State.takePowerLoss_of_none (h : s.atu.restores n = none) :
    (s.takePowerLoss n).gu.px = s.gu.px ∧ (s.takePowerLoss n).gu.py = s.gu.py ∧
    (s.takePowerLoss n).fc.focus = if s.fc.focus = some n then none else s.fc.focus := by
  obtain ⟨-, focus, place⟩ := s.takePowerLoss_sides n
  rw [State.atuLinkReset_of_none ((s.unpowered_restores n).trans h)] at focus place
  obtain ⟨hx, hy, _⟩ := State.place_of_side (s := s.unpowered n) place
  exact ⟨hx.trans (s.unpowered_place n).1, hy.trans (s.unpowered_place n).2,
    congrArg Prod.fst (focus.trans (s.unpowered_focusSide n))⟩

theorem State.takePowerLoss_of_some {e : Attended} (h : s.atu.restores n = some e) : RestoresSaved s (s.takePowerLoss n) e := by
  obtain ⟨-, focus, place⟩ := s.takePowerLoss_sides n
  rw [State.atuLinkReset_of_restore ((s.unpowered_restores n).trans h)] at focus place
  exact restoresSaved (u := (s.unpowered n).setAtu ((s.unpowered n).atu.lost n))
    (show (s.unpowered n).cmp = s.cmp from State.cmp_of_side (s.unpowered_deskSide n))
    (s.unpowered_tables n) (s.unpowered_place n) (congrArg Prod.snd (s.unpowered_focusSide n)) (congrArg Prod.fst focus) place

theorem State.takePowerLoss_focus : (s.takePowerLoss n).fc.focus ≠ some n := by
  cases h : s.atu.restores n with
  | none =>
    rw [(s.takePowerLoss_of_none n h).2.2]
    split
    · nofun
    · assumption
  | some e =>
    rw [(s.takePowerLoss_of_some n h).1]
    exact (Atu.restores_eq_some h).2.2

/-- What the slot itself is left with. -/
theorem State.takePowerLoss_lost : s.Lost n (s.takePowerLoss n) ∧ (s.takePowerLoss n).Unpowered n := by
  have spared := (s.unpowered n).atuLinkReset_spares n
  obtain ⟨lost, off⟩ := ((s.unpowered_lost n).spares spared).wakeOnPowerLost (spared.unpowered (s.unpowered_unpowered n))
  obtain ⟨port, t6, fc, gu, -, -⟩ := s.takePowerLoss_rest n
  exact ⟨lost.of_eq fc gu, port.trans off.1, t6.trans off.2⟩

theorem State.takePowerLoss_wake :
    ((s.takePowerLoss n).wake n).attempts = (s.wake n).attempts ∧ ((s.takePowerLoss n).wake n).cause = (s.wake n).cause ∧
    ((s.takePowerLoss n).wake n).phase = (if (s.wake n).phase = .signal ∨ (s.wake n).phase = .await then
      (if (s.slotRecord n).wakeLineWired = true then .linePulse else .failed) else (s.wake n).phase) := by
  obtain ⟨-, -, -, -, wake, -⟩ := s.takePowerLoss_rest n
  have tables : ((s.unpowered n).atuLinkReset n).tables = s.tables :=
    (State.tables_eq_of_outer_eq (State.atuLinkReset_outer ..)).trans (s.unpowered_tables n)
  have record : ((s.unpowered n).atuLinkReset n).slotRecord n = s.slotRecord n := congrArg (fun x => x.slots.get n) tables
  have after := ((s.unpowered n).atuLinkReset n).wakeOnPowerLost_wake n
  rw [((s.unpowered n).atuLinkReset_spares n).wake, s.unpowered_wake n, record] at after
  rw [wake]
  exact after

end PowerLoss

/-- Settles O28. -/
theorem busPowerLostResetsTheSlot : Obligations.BusPowerLostResetsTheSlot := by
  intro s n taking
  refine ⟨fun off => ?_, fun on lawful => ⟨s.takePowerLoss n, ?_, ?_⟩⟩
  · rw [exec_busPowerLost taking, State.powerLost, off]
  · rw [exec_busPowerLost taking]
    unfold State.powerLost
    cases hl : s.link n with
    | off => exact absurd hl on
    | attached | active | suspended | resuming => rfl
  obtain ⟨lost, port, t6⟩ := s.takePowerLoss_lost n
  obtain ⟨attempts, cause, phase⟩ := s.takePowerLoss_wake n
  have atu := s.takePowerLoss_atu n
  refine ⟨port, lost.sent, lost.delivered, lost.accumulators.1, lost.accumulators.2, s.takePowerLoss_focus n, t6, lost.held,
    (s.takePowerLoss_rest n).2.2.2.2.2, ?_, ?_, attempts, cause, phase, s.takePowerLoss_consoleSide n, s.takePowerLoss_outer n,
    leavesTheStack lawful atu, fun e rest stack top other => s.takePowerLoss_of_some n (Atu.restores_of_top stack top other),
    fun none => s.takePowerLoss_of_none n (Atu.restores_eq_none none)⟩
  · rw [atu]; exact Atu.lost_isPending ..
  · rw [atu]; exact Atu.lost_isStacked lawful n

end Sys2Proof.Machine


/-! A bus reset (05, R79). -/

namespace Sys2Proof.Machine

/-- The state after the port's, the FC's and the GU's parts of a bus reset. -/
def State.busCleared (s : State) (n : Slot) : State := ((s.settlePort n (Port.linkReset .attached)).fcLoss n).guLinkReset n

section BusReset
variable (s : State) (n : Slot)

theorem State.busCleared_eq : s.busCleared n = { s with
    ports := s.ports.put n (Port.linkReset .attached)
    fc := s.lostFc n
    gu := { s.gu with
      suppressed := s.gu.suppressed ||| s.gu.delivered.get n
      delivered := s.gu.delivered.put n 0
      accX := s.gu.accX.put n 0
      accY := s.gu.accY.put n 0 }
    bank := s.bank.setTimer (.t6 n) .stopped } := by
  rw [State.busCleared, State.fcLoss_eq, State.settlePort_lostFc, State.settlePort_eq, State.guLinkReset_eq]
  rfl

theorem State.busCleared_lost : s.Lost n (s.busCleared n) :=
  State.lost_of_guLinkReset (s := (s.settlePort n (Port.linkReset .attached)).fcLoss n)
    ((congrArg State.fc (State.fcLoss_eq ..)).trans (s.settlePort_lostFc n _)) (.refl _)

theorem State.busCleared_rest : (s.busCleared n).cmp = s.cmp ∧ (s.busCleared n).tables = s.tables ∧ (s.busCleared n).atu = s.atu ∧
    (s.busCleared n).wakes = s.wakes ∧ (s.busCleared n).gu.px = s.gu.px ∧ (s.busCleared n).gu.py = s.gu.py ∧
    (s.busCleared n).focusSide = s.focusSide ∧ (s.busCleared n).timer (.t6 n) = .stopped := by
  rw [State.busCleared_eq]
  exact ⟨rfl, rfl, rfl, rfl, rfl, rfl, rfl, (s.bank.timer_setTimer (.t6 n) (.t6 n) _).trans (if_pos rfl)⟩

theorem State.busCleared_port (m : Slot) : (s.busCleared n).port m = if m = n then Port.linkReset .attached else s.port m := by
  rw [State.busCleared_eq]
  exact Table.get_put ..

theorem State.busCleared_sent {m : Slot} (h : m ≠ n) : (s.busCleared n).sent m = s.sent m := by
  rw [State.busCleared_eq]
  exact Table.get_put_ne _ _ h

theorem State.takeBusReset_eq : s.takeBusReset n =
    ((((s.busCleared n).atuLinkReset n).wakeOnBusReset n).dropSnapshot n).updateLeds := rfl

theorem State.enterLineAwait_rest :
    (s.enterLineAwait n).ports = s.ports ∧ (s.enterLineAwait n).fc = s.fc ∧ (s.enterLineAwait n).gu = s.gu := by
  rw [State.enterLineAwait_eq]
  exact ⟨rfl, rfl, rfl⟩

theorem State.enterLineAwait_wake :
    (s.enterLineAwait n).wake n = { s.wake n with phase := .lineAwait, line := false } := by
  rw [State.enterLineAwait_eq]
  exact Table.get_put_same ..

theorem State.enterLineAwait_t5 : (s.enterLineAwait n).timer (.t5 n) = .running (s.tables.timing.get 5).duration 0 := by
  rw [State.enterLineAwait, State.timer_startTimer, if_pos rfl]
  rfl

theorem State.wakeOnBusReset_rest : (s.wakeOnBusReset n).ports = s.ports ∧ (s.wakeOnBusReset n).fc = s.fc ∧
    (s.wakeOnBusReset n).gu = s.gu ∧ (s.wakeOnBusReset n).timer (.t6 n) = s.timer (.t6 n) := by
  by_cases running : (s.wake n).phase = .signal ∨ (s.wake n).phase = .await ∨ (s.wake n).phase = .linePulse
  · obtain ⟨hport, hfc, hgu⟩ := s.enterLineAwait_rest n
    rw [State.wakeOnBusReset_of_running running]
    refine ⟨hport, hfc, hgu, ?_⟩
    rw [State.enterLineAwait, State.timer_startTimer, if_neg nofun, State.timer_setPhase, State.timer_stopWakeTimers, if_neg (by simp)]
  · rw [State.wakeOnBusReset_of_other running]
    exact ⟨rfl, rfl, rfl, rfl⟩

/-- What the last two parts leave: the ATU's part, but for the wake sequence, the snapshot and the console's LEDs. -/
theorem State.takeBusReset_rest : let v := (s.busCleared n).atuLinkReset n
    (s.takeBusReset n).ports = v.ports ∧ (s.takeBusReset n).timer (.t6 n) = v.timer (.t6 n) ∧ (s.takeBusReset n).fc = v.fc ∧
    (s.takeBusReset n).gu = v.gu ∧ (s.takeBusReset n).mgi.snapshots.get n = none := by
  intro v
  obtain ⟨hport, hfc, hgu, t6⟩ := v.wakeOnBusReset_rest n
  rw [State.takeBusReset_eq]
  exact ⟨hport, t6, hfc, hgu, Table.get_put_same ..⟩

theorem State.takeBusReset_atu : (s.takeBusReset n).atu = s.atu.lost n := by
  have side : (s.takeBusReset n).deskSide = ((s.busCleared n).atuLinkReset n).deskSide := by
    rw [State.takeBusReset_eq]
    simp
  rw [State.atuLinkReset_deskSide, (s.busCleared_rest n).2.2.1] at side
  exact congrArg Prod.snd side

theorem State.busCleared_restores : (s.busCleared n).atu.restores n = s.atu.restores n := by rw [(s.busCleared_rest n).2.2.1]

theorem State.takeBusReset_of_some {e : Attended} (h : s.atu.restores n = some e) : RestoresSaved s (s.takeBusReset n) e := by
  obtain ⟨-, -, fc, gu, -⟩ := s.takeBusReset_rest n
  obtain ⟨cmp, tables, -, -, px, py, side, -⟩ := s.busCleared_rest n
  rw [State.atuLinkReset_of_restore ((s.busCleared_restores n).trans h)] at fc gu
  refine restoresSaved (u := (s.busCleared n).setAtu ((s.busCleared n).atu.lost n)) cmp tables ⟨px, py⟩
    (State.follow_of_side side) (congrArg Fc.focus fc) ?_
  simp only [State.placeSide, gu]

theorem State.takeBusReset_lost : s.Lost n (s.takeBusReset n) := by
  obtain ⟨-, -, fc, gu, -⟩ := s.takeBusReset_rest n
  exact ((s.busCleared_lost n).spares ((s.busCleared n).atuLinkReset_spares n)).of_eq fc gu

theorem State.takeBusReset_link : (s.takeBusReset n).link n = .attached := by
  have link : (s.takeBusReset n).link n = ((s.busCleared n).atuLinkReset n).link n :=
    congrArg (fun t => (Table.get t n).link) (s.takeBusReset_rest n).1
  rw [link, ((s.busCleared n).atuLinkReset_spares n).link, State.link, State.busCleared_port, if_pos rfl]
  rfl

/-- The wake sequence goes on to LINE_AWAIT or stays (06, R107). -/
theorem State.takeBusReset_wake :
    if (s.wake n).phase = .signal ∨ (s.wake n).phase = .await ∨ (s.wake n).phase = .linePulse then
      ((s.takeBusReset n).wake n).phase = .lineAwait ∧ ((s.takeBusReset n).wake n).line = false ∧
        (s.takeBusReset n).timer (.t5 n) = .running (s.tables.timing.get 5).duration 0
    else (s.takeBusReset n).wake n = s.wake n := by
  have before : ((s.busCleared n).atuLinkReset n).wake n = s.wake n :=
    ((s.busCleared n).atuLinkReset_spares n).wake.trans (congrArg (Table.get · n) (s.busCleared_rest n).2.2.2.1)
  have tables : ((s.busCleared n).atuLinkReset n).tables = s.tables :=
    (State.tables_eq_of_outer_eq (State.atuLinkReset_outer ..)).trans (s.busCleared_rest n).2.1
  have after : (s.takeBusReset n).wake n = (((s.busCleared n).atuLinkReset n).wakeOnBusReset n).wake n := by
    rw [State.takeBusReset_eq]
    rfl
  have t5 : (s.takeBusReset n).timer (.t5 n) = (((s.busCleared n).atuLinkReset n).wakeOnBusReset n).timer (.t5 n) := by
    rw [State.takeBusReset_eq]
    rfl
  rw [after, t5]
  split
  next running =>
    rw [State.wakeOnBusReset_of_running (by rwa [before]), State.enterLineAwait_wake, State.enterLineAwait_t5, tables]
    exact ⟨rfl, rfl, rfl⟩
  next still => rw [State.wakeOnBusReset_of_other (by rwa [before]), before]

end BusReset

theorem State.busResets_of_on {s : State} {n : Slot} (on : s.link n ≠ .off) : s.busResets n = s.takeBusReset n := by
  unfold State.busResets
  cases hl : s.link n with
  | off => exact absurd hl on
  | attached | active | suspended | resuming => rfl

/-- Settles O29. -/
theorem busResetResetsTheSlot : Obligations.BusResetResetsTheSlot := by
  intro s n taking
  refine ⟨fun off => ?_, fun active => ?_, fun idle => ?_, fun on lawful none => ⟨s.takeBusReset n, ?_, ?_⟩,
    fun e rest on lawful stack top other => ⟨s.takeBusReset n, ?_, ?_⟩⟩
  · rw [exec_busReset taking, State.busResets, off]
  · rw [exec_busReset taking, exec_configuration0Selected taking, State.busResets_of_on (by rw [active]; decide),
      State.deconfigures, active]
  · rw [exec_configuration0Selected taking]
    unfold State.deconfigures
    cases hl : s.link n with
    | active => exact absurd hl idle
    | off | attached | suspended | resuming => rfl
  · rw [exec_busReset taking, State.busResets_of_on on]
  · have lost := s.takeBusReset_lost n
    have atu := s.takeBusReset_atu n
    obtain ⟨ports, t6, fc, gu, snapshots⟩ := s.takeBusReset_rest n
    obtain ⟨-, -, -, -, px, py, side, t6'⟩ := s.busCleared_rest n
    rw [State.atuLinkReset_of_none ((s.busCleared_restores n).trans (Atu.restores_eq_none none))] at ports t6 fc gu
    have port (m : Slot) : (s.takeBusReset n).port m = if m = n then Port.linkReset .attached else s.port m :=
      (congrArg (Table.get · m) ports).trans (s.busCleared_port n m)
    refine ⟨(port n).trans (if_pos rfl), fun m hm => (port m).trans (if_neg hm), lost.sent, fun m hm => ?_, lost.delivered,
      lost.accumulators.1, lost.accumulators.2, ?_, ?_, ?_, lost.held, snapshots, ?_, t6.trans t6', s.takeBusReset_wake n,
      s.takeBusReset_consoleSide n, s.takeBusReset_outer n, ?_, leavesTheStack lawful atu⟩
    · exact (congrArg (fun x => x.sent.get m) fc).trans (s.busCleared_sent n hm)
    · rw [gu]; exact px
    · rw [gu]; exact py
    · exact (congrArg Fc.focus fc).trans (State.focus_of_side side)
    · rw [atu]; exact Atu.lost_isPending ..
    · rw [atu]; exact Atu.lost_isStacked lawful n
  · rw [exec_busReset taking, State.busResets_of_on on]
  · have lost := s.takeBusReset_lost n
    have atu := s.takeBusReset_atu n
    refine ⟨s.takeBusReset_of_some n (Atu.restores_of_top stack top other), leavesTheStack lawful atu, s.takeBusReset_link n,
      lost.sent, lost.delivered, lost.held, (s.takeBusReset_rest n).2.2.2.2, ?_, ?_, s.takeBusReset_wake n,
      s.takeBusReset_consoleSide n, s.takeBusReset_outer n⟩
    · rw [atu]; exact Atu.lost_isPending ..
    · rw [atu]; exact Atu.lost_isStacked lawful n

end Sys2Proof.Machine


/-! WRITE of a record (11, R173), and the bytes of a hotkey entry (02, R25, R26). -/

namespace Sys2Proof.Machine

/-! ### A hotkey entry's bytes (02, R25, R26) -/

theorem below_eq_some {n i : Nat} {j : Fin n} : below n i = some j ↔ i = j.val := by
  unfold below
  split
  · rw [Option.some.injEq, Fin.ext_iff]
  next out =>
    constructor
    · nofun
    · intro h
      exact absurd (h ▸ j.isLt) out

theorem below_eq_none {n i : Nat} : below n i = none ↔ n ≤ i := by
  unfold below
  split
  · exact ⟨nofun, fun h => by omega⟩
  · exact ⟨fun _ => by omega, fun _ => rfl⟩

theorem actionOf_eq_some {b : Byte} {x : Action} : actionOf b = some x ↔ b = x.code := by
  constructor
  · revert b x
    decide
  · rintro rfl
    exact actionOf_code x

theorem actionOf_eq_none {b : Byte} : actionOf b = none ↔ 12 ≤ b.toNat := by
  rw [actionOf, List.getElem?_eq_none_iff]
  rfl

/-- An argument byte that an action takes (02, R25, R26). -/
def Action.fits (x : Action) (g : Byte) : Prop :=
  match x with
  | .select => g.toNat < 8
  | .wake => g.toNat < 8 ∨ g = 0xFE
  | .preset => g.toNat < 4
  | .share => g.toNat < 4 ∨ g = 0xFF
  | _ => True

theorem argumentOf_eq_none {x : Action} {g : Byte} : argumentOf x g = none ↔ ¬ x.fits g := by
  cases x with
  | select => simp [argumentOf, Action.fits, below_eq_none]
  | wake =>
    by_cases h : g = 0xFE
    · simp [argumentOf, Action.fits, h]
    · simp only [argumentOf, Action.fits, if_neg h, Option.map_eq_none_iff, below_eq_none, or_iff_left h, not_lt]
  | preset =>
    by_cases h : g.toNat < 4
    · simp only [argumentOf, Action.fits, if_pos h, Option.map_eq_none_iff, below_eq_none]
      omega
    · simp [argumentOf, Action.fits, h]
  | share =>
    by_cases h : g = 0xFF
    · simp [argumentOf, Action.fits, h]
    · by_cases h' : g.toNat < 4
      · simp only [argumentOf, Action.fits, if_neg h, if_pos h', Option.map_eq_none_iff, below_eq_none]
        omega
      · simp only [argumentOf, Action.fits, if_neg h, or_iff_left h, h', not_false_eq_true, if_false]
  | next | previous | attend | dismiss | wakeAll | glideLock | follow | passNext => simp [argumentOf, Action.fits]

/-- The actions that take an argument. -/
def Action.takesArgument (x : Action) : Prop := x = .select ∨ x = .wake ∨ x = .preset ∨ x = .share

theorem argumentOf_eq_some {x : Action} {g : Byte} {y : Argument} (h : argumentOf x g = some y) :
    (x.takesArgument → (∀ i : Fin 8, g.toNat = i.val → y = .number i) ∧ (g = 0xFE → y = .focus) ∧ (g = 0xFF → y = .off)) ∧
    (¬ x.takesArgument → y = .none) := by
  have number (hy : (below 8 g.toNat).map Argument.number = some y) :
      (∀ i : Fin 8, g.toNat = i.val → y = .number i) ∧ (g = 0xFE → y = .focus) ∧ (g = 0xFF → y = .off) := by
    obtain ⟨j, hj, rfl⟩ := Option.map_eq_some_iff.mp hy
    have value := below_eq_some.mp hj
    have small := j.isLt
    refine ⟨fun i hi => congrArg _ (Fin.ext (value.symm.trans hi)), fun hg => ?_, fun hg => ?_⟩ <;>
      · rw [hg] at value
        simp at value
        omega
  cases x with
  | select => exact ⟨fun _ => number h, fun other => absurd (.inl rfl) other⟩
  | wake =>
    refine ⟨fun _ => ?_, fun other => absurd (.inr (.inl rfl)) other⟩
    by_cases hg : g = 0xFE
    · subst hg
      obtain rfl := Option.some.inj h
      exact ⟨fun i hi => absurd i.isLt (by rw [← hi]; decide), fun _ => rfl, fun hg => absurd hg (by decide)⟩
    · exact number ((if_neg hg).symm.trans h)
  | preset =>
    refine ⟨fun _ => ?_, fun other => absurd (.inr (.inr (.inl rfl))) other⟩
    by_cases hg : g.toNat < 4
    · exact number ((if_pos hg).symm.trans h)
    · exact nomatch (if_neg hg).symm.trans h
  | share =>
    refine ⟨fun _ => ?_, fun other => absurd (.inr (.inr (.inr rfl))) other⟩
    by_cases hg : g = 0xFF
    · subst hg
      obtain rfl := Option.some.inj h
      exact ⟨fun i hi => absurd i.isLt (by rw [← hi]; decide), fun hg => absurd hg (by decide), fun _ => rfl⟩
    · have rest := (if_neg hg).symm.trans h
      by_cases hg' : g.toNat < 4
      · exact number ((if_pos hg').symm.trans rest)
      · exact nomatch (if_neg hg').symm.trans rest
  | next | previous | attend | dismiss | wakeAll | glideLock | follow | passNext =>
    exact ⟨fun takes => by simp [Action.takesArgument] at takes, fun _ => (Option.some.inj h).symm⟩

/-- The entry that five bytes give an action and an argument (02, R25). -/
def hotkeyEntry (f m k : Byte) (x : Action) (y : Argument) : Hotkey :=
  ⟨f.getLsbD 0, if f.getLsbD 1 then .command else .chord, if f.getLsbD 1 then 0 else m,
    !f.getLsbD 1 && f.getLsbD 2, k, x, y, f.getLsbD 1 && f.getLsbD 3⟩

section Bytes
variable {f m k a g : Byte}

theorem hotkeyOf_of_no_action (h : actionOf a = none) : hotkeyOf [f, m, k, a, g] = none := by simp [hotkeyOf, h]

theorem hotkeyOf_of_no_argument {x : Action} (h : actionOf a = some x) (h' : argumentOf x g = none) :
    hotkeyOf [f, m, k, a, g] = none := by simp [hotkeyOf, h, h']

theorem hotkeyOf_of_argument {x : Action} {y : Argument} (h : actionOf a = some x) (h' : argumentOf x g = some y) :
    hotkeyOf [f, m, k, a, g] = if ¬ UsableKey k ∨ (f.getLsbD 1 = true ∧ k = 41) then none else some (hotkeyEntry f m k x y) := by
  simp [hotkeyOf, h, h', hotkeyEntry, ← keyCodeOk_iff]

/-- The pairs of action code and argument byte that an entry takes. -/
theorem code_fits_iff (x : Action) (g : Byte) : ((x.code = 0 ∧ g.toNat < 8) ∨ (x.code = 5 ∧ (g.toNat < 8 ∨ g = 0xFE)) ∨
    (x.code = 7 ∧ g.toNat < 4) ∨ (x.code = 10 ∧ (g.toNat < 4 ∨ g = 0xFF)) ∨
    (x.code ≠ 0 ∧ x.code ≠ 5 ∧ x.code ≠ 7 ∧ x.code ≠ 10 ∧ x.code.toNat < 12)) ↔ x.fits g := by
  cases x <;> simp [Action.code, Action.fits]

theorem code_takesArgument_iff (x : Action) :
    (x.code = 0 ∨ x.code = 5 ∨ x.code = 7 ∨ x.code = 10) ↔ x.takesArgument := by
  cases x <;> simp [Action.code, Action.takesArgument]

end Bytes

/-! ### WRITE (11, R173) -/

theorem Record.isStaged_iff (x : Record) : x.isStaged = true ↔ (∃ d, x = .display d) ∨ ∃ i, x = .tile i := by
  cases x <;> simp [Record.isStaged]

section Header
variable {s : State} {n : Slot} {r : Request} {x : Record}

theorem State.writeRequest_of_bad_view (h : 1 < r.view.toNat) : s.writeRequest n r = s.refuse .badRequest :=
  if_pos (decide_eq_true h)

variable (hview : r.view.toNat ≤ 1)
include hview

theorem badView_of_le : ¬ badView r.view = true := by
  rw [badView, decide_eq_true_eq]
  omega

theorem State.writeRequest_of_bad_section (h : 7 < r.section_.toNat) : s.writeRequest n r = s.refuse .badSection :=
  (if_neg (badView_of_le hview)).trans (if_pos h)

variable (hsection : r.section_.toNat ≤ 7)
include hsection

theorem State.writeRequest_of_no_record (h : recordAt r.section_ r.index.toNat = none) : s.writeRequest n r = s.refuse .badIndex := by
  unfold State.writeRequest
  rw [if_neg (badView_of_le hview), if_neg (by omega), h]

theorem State.writeRequest_of_record (h : recordAt r.section_ r.index.toNat = some x) : s.writeRequest n r =
    if r.payload.length ≠ x.size ∨ (x.isStaged ∧ r.view = 1) then s.refuse .badRequest
    else if (s.access n).writeRights.getLsbD r.section_.toNat then s.writeRecord r.payload x
    else s.refuse .denied := by
  unfold State.writeRequest
  rw [if_neg (badView_of_le hview), if_neg (by omega), h]

end Header

/-- A slot record written moves the slot's pending alert to its new level's place (07, R118). -/
theorem Atu.relevel_spec (a : Atu) (n : Slot) (l : Fin 4) :
    (a.isPending n = false → (a.relevel n l).alerts = a.alerts) ∧
    (a.isPending n = true → ∀ x, x ∈ (a.relevel n l).alerts ↔ (x ∈ a.alerts ∧ x.slot ≠ n) ∨ x = ⟨n, l⟩) ∧
    (a.alerts.Pairwise (fun x y => x.before y = true) → (a.relevel n l).alerts.Pairwise fun x y => x.before y = true) ∧
    a.relevel n l = { a with alerts := (a.relevel n l).alerts } := by
  unfold Atu.relevel
  by_cases pending : a.isPending n = true
  · rw [if_pos pending]
    refine ⟨fun not => (nomatch pending.symm.trans not), fun _ x => ?_, fun order => ?_, rfl⟩
    · rw [mem_insertAlert, mem_removeAlert]
    · exact pairwise_insertAlert (fun b hb => (mem_removeAlert.mp hb).2) (pairwise_removeAlert n order)
  · rw [if_neg pending]
    exact ⟨fun _ => rfl, fun h => absurd h pending, id, rfl⟩

theorem holdsKey_eq_true_iff (t : Table Hotkey 32) (k : Byte) : holdsKey t k = true ↔ ∃ e ∈ t.toList, e.key = k := by
  rw [holdsKey, List.any_eq_true]
  simp only [decide_eq_true_eq]

theorem State.commandToNormal_eq (s : State) : s.commandToNormal = { s with
    hkm := .normal
    bank := { s.bank with t0 := .stopped, t1 := .stopped }
    ciu := s.ciu.compose s.focusLeds } := rfl

theorem clampNat_eq {lo hi : Nat} (h : lo ≤ hi) (n : Nat) : clampNat lo hi n = max lo (min hi n) := by
  unfold clampNat
  split
  · omega
  · split <;> omega

theorem clampNat_zero (hi n : Nat) : clampNat 0 hi n = min hi n := by
  rw [clampNat_eq (Nat.zero_le hi)]
  omega

theorem spriteRowsOf_toList (r : SpriteRows) : spriteRowsOf (Vector.toList r) = some r := tableOf_toList r

theorem State.setSourceRecord_of_elsewhere {s : State} {m : SourceIx} {r : SourceRecord}
    (h : ∀ i, s.gu.tile = some i → (s.cmp.active.tiles.get i).source ≠ m) :
    s.setSourceRecord m r = s.setTables { s.tables with sources := s.tables.sources.put m r } := by
  unfold State.setSourceRecord
  dsimp only
  cases ht : s.gu.tile with
  | none => rw [show (s.setTables { s.tables with sources := s.tables.sources.put m r }).gu.tile = none from ht]
  | some i =>
    rw [show (s.setTables { s.tables with sources := s.tables.sources.put m r }).gu.tile = some i from ht]
    exact if_neg (h i ht)

theorem State.setSourceRecord_of_shown {s : State} {m : SourceIx} {r : SourceRecord} {i : TileIx} (ht : s.gu.tile = some i)
    (h : (s.cmp.active.tiles.get i).source = m) : s.setSourceRecord m r =
      (s.setTables { s.tables with sources := s.tables.sources.put m r }).reevaluateTo s.gu.px s.gu.py := by
  unfold State.setSourceRecord
  dsimp only
  rw [show (s.setTables { s.tables with sources := s.tables.sources.put m r }).gu.tile = some i from ht]
  exact if_pos h

end Sys2Proof.Machine


/-! WRITE of each record (11, R173), and of an access entry (11, R170). -/

namespace Sys2Proof.Machine

section Stored
variable {s : State} {n : Slot} {code view : Byte} {index : Half} {payload : List Byte} {x : Record}

/-- A WRITE that passes every check of its header is the record's write. -/
theorem exec_write_record (hopen : OpenTo s n) (hp : payload.length ≤ 58) (hcode : code.toNat ≤ 7)
    (hx : recordAt code index.toNat = some x) (hview : view = 0 ∨ view = 1 ∧ ¬ x.isStaged = true)
    (hsize : payload.length = x.size) (right : (s.access n).writeRights.getLsbD code.toNat = true) :
    exec (.write n (requestBytes code index view payload)) s = .next ((s.writeRecord payload x).sent n 2 code index) := by
  have good : view.toNat ≤ 1 := by rcases hview with rfl | ⟨rfl, -⟩ <;> decide
  have unstaged : ¬ (payload.length ≠ x.size ∨ (x.isStaged = true ∧ view = 1)) := by
    rintro (h | ⟨staged, one⟩)
    · exact h hsize
    · rcases hview with rfl | ⟨-, not⟩
      · cases one
      · exact not staged
  rw [exec_write_requestBytes hopen code index view payload (by omega), State.writeRequest_of_record good hcode hx,
    if_neg unstaged, if_pos right]
  rfl

end Stored

/-- A source record written re-evaluates P where the current tile shows the source (08, R135; 03, R59). -/
theorem State.setSourceRecord_spec (s : State) (m : SourceIx) (r : SourceRecord) :
    let stored : State := { s with tables := { s.tables with sources := s.tables.sources.put m r } }
    let moved := stored.relocate s.gu.px s.gu.py
    ((∀ i, s.gu.tile = some i → (s.cmp.active.tiles.get i).source ≠ m) → s.setSourceRecord m r = stored) ∧
    (∀ i, s.gu.tile = some i → (s.cmp.active.tiles.get i).source = m → s.setSourceRecord m r =
      if moved.fc.follow = .follow ∧ moved.gu.pointerSlot ≠ s.gu.pointerSlot ∧ moved.gu.pointerSlot ≠ none
        then moved.focusChange moved.gu.pointerSlot else moved) :=
  ⟨fun h => State.setSourceRecord_of_elsewhere h, fun _ ht h => State.setSourceRecord_of_shown ht h⟩

theorem State.writeShareRecord_spec (s : State) (r : Option ProfileIx) :
    let stored : State := { s with tables := { s.tables with shareRecord := r } }
    (r = none → s.writeShareRecord r = { stored with cmp := { s.cmp with ds := Head.stopped, shareWritten := false } }) ∧
    (r ≠ none → s.cmp.ds.running = true → s.writeShareRecord r = { stored with cmp := { s.cmp with shareWritten := true } }) ∧
    (∀ p, r = some p → s.cmp.ds.running = false → s.writeShareRecord r = { stored with cmp := { s.cmp with
      selection := s.cmp.requested
      shareWritten := false
      ds := ⟨true, s.tables.profiles.get p, s.tables.profiles.get p, some (s.sample s.cmp.requested)⟩ } }) := by
  intro stored
  refine ⟨?_, fun some running => ?_, ?_⟩
  · rintro rfl
    rfl
  · obtain ⟨p, rfl⟩ := Option.ne_none_iff_exists'.mp some
    exact if_pos running
  · rintro p rfl stopped
    have starts : s.writeShareRecord (some p) = stored.blankShare := if_neg (show ¬ s.cmp.ds.running = true by rw [stopped]; decide)
    rw [starts]
    unfold State.blankShare
    simp only [show stored.tables.shareRecord = some p from rfl, show stored.cmp.ds.running = false from stopped, or_true, if_true,
      Bool.false_eq_true, if_false]
    rfl

theorem State.setGeneral_spec (s : State) (g : GeneralInput) :
    let stored (y : State) : State := { y with
      tables := { s.tables with leadKey := g.leadKey, deskSpeed := g.deskSpeed, startSlot := g.startSlot }
      fc := { s.fc with follow := g.follow } }
    (g.leadKey = s.tables.leadKey → s.setGeneral g = stored s) ∧
    (g.leadKey ≠ s.tables.leadKey → s.setGeneral g = stored { s with
      hkm := .normal
      bank := { s.bank with t0 := .stopped, t1 := .stopped }
      ciu := s.ciu.compose s.focusLeds }) := by
  intro stored
  unfold State.setGeneral
  refine ⟨fun same => ?_, fun other => ?_⟩
  · rw [if_pos same]
    rfl
  · rw [if_neg other, State.commandToNormal_eq]
    rfl

/-- The bytes of a hotkey entry (02, R25, R26). -/
theorem hotkeyOf_spec (f m k a g : Byte) :
    let command : Prop := f.getLsbD 1 = true
    let taken : Prop := (a = 0 ∧ g.toNat < 8) ∨ (a = 5 ∧ (g.toNat < 8 ∨ g = 0xFE)) ∨ (a = 7 ∧ g.toNat < 4) ∨
      (a = 10 ∧ (g.toNat < 4 ∨ g = 0xFF)) ∨ (a ≠ 0 ∧ a ≠ 5 ∧ a ≠ 7 ∧ a ≠ 10 ∧ a.toNat < 12)
    (hotkeyOf [f, m, k, a, g] = none ↔ ¬taken ∨ ¬UsableKey k ∨ (command ∧ k = 41)) ∧
    ∀ e, hotkeyOf [f, m, k, a, g] = some e →
      e.enabled = f.getLsbD 0 ∧ e.key = k ∧ (command → e.kind = .command ∧ e.mods = 0 ∧ e.sideFree = false ∧ e.stay = f.getLsbD 3) ∧
      (¬command → e.kind = .chord ∧ e.mods = m ∧ e.sideFree = f.getLsbD 2 ∧ e.stay = false) ∧
      [Action.select, .next, .previous, .attend, .dismiss, .wake, .wakeAll, .preset, .glideLock, .follow, .share,
        .passNext][a.toNat]? = some e.action ∧
      (a = 0 ∨ a = 5 ∨ a = 7 ∨ a = 10 →
        (∀ i : Fin 8, g.toNat = i.val → e.argument = .number i) ∧ (g = 0xFE → e.argument = .focus) ∧
          (g = 0xFF → e.argument = .off)) ∧
      (a ≠ 0 → a ≠ 5 → a ≠ 7 → a ≠ 10 → e.argument = .none) := by
  intro command taken
  cases ha : actionOf a with
  | none =>
    have out := actionOf_eq_none.mp ha
    have untaken : ¬ taken := by
      rintro (⟨rfl, -⟩ | ⟨rfl, -⟩ | ⟨rfl, -⟩ | ⟨rfl, -⟩ | ⟨-, -, -, -, h⟩)
      · exact absurd out (by decide)
      · exact absurd out (by decide)
      · exact absurd out (by decide)
      · exact absurd out (by decide)
      · omega
    rw [hotkeyOf_of_no_action ha]
    exact ⟨⟨fun _ => .inl untaken, fun _ => rfl⟩, nofun⟩
  | some x =>
    obtain rfl := actionOf_eq_some.mp ha
    have takes : taken ↔ x.fits g := code_fits_iff x g
    cases hg : argumentOf x g with
    | none =>
      rw [hotkeyOf_of_no_argument ha hg]
      exact ⟨⟨fun _ => .inl fun h => argumentOf_eq_none.mp hg (takes.mp h), fun _ => rfl⟩, nofun⟩
    | some y =>
      have fits : taken := takes.mpr (by
        by_contra h
        exact nomatch hg.symm.trans (argumentOf_eq_none.mpr h))
      obtain ⟨given, ungiven⟩ := argumentOf_eq_some hg
      rw [hotkeyOf_of_argument ha hg]
      refine ⟨?_, fun e he => ?_⟩
      · constructor
        · intro h
          split at h
          next refused => exact .inr refused
          · cases h
        · rintro (h | h)
          · exact absurd fits h
          · exact if_pos h
      · split at he
        · cases he
        · obtain rfl := Option.some.inj he
          refine ⟨rfl, rfl, fun c => ?_, fun c => ?_, ha, fun h => given ((code_takesArgument_iff x).mp h), fun h0 h5 h7 h10 => ?_⟩
          · have c : f.getLsbD 1 = true := c
            simp [hotkeyEntry, c]
          · have c : f.getLsbD 1 = false := by simpa [command] using c
            refine ⟨if_neg (by rw [c]; decide), if_neg (by rw [c]; decide), ?_, ?_⟩ <;>
              · simp only [hotkeyEntry, c]
                rfl
          · refine ungiven fun takes => ?_
            rcases (code_takesArgument_iff x).mpr takes with h | h | h | h
            · exact h0 h
            · exact h5 h
            · exact h7 h
            · exact h10 h

/-- Settles O44: the header's checks in their order, then the record by its kind. -/
theorem writeChecksAndStores : Obligations.WriteChecksAndStores := by
  refine ⟨?_, hotkeyOf_spec⟩
  intro s n code view index payload hopen hp request answered refused
  have answer := exec_write_requestBytes hopen code index view payload (by omega)
  refine ⟨fun bad => ?_, fun good bad => ?_, fun good hcode none => ?_, ?_⟩
  · exact answer.trans (by rw [State.writeRequest_of_bad_view bad]; rfl)
  · exact answer.trans (by rw [State.writeRequest_of_bad_section good bad]; rfl)
  · exact answer.trans (by rw [State.writeRequest_of_no_record good hcode none]; rfl)
  intro x hcode hx staged
  have staged_iff : x.isStaged = true ↔ staged := x.isStaged_iff
  refine ⟨fun one hs => ?_, fun good size => ?_, fun hview => ⟨fun size denied => ?_, fun size right => ?_⟩⟩
  · refine answer.trans ?_
    rw [State.writeRequest_of_record (show view.toNat ≤ 1 by rw [one]; decide) hcode hx, if_pos (.inr ⟨staged_iff.mpr hs, one⟩)]
    rfl
  · refine answer.trans ?_
    rw [State.writeRequest_of_record good hcode hx, if_pos (.inl size)]
    rfl
  · refine answer.trans ?_
    have passes : ¬ (payload.length ≠ x.size ∨ (x.isStaged = true ∧ view = 1)) := by
      rintro (h | ⟨h, one⟩)
      · exact h size
      · rcases hview with rfl | ⟨-, not⟩
        · cases one
        · exact not (staged_iff.mp h)
    rw [State.writeRequest_of_record (show view.toNat ≤ 1 by rcases hview with rfl | ⟨rfl, -⟩ <;> decide) hcode hx, if_neg passes,
      if_neg (by rw [denied]; decide)]
    rfl
  have written : exec request s = .next ((s.writeRecord payload x).sent n 2 code index) :=
    exec_write_record hopen hp hcode hx (hview.imp_right (And.imp_right fun h => mt staged_iff.mp h)) size right
  have stores {t : State} {st : Status} (h : s.writeRecord payload x = ⟨t, st, []⟩) : exec request s = answered t st := by
    rw [written, h]
    rfl
  have refuses {α : Type} {o : Option α} {f : α → Answer} (h : s.writeRecord payload x = s.checked o f) (none : o = none) :
      exec request s = refused := stores (h.trans (by rw [none]; rfl))
  have accepts {α : Type} {o : Option α} {f : α → Answer} {a : α} {t : State} {st : Status}
      (h : s.writeRecord payload x = s.checked o f) (some : o = some a) (ha : f a = ⟨t, st, []⟩) : exec request s = answered t st :=
    stores (h.trans (by rw [some]; exact ha))
  clear_value answered
  refine ⟨?_, ?_, ?_, ?_, ?_, ?_, ?_, ?_, ?_, ?_, ?_, ?_, ?_, ?_, ?_, ?_⟩
  · rintro w w' h h' r p rfl rfl
    refine accepts rfl rfl (congrArg (fun v => Answer.mk (s.setTables { s.tables with profiles := s.tables.profiles.put p v }) .done []) ?_)
    rw [clampNat_eq (by decide), clampNat_eq (by decide), clampNat_eq (by decide)]
  · rintro k e rfl he
    refine ⟨fun lead => ?_, fun lead collides => ?_, fun lead clear => ?_⟩
    · exact accepts rfl he (if_pos lead)
    · exact accepts rfl he ((if_neg lead).trans (if_pos collides))
    · exact accepts rfl he ((if_neg lead).trans (if_neg (by rw [clear]; decide)))
  · rintro k rfl none
    exact refuses rfl none
  · rintro c r g b rfl rfl
    exact accepts rfl rfl rfl
  · rintro m rfl
    refine ⟨refuses rfl, fun r hr => ?_⟩
    obtain ⟨still, moved, order, only⟩ := s.atu.relevel_spec m r.level
    refine ⟨_, accepts rfl hr ?_, still, moved, order⟩
    show Answer.mk (s.setSlotRecord m r) .done [] = _
    rw [State.setSlotRecord, only]
    rfl
  · rintro m rfl
    refine ⟨refuses rfl, fun r hr => ?_⟩
    intro stored moved
    obtain ⟨elsewhere, shown⟩ := s.setSourceRecord_spec m r
    exact ⟨fun h => accepts rfl hr (congrArg (fun t => Answer.mk t .done []) (elsewhere h)),
      fun i ht h => accepts rfl hr (congrArg (fun t => Answer.mk t .done []) (shown i ht h))⟩
  · rintro d rfl
    exact ⟨refuses rfl, fun r hr => accepts rfl hr rfl⟩
  · rintro i rfl
    exact ⟨refuses rfl, fun r hr => accepts rfl hr rfl⟩
  · rintro rfl
    refine ⟨refuses rfl, fun r hr => ?_⟩
    obtain ⟨stops, waits, starts⟩ := s.writeShareRecord_spec r
    exact ⟨fun none => accepts rfl hr (congrArg (fun t => Answer.mk t .done []) (stops none)),
      fun some running => accepts rfl hr (congrArg (fun t => Answer.mk t .done []) (waits some running)),
      fun p hp stopped => accepts rfl hr (congrArg (fun t => Answer.mk t .done []) (starts p hp stopped))⟩
  · rintro p d rfl
    exact ⟨refuses rfl, fun r hr => accepts rfl hr rfl⟩
  · rintro p i rfl
    exact ⟨refuses rfl, fun r hr => accepts rfl hr rfl⟩
  · rintro k rfl
    exact ⟨refuses rfl, fun r hr => accepts rfl hr rfl⟩
  · rintro rfl
    refine ⟨refuses rfl, fun g hg => ?_⟩
    intro stored
    obtain ⟨same, other⟩ := s.setGeneral_spec g
    have key := holdsKey_eq_true_iff s.tables.hotkeys g.leadKey
    refine ⟨fun held => accepts rfl hg (if_pos (key.mpr held)), fun free => ?_⟩
    have clear : ¬ holdsKey s.tables.hotkeys g.leadKey = true := fun h => by
      obtain ⟨e, he, hk⟩ := key.mp h
      exact free e he hk
    exact ⟨fun h => accepts rfl hg ((if_neg clear).trans (congrArg (fun t => Answer.mk t .done []) (same h))),
      fun h => accepts rfl hg ((if_neg clear).trans (congrArg (fun t => Answer.mk t .done []) (other h)))⟩
  · rintro g r rfl hr
    exact accepts rfl (by rw [hr]; exact spriteRowsOf_toList r) rfl
  · rintro k a b rfl rfl
    refine accepts rfl rfl (congrArg (fun v => Answer.mk (s.setTables { s.tables with hotSpots := s.tables.hotSpots.put k v }) .done []) ?_)
    rw [clampNat_zero, clampNat_zero]
  · rintro b rfl rfl
    exact accepts rfl rfl rfl

end Sys2Proof.Machine


/-! WRITE of an access entry (11, R170; 01, R23; 03, R60). -/

namespace Sys2Proof.Machine

theorem State.fcInputRemoved_sent_same (s : State) (n : Slot) : (s.fcInputRemoved n).sent n = KeyImage.empty := by
  have lost : (s.fcLoss n).sent n = KeyImage.empty := (s.fcLoss_sent n n).trans (if_pos rfl)
  unfold State.fcInputRemoved
  split
  · exact lost
  · exact (State.Spares.handOver _ n _).sent lost

theorem State.guInputRemoved_spec (s : State) (n : Slot) :
    (s.guInputRemoved n).delivered n = 0 ∧ (s.sent n = KeyImage.empty → (s.guInputRemoved n).sent n = KeyImage.empty) := by
  unfold State.guInputRemoved
  split
  next none => exact ⟨none, id⟩
  · have lost : (s.guLoss n).delivered n = 0 := Table.get_put_same ..
    exact ⟨(State.Spares.handOver _ n _).delivered lost, fun h => (State.Spares.handOver (s.guLoss n) n _).sent h⟩

/-- An entry that removes INPUT_ALLOWED. -/
theorem State.setAccess_of_removed {s : State} {m : Slot} {e : AccessEntry} (allowed : (s.access m).inputAllowed = true)
    (removed : e.inputAllowed = false) : ∃ x, s.setAccess m e =
      (((s.setTables { s.tables with access := s.tables.access.put m e }).fcInputRemoved m).guInputRemoved m).setMgi x := by
  unfold State.setAccess
  dsimp only
  rw [if_pos (show (s.access m).inputAllowed = true ∧ e.inputAllowed = false from ⟨allowed, removed⟩)]
  split
  · exact ⟨_, rfl⟩
  · exact ⟨_, rfl⟩

theorem State.setAccess_removed_spec {s : State} {m : Slot} {e : AccessEntry} (allowed : (s.access m).inputAllowed = true)
    (removed : e.inputAllowed = false) : (s.setAccess m e).tables = { s.tables with access := s.tables.access.put m e } ∧
      (s.setAccess m e).sent m = KeyImage.empty ∧ (s.setAccess m e).delivered m = 0 := by
  obtain ⟨x, hx⟩ := State.setAccess_of_removed allowed removed
  generalize ht : s.setTables { s.tables with access := s.tables.access.put m e } = t at hx
  have tables : ((t.fcInputRemoved m).guInputRemoved m).tables = t.tables := State.tables_eq_of_outer_eq (by simp)
  obtain ⟨delivered, sent⟩ := (t.fcInputRemoved m).guInputRemoved_spec m
  rw [hx]
  refine ⟨?_, sent (State.fcInputRemoved_sent_same ..), delivered⟩
  rw [State.setMgi_tables, tables, ← ht]
  rfl

theorem recordAt_access (m : Slot) : recordAt 0 (BitVec.ofNat 16 m.val).toNat = some (.access m) := by
  have index : (BitVec.ofNat 16 m.val).toNat = m.val := by rw [BitVec.toNat_ofNat]; omega
  rw [index]
  simp [recordAt, inRange, below]

/-- Settles O45. -/
theorem accessWritesKeepAWriter : Obligations.AccessWritesKeepAWriter := by
  intro s n m r w f hopen right request answered entry stored
  have written : exec request s = .next ((s.writeAccess m entry).sent n 2 0 (BitVec.ofNat 16 m.val)) :=
    exec_write_record hopen (by simp) (by decide) (recordAt_access m) (.inl rfl) rfl right
  have writer : hasAccessWriter (s.tables.access.put m entry) = true ↔
      ∃ i, (if i = m then w else (s.access i).writeRights).getLsbD 0 = true := by
    rw [hasAccessWriter_iff]
    refine exists_congr fun i => ?_
    rw [Table.get_put]
    by_cases hi : i = m
    · rw [if_pos hi, if_pos hi]
    · rw [if_neg hi, if_neg hi]
      rfl
  have accepted (some : ∃ i, (if i = m then w else (s.access i).writeRights).getLsbD 0 = true) :
      exec request s = answered (s.setAccess m entry) .done := by
    rw [written, State.writeAccess, if_pos (writer.mpr some)]
    rfl
  refine ⟨fun none => ?_, fun some kept => ?_, fun some allowed removed =>
    ⟨s.setAccess m entry, accepted some, State.setAccess_removed_spec allowed removed⟩⟩
  · have conflict : ¬ hasAccessWriter (s.tables.access.put m entry) = true := fun h => by
      obtain ⟨i, hi⟩ := writer.mp h
      exact nomatch hi.symm.trans (none i)
    rw [written, State.writeAccess, if_neg conflict]
    rfl
  · rw [accepted some]
    have still : ¬ ((s.access m).inputAllowed = true ∧ entry.inputAllowed = false) := by
      rintro ⟨was, gone⟩
      rcases kept with h | h
      · exact nomatch was.symm.trans h
      · exact nomatch (show f.getLsbD 1 = true from h).symm.trans gone
    unfold State.setAccess
    dsimp only
    rw [if_neg still]
    rfl

end Sys2Proof.Machine


/-! STATUS (11, R180; 13, R192). -/

namespace Sys2Proof.Machine

/-! ### Bytes -/

theorem byte_eq_ofNat_mod (k : Nat) : byte k = BitVec.ofNat 8 (k % 256) := by
  apply BitVec.eq_of_toNat_eq
  simp [byte]

theorem signedHalfBytes_eq (v : Int) : signedHalfBytes v = [byte (v % 65536).toNat, byte ((v % 65536).toNat / 256)] := by
  rw [signedHalfBytes, halfBytes, BitVec.toNat_ofInt]
  rfl

theorem orNone_none {n : Nat} : orNone (none : Option (Fin n)) = 0xFF := rfl

theorem flags_four (a b c d : Bool) : flags [a, b, c, d] =
    byte ((if a = true then 1 else 0) + (if b = true then 2 else 0) + (if c = true then 4 else 0) + if d = true then 8 else 0) := by
  cases a <;> cases b <;> cases c <;> cases d <;> rfl

theorem toList_tab_four {α : Type} (f : Fin 4 → α) : (Table.tab f).toList = [f 0, f 1, f 2, f 3] := by
  simp [Table.tab, Vector.toList, Array.toList_ofFn, List.ofFn_succ]

theorem setWidth_eq_byte {w : Nat} (x : BitVec w) : x.setWidth 8 = byte x.toNat := by
  apply BitVec.eq_of_toNat_eq
  simp [byte]

theorem length_flatMap_of_length {α : Type} {f : α → List Byte} {k : Nat} (h : ∀ a, (f a).length = k) (l : List α) :
    (l.flatMap f).length = l.length * k := by
  induction l with
  | nil => simp
  | cons a l ih => rw [List.flatMap_cons, List.length_append, ih, h, List.length_cons, Nat.succ_mul, Nat.add_comm]

theorem Snapshot.slotPage_length (p : Snapshot) : p.slotPage.length = 40 := by
  rw [Snapshot.slotPage, length_flatMap_of_length (k := 5) fun _ => rfl, Vector.length_toList]

theorem Snapshot.channelPage_length (p : Snapshot) {g : Nat} (h : g ≤ 3) : (p.channelPage g).length = 56 := by
  rw [Snapshot.channelPage, length_flatMap_of_length (k := 14) fun _ => rfl, List.length_take, List.length_drop, Vector.length_toList]
  omega

/-! ### The pages -/

section Pages
variable {s : State} {n : Slot} {r : Request} (bare : r.payload = [])
include bare

theorem State.bareRequest_of_bare (a : Answer) : s.bareRequest r a = a := if_pos bare

theorem State.statusRequest_desk (page : r.index.toNat = 0) : s.statusRequest n r = s.statusDesk n := by
  rw [State.statusRequest, State.bareRequest_of_bare bare, page]
  rfl

theorem State.statusRequest_slots (page : r.index.toNat = 1) : s.statusRequest n r = s.statusPage n Snapshot.slotPage := by
  rw [State.statusRequest, State.bareRequest_of_bare bare, page]
  rfl

theorem State.statusRequest_attention (page : r.index.toNat = 2) : s.statusRequest n r = s.statusPage n Snapshot.attention := by
  rw [State.statusRequest, State.bareRequest_of_bare bare, page]
  rfl

theorem State.statusRequest_channels (page : r.index.toNat = 3) (group : r.view.toNat ≤ 3) :
    s.statusRequest n r = s.statusPage n fun p => p.channelPage r.view.toNat := by
  rw [State.statusRequest, State.bareRequest_of_bare bare, page]
  exact if_neg (by omega)

theorem State.statusRequest_bad_group (page : r.index.toNat = 3) (group : 3 < r.view.toNat) :
    s.statusRequest n r = s.refuse .badValue := by
  rw [State.statusRequest, State.bareRequest_of_bare bare, page]
  exact if_pos group

theorem State.statusRequest_bad_page (page : 3 < r.index.toNat) : s.statusRequest n r = s.refuse .badIndex := by
  rw [State.statusRequest, State.bareRequest_of_bare bare]
  split <;> first | omega | rfl

end Pages

/-- A page other than the desk's is answered from the snapshot held, or from one taken now. -/
theorem State.statusPage_eq (s : State) (n : Slot) (f : Snapshot → List Byte) : s.statusPage n f =
    ⟨if (s.mgi.snapshots.get n).isSome then s
      else { s with mgi := { s.mgi with snapshots := s.mgi.snapshots.put n (some (s.snapshot n)) } }, .done,
      f ((s.mgi.snapshots.get n).getD (s.snapshot n))⟩ := by
  unfold State.statusPage
  cases s.mgi.snapshots.get n with
  | none => rfl
  | some p => rfl

/-- The desk's bytes (13, R192). -/
theorem State.snapshot_desk (s : State) (n : Slot) :
    let low (k : Nat) : Byte := BitVec.ofNat 8 (k % 256)
    let high (k : Nat) : Byte := BitVec.ofNat 8 (k / 256 % 256)
    let number {k : Nat} (x : Option (Fin k)) : Byte := match x with | some i => low i.val | none => 0xFF
    let bit (b : Bool) (k : Nat) : Nat := if b = true then k else 0
    let px := s.gu.px % 65536
    let py := s.gu.py % 65536
    let armed (d : DisplayIx) : Nat := bit (s.cmp.armed.get d).isSome (2 ^ d.val)
    (s.snapshot n).desk = [low (s.mgi.events.get n).toNat, high (s.mgi.events.get n).toNat, low s.mgi.startCount.toNat,
        high s.mgi.startCount.toNat, low n.val, number s.fc.focus,
        low (bit (decide (s.fc.follow = .separate)) 1 + bit s.fc.passNext 2 + bit s.gu.glideLock 4 +
          match s.pl.loader with | .saving _ => 8 | .loading | .idle => 0),
        (match s.hkm with | .normal => 0 | .leadOne => 1 | .command => 2),
        low px.toNat, high px.toNat, low py.toNat, high py.toNat, number s.gu.pointerSlot,
        (match s.gu.pointerSlot with | some p => low (s.delivered p).toNat | none => 0), number s.cmp.selection,
        low (armed 0 + armed 1 + armed 2 + armed 3), s.pl.defaulted] := by
  intro low high number bit px py armed
  have number_eq {k : Nat} (x : Option (Fin k)) : number x = orNone x := by
    cases x with
    | none => rfl
    | some i => exact (byte_eq_ofNat_mod i.val).symm
  have low_eq (k : Nat) : low k = byte k := (byte_eq_ofNat_mod k).symm
  have high_eq (k : Nat) : high k = byte (k / 256) := (byte_eq_ofNat_mod (k / 256)).symm
  have saving : (match s.pl.loader with | .saving _ => 8 | .loading | .idle => 0) = if s.saving = true then 8 else 0 := by
    unfold State.saving
    cases s.pl.loader <;> rfl
  have command : (match s.hkm with | .normal => (0 : Byte) | .leadOne => 1 | .command => 2) = s.hkm.code := by
    cases s.hkm <;> rfl
  have delivered : (match s.gu.pointerSlot with | some p => low (s.delivered p).toNat | none => 0) =
      s.pointerDelivered.setWidth 8 := by
    unfold State.pointerDelivered
    cases s.gu.pointerSlot with
    | none => rfl
    | some p => exact (low_eq _).trans (setWidth_eq_byte _).symm
  rw [saving, command, delivered]
  simp only [number_eq, low_eq, high_eq, bit, armed]
  have armedFlags : flags (s.snapshot n).armed.toList = byte ((if (s.cmp.armed.get 0).isSome = true then 2 ^ (0 : DisplayIx).val else 0) +
      (if (s.cmp.armed.get 1).isSome = true then 2 ^ (1 : DisplayIx).val else 0) +
      (if (s.cmp.armed.get 2).isSome = true then 2 ^ (2 : DisplayIx).val else 0) +
      if (s.cmp.armed.get 3).isSome = true then 2 ^ (3 : DisplayIx).val else 0) := by
    rw [show (s.snapshot n).armed.toList = _ from toList_tab_four _, flags_four]
    rfl
  rw [← flags_four, Snapshot.desk, signedHalfBytes_eq, signedHalfBytes_eq, armedFlags]
  rfl

/-- Settles O49: page by page. -/
theorem statusAnswersFromASnapshot : Obligations.StatusAnswersFromASnapshot := by
  intro s n view page hopen request answered held current kept low high number bit px py armed
  have answer := exec_status_answer hopen 0 page view (payload := []) (by simp)
  have paged (f : Snapshot → List Byte) : ((s.statusPage n f).sent n 9 0 page) = kept.respond n ⟨.done, 9, 0, page, f current⟩ := by
    rw [State.statusPage_eq]
    rfl
  refine ⟨fun desk => ?_, fun slots => ⟨?_, current.slotPage_length⟩, fun attention => ?_,
    fun channels group => ⟨?_, current.channelPage_length group⟩, fun channels group => ?_, fun other => ?_⟩
  · refine answer.trans ?_
    rw [State.statusRequest_desk rfl desk, State.statusDesk, s.snapshot_desk n]
    rfl
  · exact answer.trans (by rw [State.statusRequest_slots rfl slots, paged])
  · exact answer.trans (by rw [State.statusRequest_attention rfl attention, paged])
  · exact answer.trans (by rw [State.statusRequest_channels rfl channels group, paged])
  · exact answer.trans (by rw [State.statusRequest_bad_group rfl channels group]; rfl)
  · exact answer.trans (by rw [State.statusRequest_bad_page rfl other]; rfl)

end Sys2Proof.Machine


/-! SAVE and RESTART (11, R178), and what the desk restart leaves of each block (12, R188). -/

namespace Sys2Proof.Machine

/-! ### Operations carried out once for every slot -/

/-- What an operation makes of one slot's value, carried out for each slot of a list without repetition. -/
theorem foldl_slotwise {α : Type} {f : State → Slot → State} {view : State → Slot → α} {g : α → α}
    (h : ∀ s n m, view (f s n) m = if m = n then g (view s m) else view s m) {l : List Slot} (once : l.Nodup) (s : State) (m : Slot) :
    view (l.foldl f s) m = if m ∈ l then g (view s m) else view s m := by
  induction l generalizing s with
  | nil => rfl
  | cons n l ih =>
    obtain ⟨fresh, once⟩ := List.nodup_cons.mp once
    rw [List.foldl_cons, ih once, h]
    by_cases hm : m = n
    · subst hm
      simp [fresh]
    · simp [hm]

theorem nodup_allSlots : allSlots.Nodup := by decide

theorem foldl_slots {α : Type} {f : State → Slot → State} {view : State → Slot → α} {g : α → α}
    (h : ∀ s n m, view (f s n) m = if m = n then g (view s m) else view s m) (s : State) (m : Slot) :
    view (allSlots.foldl f s) m = g (view s m) := by
  rw [foldl_slotwise h nodup_allSlots, if_pos (mem_allSlots m)]

/-! ### The ports' part -/

theorem foldl_releaseFlush_rest (l : List Slot) (s : State) : ∃ fc gu ports bank,
    l.foldl State.releaseFlush s = { s with fc := fc, gu := gu, ports := ports, bank := bank } := by
  induction l generalizing s with
  | nil => exact ⟨_, _, _, _, rfl⟩
  | cons n l ih =>
    obtain ⟨fc, gu, ports, bank, h⟩ := ih (s.releaseFlush n)
    rw [List.foldl_cons, h, State.releaseFlush_eq]
    exact ⟨_, _, _, _, rfl⟩

/-- A desk restart's part of the ports empties what was told and delivered and every response queue, and keeps the links. -/
theorem State.restartPorts_spec (s : State) : (∃ fc gu ports bank,
      s.restartPorts = { s with fc := fc, gu := gu, ports := ports, bank := bank }) ∧
    ∀ m, s.restartPorts.link m = s.link m ∧ (s.restartPorts.port m).responses = [] ∧ s.restartPorts.delivered m = 0 := by
  have link (m : Slot) : (allSlots.foldl State.releaseFlush s).link m = s.link m :=
    foldl_slots (view := State.link) (g := id) (fun s n m => by
      show ((s.releaseFlush n).port m).link = _
      rw [State.releaseFlush_port]
      by_cases hm : m = n
      · rw [if_pos hm, if_pos hm, hm]
        rfl
      · rw [if_neg hm, if_neg hm]
        rfl) s m
  have delivered (m : Slot) : (allSlots.foldl State.releaseFlush s).delivered m = 0 :=
    foldl_slots (view := State.delivered) (g := fun _ => 0) (fun s n m => s.releaseFlush_delivered n m) s m
  obtain ⟨fc, gu, ports, bank, h⟩ := foldl_releaseFlush_rest allSlots s
  unfold State.restartPorts
  generalize allSlots.foldl State.releaseFlush s = u at link delivered h
  refine ⟨⟨fc, gu, u.ports.each Port.restarted, bank, by rw [h]; rfl⟩, fun m => ?_⟩
  have port : (u.setPorts (u.ports.each Port.restarted)).port m = (u.port m).restarted := Table.get_each ..
  exact ⟨(congrArg Port.link port).trans (link m), congrArg Port.responses port, delivered m⟩

/-! ### The sections installed -/

theorem State.restartLoaded_eq (s : State) : s.restartLoaded =
    (s.restartMgi.restartPorts.install (loadImage (judged s.pl.loadCopy)).1).recordDefaulted (loadImage (judged s.pl.loadCopy)).2 := rfl

theorem State.restartLoaded_spec (s : State) :
    s.restartLoaded.tables = tablesOf (loadImage (judged s.pl.loadCopy)).1 ∧
    s.restartLoaded.mgi.startCount = s.mgi.startCount + 1 ∧ (∀ m, s.restartLoaded.mgi.snapshots.get m = none) ∧
    (∀ m, s.restartLoaded.mgi.events.get m =
      if s.restartLoaded.pl.defaulted ≠ 0 ∧ (s.restartLoaded.access m).events = true then 4096 else 0) ∧
    (∀ m, s.restartLoaded.link m = s.link m ∧ (s.restartLoaded.port m).responses = [] ∧ s.restartLoaded.delivered m = 0) ∧
    s.restartLoaded.ciu = s.ciu ∧ s.restartLoaded.flash = s.flash ∧ s.restartLoaded.pending = s.pending ∧
    s.restartLoaded.pl.loadCopy = s.pl.loadCopy ∧ s.restartLoaded.pl.loader = s.pl.loader := by
  obtain ⟨⟨fc, gu, ports, bank, rest⟩, slots⟩ := s.restartMgi.restartPorts_spec
  generalize hx : loadImage (judged s.pl.loadCopy) = x
  have loaded : s.restartLoaded = (s.restartMgi.restartPorts.install x.1).recordDefaulted x.2 := by rw [State.restartLoaded_eq, hx]
  have events (m : Slot) := (s.restartMgi.restartPorts.install x.1).recordDefaulted_events x.2 m
  have shape := (s.restartMgi.restartPorts.install x.1).recordDefaulted_eq x.2
  rw [← loaded] at events shape
  clear loaded
  generalize s.restartLoaded = u at shape events
  generalize s.restartMgi.restartPorts = v at shape events rest slots
  have mgi : v.mgi = ⟨s.mgi.startCount + 1, Table.all 8 0, Table.all 8 none⟩ := by rw [rest]; rfl
  have pl : v.pl = s.pl := by rw [rest]; rfl
  have access (m : Slot) : u.access m = (v.install x.1).access m := by rw [shape]; rfl
  have defaulted : u.pl.defaulted = x.2 := by rw [shape]
  refine ⟨by rw [shape]; rfl, ?_, fun m => ?_, fun m => ?_, fun m => ?_, ?_, ?_, ?_, ?_, ?_⟩
  · rw [shape]
    exact congrArg Mgi.startCount mgi
  · rw [shape]
    exact (congrArg (fun y => y.snapshots.get m) mgi).trans (Table.get_all ..)
  · have none : (v.install x.1).mgi.events.get m = 0 := (congrArg (fun y => y.events.get m) mgi).trans (Table.get_all ..)
    rw [events, none, defaulted, access]
    simp
  · obtain ⟨link, responses, delivered⟩ := slots m
    rw [shape]
    exact ⟨link, responses, delivered⟩
  · rw [shape]; exact (congrArg State.ciu rest).trans rfl
  · rw [shape]; exact (congrArg State.flash rest).trans rfl
  · rw [shape]; exact (congrArg State.pending rest).trans rfl
  · rw [shape]; exact (congrArg Pl.loadCopy pl :)
  · rw [shape]; exact (congrArg Pl.loader pl :)

/-! ### The blocks -/

/-- A link after a desk restart: a remote wakeup ends (06, R96). -/
def Link.settled (l : Link) : Link := if l = .resuming then .suspended else l

theorem State.restartWake_shape (s : State) (n : Slot) : ∃ bank, s.restartWake n = { s with
    ports := s.ports.put n (s.port n).wakeRestarted, wakes := s.wakes.put n WakeRecord.reset, bank := bank } := by
  rw [State.restartWake_eq]
  exact ⟨_, rfl⟩

theorem foldl_restartWake_rest (l : List Slot) (s : State) : ∃ ports wakes bank,
    l.foldl State.restartWake s = { s with ports := ports, wakes := wakes, bank := bank } := by
  induction l generalizing s with
  | nil => exact ⟨_, _, _, rfl⟩
  | cons n l ih =>
    obtain ⟨ports, wakes, bank, h⟩ := ih (s.restartWake n)
    obtain ⟨bank', shape⟩ := s.restartWake_shape n
    rw [shape] at h
    rw [List.foldl_cons, shape, h]
    exact ⟨_, _, _, rfl⟩

theorem State.restartWake_slot (s : State) (n m : Slot) :
    ((s.restartWake n).link m, ((s.restartWake n).port m).responses, (s.restartWake n).wake m) =
      if m = n then ((s.link m).settled, (s.port m).responses, WakeRecord.reset) else (s.link m, (s.port m).responses, s.wake m) := by
  obtain ⟨bank, shape⟩ := s.restartWake_shape n
  have port : (s.restartWake n).port m = if m = n then (s.port n).wakeRestarted else s.port m := by
    rw [shape]
    exact Table.get_put ..
  have wake : (s.restartWake n).wake m = if m = n then WakeRecord.reset else s.wake m := by
    rw [shape]
    exact Table.get_put ..
  by_cases hm : m = n
  · rw [if_pos hm] at port wake ⊢
    rw [State.link, port, wake, hm]
    rfl
  · rw [if_neg hm] at port wake ⊢
    rw [State.link, port, wake]
    rfl

theorem Ciu.restart_buttons (c : Ciu) (x : Leds) : (c.restart x).buttons = c.buttons := by
  unfold Ciu.restart
  dsimp only
  split
  · split <;> rfl
  · rfl

theorem State.restartRest_spec (s : State) : (∃ ports wakes bank cmp, s.restartRest = { s with
      ports := ports, wakes := wakes, bank := bank, atu := ⟨[], []⟩, channels := Table.all 16 Channel.reset, cmp := cmp }) ∧
    ∀ m, s.restartRest.link m = (s.link m).settled ∧ (s.restartRest.port m).responses = (s.port m).responses ∧
      s.restartRest.wake m = WakeRecord.reset := by
  have slot (m : Slot) := foldl_slots (f := State.restartWake)
    (view := fun s m => (s.link m, (s.port m).responses, s.wake m)) (g := fun x => (x.1.settled, x.2.1, WakeRecord.reset))
    (fun s n m => s.restartWake_slot n m) s m
  obtain ⟨ports, wakes, bank, h⟩ := foldl_restartWake_rest allSlots s
  have rest : s.restartRest = (((allSlots.foldl State.restartWake s).setAtu ⟨[], []⟩).setChannels (Table.all 16 Channel.reset)).resetCmp := rfl
  generalize allSlots.foldl State.restartWake s = u at slot h rest
  refine ⟨⟨ports, wakes, s.restartRest.bank, s.restartRest.cmp, by rw [rest, h]; rfl⟩, fun m => ?_⟩
  have m := slot m
  simp only [Prod.mk.injEq] at m
  rw [rest]
  exact m

theorem State.restartBlocks_spec (s : State) (mode : FollowMode) (held : Buttons) : ∃ gu bank,
    s.restartBlocks mode held = { s with
      fc := { s.fc with focus := some s.tables.startSlot, follow := mode, held := [], suppressed := s.ciu.mods, passNext := false }
      hkm := .normal, gu := gu, bank := bank } ∧ gu.delivered = s.gu.delivered := ⟨_, _, rfl, rfl⟩

/-- What the desk restart leaves of each block. -/
theorem State.deskRestart_spec (s : State) (idle : s.pl.loader = .idle) :
    let t := s.deskRestart
    t.mgi.startCount = s.mgi.startCount + 1 ∧ (∀ m, t.mgi.snapshots.get m = none) ∧
    (∀ m, t.mgi.events.get m = if t.pl.defaulted ≠ 0 ∧ (t.access m).events = true then 4096 else 0) ∧
    t.tables = tablesOf (loadImage (judged s.pl.loadCopy)).1 ∧
    t.fc.focus = some t.tables.startSlot ∧ t.fc.held = [] ∧ t.hkm = .normal ∧
    (∀ m, t.link m = (s.link m).settled ∧ (t.port m).responses = [] ∧ t.wake m = WakeRecord.reset ∧ t.sent m = KeyImage.empty ∧
      t.delivered m = 0) ∧
    t.atu = ⟨[], []⟩ ∧ t.channels = Table.all 16 Channel.reset ∧
    (t.ciu.mods = s.ciu.mods ∧ t.ciu.keys = s.ciu.keys ∧ t.ciu.buttons = s.ciu.buttons) ∧
    t.flash = s.flash ∧ t.pl.loadCopy = s.pl.loadCopy ∧ t.pl.loader = .idle ∧ t.pending = s.pending := by
  intro t
  obtain ⟨tables, count, snapshots, events, slots, ciu, flash, pending, copy, loader⟩ := s.restartLoaded_spec
  have sent := s.restartLoaded_sent
  have ht : t = _ := s.deskRestart_eq
  generalize s.restartLoaded = u at *
  generalize (loadImage (judged s.pl.loadCopy)).1.input.general.follow = mode at ht
  obtain ⟨gu, bank, blocks, delivered⟩ := u.restartBlocks_spec mode u.ciu.buttons
  generalize hv : u.restartBlocks mode u.ciu.buttons = v at ht blocks
  obtain ⟨⟨ports, wakes, bank', cmp, rest⟩, restSlots⟩ := v.restartRest_spec
  generalize v.restartRest = w at ht rest restSlots
  rw [State.startHeads_spec] at ht
  generalize w.restartCiu.startHeads.cmp = heads at ht
  have image := w.ciu.restart_image w.composedLeds
  have link (m : Slot) : v.link m = s.link m := by rw [blocks]; exact (slots m).1
  have responses (m : Slot) : (v.port m).responses = [] := by rw [blocks]; exact (slots m).2.1
  have sameCiu : w.ciu = s.ciu := by rw [rest, blocks]; exact ciu
  refine ⟨?_, fun m => ?_, fun m => ?_, ?_, ?_, ?_, ?_, fun m => ⟨?_, ?_, ?_, ?_, ?_⟩, ?_, ?_, ?_, ?_, ?_, ?_, ?_⟩
  · rw [ht]; show w.mgi.startCount = _; rw [rest, blocks]; exact count
  · rw [ht]; show w.mgi.snapshots.get m = _; rw [rest, blocks]; exact snapshots m
  · rw [ht]; show w.mgi.events.get m = if w.pl.defaulted ≠ 0 ∧ (w.tables.access.get m).events = true then _ else _
    rw [rest, blocks]; exact events m
  · rw [ht]; show w.tables = _; rw [rest, blocks]; exact tables
  · rw [ht]; show w.fc.focus = some w.tables.startSlot; rw [rest, blocks]
  · rw [ht]; show w.fc.held = _; rw [rest, blocks]
  · rw [ht]; show w.hkm = _; rw [rest, blocks]
  · rw [ht]; show w.link m = _; rw [(restSlots m).1, link]
  · rw [ht]; show (w.port m).responses = _; rw [(restSlots m).2.1, responses]
  · rw [ht]; exact (restSlots m).2.2
  · rw [ht]; show w.fc.sent.get m = _; rw [rest, blocks]; exact sent m
  · rw [ht]; show w.gu.delivered.get m = _; rw [rest, blocks]
    exact (congrArg (Table.get · m) delivered).trans (slots m).2.2
  · rw [ht]; show w.atu = _; rw [rest]
  · rw [ht]; show w.channels = _; rw [rest]
  · rw [ht, ← sameCiu]
    exact ⟨image.1, image.2, w.ciu.restart_buttons _⟩
  · rw [ht]; show w.flash = _; rw [rest, blocks]; exact flash
  · rw [ht]; show w.pl.loadCopy = _; rw [rest, blocks]; exact copy
  · rw [ht]; show w.pl.loader = _; rw [rest, blocks]; exact loader.trans idle
  · rw [ht]; show w.pending = _; rw [rest, blocks]; exact pending

theorem State.saving_of_loader {s : State} {x : SaveStep} (h : s.pl.loader = .saving x) : s.saving = true := by
  rw [State.saving, h]

theorem State.saving_of_idle {s : State} (h : s.pl.loader = .idle) : s.saving = false := by
  rw [State.saving, h]

theorem State.accept_sent (s : State) (x : Status) (n : Slot) (kind code : Byte) (index : Half) :
    (s.accept x).sent n kind code index = s.respond n ⟨x, kind, code, index, []⟩ := rfl

/-- Settles O50. -/
theorem saveAndRestartAreTaken : Obligations.SaveAndRestartAreTaken := by
  intro s n hopen saveRequest restartRequest answered
  have save := exec_save_answer hopen 0 0 0 (payload := []) (by simp)
  have restart := exec_restart_answer hopen 0 0 0 (payload := []) (by simp)
  refine ⟨fun denied => ⟨save.trans ?_, restart.trans ?_⟩, fun allowed x saving => ⟨save.trans ?_, restart.trans ?_⟩,
    fun allowed idle => ⟨save.trans ?_, s.deskRestart.respond n ⟨.done, 11, 0, 0, []⟩, restart.trans ?_, ?_⟩⟩
  · rw [State.saveRequest, State.bareAction_of_denied rfl denied]; rfl
  · rw [State.restartRequest, State.bareAction_of_denied rfl denied]; rfl
  · rw [State.saveRequest, State.bareAction_of_allowed rfl allowed, if_pos (State.saving_of_loader saving)]; rfl
  · rw [State.restartRequest, State.bareAction_of_allowed rfl allowed, if_pos (State.saving_of_loader saving)]; rfl
  · rw [State.saveRequest, State.bareAction_of_allowed rfl allowed, if_neg (by rw [State.saving_of_idle idle]; decide)]; rfl
  · rw [State.restartRequest, State.bareAction_of_allowed rfl allowed, if_neg (by rw [State.saving_of_idle idle]; decide), State.accept_sent]
  · obtain ⟨count, snapshots, events, tables, focus, held, hkm, slots, atu, channels, image, flash, copy, loader, pending⟩ :=
      s.deskRestart_spec idle
    generalize s.deskRestart = t at *
    have port (m : Slot) : (t.respond n ⟨.done, 11, 0, 0, []⟩).port m =
        if m = n then { t.port n with responses := (t.port n).responses ++ [⟨.done, 11, 0, 0, []⟩] } else t.port m :=
      t.setPort_port n m _
    refine ⟨count, snapshots, events, tables, focus, held, hkm, fun m => ?_, fun m => ?_,
      fun m => ⟨(slots m).2.2.1, (slots m).2.2.2.1, (slots m).2.2.2.2⟩, congrArg Atu.alerts atu, congrArg Atu.stack atu,
      fun c => (congrArg (Table.get · c) channels).trans (Table.get_all ..), image.1, image.2.1, image.2.2, flash, copy, loader, pending⟩
    · rw [port]
      split
      · rw [(slots n).2.1]
        rfl
      · exact (slots m).2.1
    · refine Eq.trans ?_ (slots m).1
      rw [State.link, port]
      split
      next hm => rw [hm]; rfl
      · rfl

end Sys2Proof.Machine


/-! The twelve actions of the hotkeys (02, R29, R37 to R41; 01, R19, R20; 07, R119 to R121). -/

namespace Sys2Proof.Machine

/-! ### SELECT, NEXT and PREVIOUS (01, R19, R20) -/

theorem State.relocateHome_of_separate {s : State} (h : s.fc.follow = .separate) (n : Slot) : s.relocateHome n = s :=
  if_neg (by rw [h]; decide)

theorem State.select_of_focus {s : State} {n : Slot} (focus : s.fc.focus = some n) (separate : s.fc.follow = .separate) :
    s.select n = s.wakeOnFocus n := by
  rw [State.select, if_pos focus]
  exact State.relocateHome_of_separate ((State.follow_of_side (s.wakeOnFocus_focusSide n)).trans separate) n

theorem State.canReceive_iff (s : State) (n : Slot) : s.canReceive n = true ↔ s.link n ≠ .off ∧ (s.access n).inputAllowed = true := by
  simp [State.canReceive]

theorem State.canReceive_eq_false {s : State} {n : Slot} (h : ¬ (s.link n ≠ .off ∧ (s.access n).inputAllowed = true)) :
    s.canReceive n = false := Bool.eq_false_iff.mpr (mt (s.canReceive_iff n).mp h)

/-- The distances at which NEXT and PREVIOUS look from the focus. -/
def distances : List Slot := [1, 2, 3, 4, 5, 6, 7]

theorem distances_rising : distances.Pairwise (· < ·) := by decide

theorem mem_distances {i : Slot} : i ∈ distances ↔ i ≠ 0 := by revert i; decide

theorem allSlots_rising : allSlots.Pairwise (· < ·) := by decide

theorem nextOrder_some (f : Slot) : nextOrder (some f) = distances.map (f + ·) := rfl

theorem previousOrder_some (f : Slot) : previousOrder (some f) = distances.map (f - ·) := rfl

theorem previousOrder_none : previousOrder none = allSlots.map Fin.rev := by decide

section Order
variable {s : State} {g : Slot → Slot} {l : List Slot} {i : Slot}

/-- The first slot of an order that can receive is selected. -/
theorem State.selectFirst_of_first (rising : l.Pairwise (· < ·)) (hi : i ∈ l)
    (can : s.link (g i) ≠ .off ∧ (s.access (g i)).inputAllowed = true)
    (first : ∀ j ∈ l, j < i → ¬ (s.link (g j) ≠ .off ∧ (s.access (g j)).inputAllowed = true)) :
    s.selectFirst (l.map g) = s.select (g i) := by
  have found : (l.map g).find? s.canReceive = some (g i) := by
    rw [List.find?_map]
    have : l.find? (s.canReceive ∘ g) = some i := by
      induction l with
      | nil => cases hi
      | cons a l ih =>
        obtain ⟨above, rising⟩ := List.pairwise_cons.mp rising
        rcases List.mem_cons.mp hi with rfl | hi
        · exact List.find?_cons_of_pos ((s.canReceive_iff _).mpr can)
        · rw [List.find?_cons_of_neg (by
            rw [Function.comp_apply, State.canReceive_eq_false (first a (by simp) (above i hi))]
            decide)]
          exact ih rising hi fun j hj => first j (List.mem_cons_of_mem _ hj)
    rw [this]
    rfl
  rw [State.selectFirst, found]

theorem State.selectFirst_of_none (none : ∀ n ∈ l, ¬ (s.link n ≠ .off ∧ (s.access n).inputAllowed = true)) : s.selectFirst l = s := by
  have missing : l.find? s.canReceive = Option.none :=
    List.find?_eq_none.mpr fun n hn => by rw [State.canReceive_eq_false (none n hn)]; decide
  rw [State.selectFirst, missing]

end Order

theorem mem_nextOrder {f : Option Slot} {n : Slot} (h : n ∈ nextOrder f) : f ≠ some n := by
  cases f with
  | none => nofun
  | some f =>
    rw [nextOrder_some] at h
    obtain ⟨i, hi, rfl⟩ := List.mem_map.mp h
    have := mem_distances.mp hi
    exact fun heq => this (by simpa using Option.some.inj heq)

theorem mem_previousOrder {f : Option Slot} {n : Slot} (h : n ∈ previousOrder f) : f ≠ some n := by
  cases f with
  | none => nofun
  | some f =>
    rw [previousOrder_some] at h
    obtain ⟨i, hi, rfl⟩ := List.mem_map.mp h
    have := mem_distances.mp hi
    exact fun heq => this (sub_eq_self.mp (Option.some.inj heq).symm)

/-! ### ATTEND and DISMISS (07, R119 to R121) -/

theorem Atu.showing_iff (a : Atu) (l : Fin 4) : a.showing l = true ↔ ∀ e, a.stack.head? = some e → e.level < l := by
  unfold Atu.showing
  cases a.stack with
  | nil => simp
  | cons top rest => simp

theorem State.attend_of_none {s : State} (h : ∀ a ∈ s.atu.alerts, ¬ ∀ e, s.atu.stack.head? = some e → e.level < a.level) :
    s.attend = s := by
  have none : s.atu.alerts.find? (fun a => s.atu.showing a.level) = Option.none :=
    List.find?_eq_none.mpr fun a ha => mt (s.atu.showing_iff a.level).mp (h a ha)
  rw [State.attend, none]

theorem State.attend_of_first {s : State} {p q : List Alert} {a : Alert} (h : s.atu.alerts = p ++ a :: q)
    (first : ∀ b ∈ p, ¬ ∀ e, s.atu.stack.head? = some e → e.level < b.level) (shows : ∀ e, s.atu.stack.head? = some e → e.level < a.level) :
    s.attend = ((((s.setAtu {
      alerts := removeAlert a.slot s.atu.alerts
      stack := ⟨a.slot, a.level, s.fc.focus, s.gu.px, s.gu.py⟩ :: s.atu.stack }).select a.slot).attendTrigger a.slot).raiseEvent
        .alertAttended) := by
  have found : s.atu.alerts.find? (fun a => s.atu.showing a.level) = some a := by
    rw [h, List.find?_append, List.find?_eq_none.mpr fun b hb => mt (s.atu.showing_iff b.level).mp (first b hb), Option.none_or]
    exact List.find?_cons_of_pos ((s.atu.showing_iff a.level).mpr shows)
  rw [State.attend, found]

theorem State.dismiss_of_top {s : State} {top : Attended} {rest : List Attended} (h : s.atu.stack = top :: rest) :
    s.dismiss = (s.setAtu { s.atu with stack := rest }).restore top.savedFocus top.savedX top.savedY := by
  rw [State.dismiss, h]

/-! ### The actions -/

theorem State.chordPress_of_pass {s : State} {k : Byte} {e : Hotkey} (other : k ≠ s.tables.leadKey) (chord : s.chordFor k = some e)
    (pass : s.fc.passNext = true) : s.normalPress k = (s.setFc { s.fc with passNext := false }).routePress k := by
  rw [State.normalPress, if_neg other, chord]
  exact if_pos pass

theorem State.chordPress_of_action {s : State} {k : Byte} {e : Hotkey} (other : k ≠ s.tables.leadKey) (chord : s.chordFor k = some e)
    (pass : s.fc.passNext = false) : s.normalPress k = (s.hold k .consumed).runAction e.action e.argument := by
  rw [State.normalPress, if_neg other, chord]
  exact if_neg (by rw [pass]; decide)

theorem FollowMode.toggled_eq (m : FollowMode) : m.toggled = if m = .follow then .separate else .follow := by cases m <;> rfl

/-- A SELECT asked for by a management FOCUS. -/
theorem exec_focus_slot {s : State} {m : Slot} (hopen : OpenTo s m) (allowed : (s.access m).manageActions = true) (n : Slot) :
    exec (.focus m (requestBytes 0 0 0 [byte n.val])) s = .next ((s.select n).respond m ⟨.done, 4, 0, 0, []⟩) := by
  rw [exec_focus_answer hopen 0 0 0 (by simp), State.focusRequest, State.byteAction_of_allowed rfl allowed, noneOr_index (by decide),
    State.checked_some]
  exact congrArg _ (State.accept_sent ..)

/-- The mask of all four displays. -/
theorem fullMask : (fun d : DisplayIx => (0x0F : Byte).getLsbD d.val) = fun _ => true := by
  funext d
  revert d
  decide

theorem fourth_val (p : Fin 4) (h : p.val < 8) : fourth ⟨p.val, h⟩ = some p := dif_pos p.isLt

/-- WAKE_ALL asked for by a management WAKE of ALL. -/
theorem exec_wake_all {s : State} {m : Slot} (hopen : OpenTo s m) (allowed : (s.access m).manageActions = true) :
    ∃ r, exec (.wake m (requestBytes 0 0 0 [0xFF])) s = .next (s.wakeAll.1.respond m r) := by
  refine ⟨⟨wakeStatus s.wakeAll.2, 5, 0, 0, s.wakeAll.2.map WakeOutcome.code⟩, ?_⟩
  rw [exec_wake_answer hopen 0 0 0 (by simp), State.wakeRequest, State.byteAction_of_allowed rfl allowed, noneOr_none,
    State.checked_some]
  dsimp only
  generalize s.wakeAll = woken
  rfl

/-- PRESET asked for by a COMMIT of all four displays over the preset's layout. -/
theorem exec_commit_all {s : State} {m : Slot} (hopen : OpenTo s m) (allowed : (s.access m).manageActions = true) :
    ∃ r, exec (.commit m (requestBytes 0 0 0 [0x0F])) s = .next ((s.commitMask fun _ => true).1.respond m r) := by
  refine ⟨⟨(s.commitMask fun _ => true).2, 3, 0, 0, []⟩, ?_⟩
  rw [exec_commit_answer hopen 0 0 0 (by simp), State.commitRequest, State.byteAction_of_allowed rfl allowed, fullMask]
  generalize s.commitMask (fun _ => true) = committed
  rfl

theorem State.runAction_preset (s : State) (p : Fin 4) (h : p.val < 8) :
    s.runAction .preset (.number ⟨p.val, h⟩) = s.applyPreset p := by
  unfold State.runAction
  dsimp only
  rw [fourth_val]

theorem State.runAction_share (s : State) (d : DisplayIx) (h : d.val < 8) :
    s.runAction .share (.number ⟨d.val, h⟩) = s.shareDisplay (some d) := by
  unfold State.runAction State.shareAction
  dsimp only
  rw [fourth_val]

theorem State.wakeAction_focus_some {s : State} {n : Slot} (h : s.fc.focus = some n) : s.wakeAction .focus = (s.trigger n .wake).1 := by
  unfold State.wakeAction
  rw [h]

theorem State.wakeAction_focus_none {s : State} (h : s.fc.focus = none) : s.wakeAction .focus = s := by
  unfold State.wakeAction
  rw [h]

theorem State.shareDisplay_eq (s : State) (d : Option DisplayIx) : s.shareDisplay d = { s with cmp :=
    if s.cmp.ds.running = true then { s.cmp with requested := d } else { s.cmp with requested := d, selection := d } } := by
  unfold State.shareDisplay
  split <;> rfl

end Sys2Proof.Machine


/-! A matched chord runs its action (02, R29, R37). -/

namespace Sys2Proof.Machine

/-- DISMISS by where the saved place lies (07, R121). -/
theorem State.dismiss_spec (x : State) (top : Attended) (rest : List Attended) (stack : x.atu.stack = top :: rest) :
    let restored := State.focusChange { x with atu := { x.atu with stack := rest } } top.savedFocus
    (x.fc.follow = .separate → x.dismiss = restored) ∧
    (x.fc.follow = .follow →
      (∀ d, x.cmp.active.displayAt top.savedX top.savedY = some d → x.dismiss = restored.relocate top.savedX top.savedY) ∧
      (x.cmp.active.displayAt top.savedX top.savedY = none →
        (∀ n i r, top.savedFocus = some n → x.tileSlot i = some n → x.cmp.active.placed i = some r →
          (∀ j, j < i → x.tileSlot j = some n → x.cmp.active.placed j = none) →
          x.dismiss = restored.relocate (r.x + r.w / 2) (r.y + r.h / 2)) ∧
        ((∀ n i, top.savedFocus = some n → x.tileSlot i = some n → x.cmp.active.placed i = none) → x.dismiss = restored))) := by
  intro restored
  have popped := State.dismiss_of_top stack
  have home (n : Slot) : (x.setAtu { x.atu with stack := rest }).homeTile n = x.homeTile n := State.homeTile_of_eq rfl rfl n
  refine ⟨fun separate => ?_, fun follow => ⟨fun d onDesk => ?_, fun off => ⟨fun n i r saved slot placed first => ?_, fun none => ?_⟩⟩⟩
  · exact popped.trans (State.restore_of_separate separate)
  · exact popped.trans (State.restore_of_onDesk (s := x.setAtu { x.atu with stack := rest }) follow (congrArg Option.isSome onDesk))
  · refine popped.trans (State.restore_of_home (s := x.setAtu { x.atu with stack := rest }) follow ?_ ?_)
    · rw [show (x.setAtu { x.atu with stack := rest }).cmp = x.cmp from rfl, off]
      decide
    · rw [saved, Option.bind_some, home, State.homeTile_of_first slot placed first]
  · refine popped.trans (State.restore_of_no_home (s := x.setAtu { x.atu with stack := rest }) follow ?_ ?_)
    · rw [show (x.setAtu { x.atu with stack := rest }).cmp = x.cmp from rfl, off]
      decide
    · cases saved : top.savedFocus with
      | none => rfl
      | some n => rw [Option.bind_some, home, State.homeTile_of_none fun i => none n i saved]

/-- NEXT and PREVIOUS select the nearest slot that can receive (01, R20). -/
theorem State.nextPrevious_spec (x : State) :
    let can (n : Slot) : Prop := x.link n ≠ .off ∧ (x.access n).inputAllowed = true
    let next := x.selectFirst (nextOrder x.fc.focus)
    let previous := x.selectFirst (previousOrder x.fc.focus)
    (∀ f i, x.fc.focus = some f → i ≠ 0 →
      (can (f + i) → (∀ j, j ≠ 0 → j < i → ¬can (f + j)) → next = x.select (f + i)) ∧
      (can (f - i) → (∀ j, j ≠ 0 → j < i → ¬can (f - j)) → previous = x.select (f - i))) ∧
    (∀ n, x.fc.focus = none → can n →
      ((∀ m, m < n → ¬can m) → next = x.select n) ∧ ((∀ m, n < m → ¬can m) → previous = x.select n)) ∧
    ((∀ n, x.fc.focus ≠ some n → ¬can n) → next = x ∧ previous = x) := by
  intro can next previous
  refine ⟨fun f i focus distance => ⟨fun here first => ?_, fun here first => ?_⟩,
    fun n focus here => ⟨fun first => ?_, fun first => ?_⟩, fun none => ⟨?_, ?_⟩⟩
  · simp only [next, focus, nextOrder_some]
    exact State.selectFirst_of_first distances_rising (mem_distances.mpr distance) here fun j hj => first j (mem_distances.mp hj)
  · simp only [previous, focus, previousOrder_some]
    exact State.selectFirst_of_first distances_rising (mem_distances.mpr distance) here fun j hj => first j (mem_distances.mp hj)
  · simp only [next, focus]
    have found := State.selectFirst_of_first (s := x) (g := id) allSlots_rising (mem_allSlots n) here fun j _ => first j
    rwa [List.map_id] at found
  · simp only [previous, focus, previousOrder_none]
    have found := State.selectFirst_of_first (s := x) (g := Fin.rev) (i := n.rev) allSlots_rising (mem_allSlots _)
      (by rw [Fin.rev_rev]; exact here) fun j _ hj => first j.rev (by
        have := Fin.rev_lt_rev.mpr hj
        rwa [Fin.rev_rev] at this)
    rwa [Fin.rev_rev] at found
  · exact State.selectFirst_of_none fun n hn => none n (mem_nextOrder hn)
  · exact State.selectFirst_of_none fun n hn => none n (mem_previousOrder hn)

/-- Settles O19: the press by its chord and pass-next, and then the twelve actions one by one. -/
theorem chordPressRunsItsAction : Obligations.ChordPressRunsItsAction := by
  refine ⟨?_, ?_⟩
  · intro s k e held usable normal other chord report pressed consumed
    have pressedPress : exec report s = .next (pressed.normalPress k) :=
      (State.exec_press held usable).trans (congrArg _ (State.press_of_normal normal))
    refine ⟨fun pass => ?_, fun pass => ?_⟩
    · exact pressedPress.trans (congrArg _ (State.chordPress_of_pass (s := pressed) other chord pass))
    · have runs : exec report s = .next (consumed.runAction e.action e.argument) :=
        pressedPress.trans (congrArg _ (State.chordPress_of_action (s := pressed) other chord pass))
      refine ⟨runs, fun action => ?_, fun action => ?_, fun action => ?_⟩
      · rw [runs, action]
        rfl
      · rw [runs, action]
        rfl
      · rw [runs, action, ← FollowMode.toggled_eq]
        rfl
  · intro x select can showing
    obtain ⟨near, far, nowhere⟩ := x.nextPrevious_spec
    refine ⟨fun m n hopen allowed => exec_focus_slot hopen allowed n, fun n focus separate => State.select_of_focus focus separate,
      fun f i arg => near f i, fun n arg => far n, fun arg => nowhere, fun arg => State.attend_of_none, ?_, fun arg none => ?_,
      fun arg => x.dismiss_spec, fun n => ⟨rfl, State.wakeAction_focus_some⟩, State.wakeAction_focus_none,
      fun m arg hopen allowed => exec_wake_all hopen allowed, fun p m hopen allowed => ?_, fun d => ?_, x.shareDisplay_eq none⟩
    · intro arg p a q alerts first shows pushed selected
      exact State.attend_of_first alerts first shows
    · show x.dismiss = x
      rw [State.dismiss, none]
    · rw [State.runAction_preset]
      exact exec_commit_all (s := { x with cmp := { x.cmp with layout := x.tables.presets.get p } }) hopen allowed
    · rw [State.runAction_share]
      exact x.shareDisplay_eq (some d)

end Sys2Proof.Machine


/-! A relocation of P, hand-over by hand-over (03, R57). -/

namespace Sys2Proof.Machine

theorem State.delivers_eq_some {s : State} {i : TileIx} {n : Slot} : s.delivers = some (i, n) ↔
    s.gu.tile = some i ∧ s.gu.pointerSlot = some n ∧ s.tileMode i ≠ .none ∧ (s.access n).inputAllowed = true ∧ s.link n ≠ .off := by
  unfold State.delivers
  cases s.gu.tile with
  | none => simp
  | some j =>
    cases s.gu.pointerSlot with
    | none => simp
    | some m =>
      dsimp only
      split
      next h =>
        simp only [Option.some.injEq, Prod.mk.injEq]
        constructor
        · rintro ⟨rfl, rfl⟩
          exact ⟨rfl, rfl, h⟩
        · rintro ⟨rfl, rfl, -⟩
          exact ⟨rfl, rfl⟩
      next h =>
        simp only [reduceCtorEq, Option.some.injEq, false_iff]
        rintro ⟨rfl, rfl, h'⟩
        exact h h'

/-! ### What a hand-over leaves (05, R84 to R89) -/

/-- What a hand-over leaves beside its own port: the wake records, and the suppressed buttons but for more of them. -/
structure State.Hands (s t : State) : Prop where
  wakes : t.wakes = s.wakes
  suppressed : ∃ b, t.gu.suppressed = s.gu.suppressed ||| b

/-- An entry was taken, or there was none to take: the focus record, the events and the suppressed buttons stay. -/
def State.Calm (s t : State) : Prop := t.fc = s.fc ∧ t.mgi = s.mgi ∧ t.gu.suppressed = s.gu.suppressed

theorem State.Calm.refl (s : State) : s.Calm s := ⟨rfl, rfl, rfl⟩

theorem State.Calm.trans {s t u : State} (h : s.Calm t) (h' : t.Calm u) : s.Calm u :=
  ⟨h'.1.trans h.1, h'.2.1.trans h.2.1, h'.2.2.trans h.2.2⟩

theorem State.Hands.refl (s : State) : s.Hands s := ⟨rfl, 0, by simp⟩

section HandOver
variable (s : State) (n : Slot) (e : Entry)

theorem State.handOver_hands : s.Hands (s.handOver n e) := by
  rcases s.handOver_cases n e with ⟨-, h⟩ | ⟨-, q, -, h⟩ | ⟨-, -, h⟩ <;> rw [h]
  · exact .refl s
  · exact ⟨State.settlePort_wakes .., 0, by rw [State.settlePort_gu]; simp⟩
  · exact ⟨s.releaseFlush_wakes n, s.gu.delivered.get n, congrArg Gu.suppressed (s.releaseFlush_gu n)⟩

theorem State.handOver_port_ne {m : Slot} (h : m ≠ n) : (s.handOver n e).port m = s.port m := by
  obtain ⟨q, hq⟩ := s.handOver_port n e
  rw [hq, if_neg h]

variable {s n e}

theorem State.handOver_port_taken {q : List Entry} (on : s.link n ≠ .off)
    (taken : takeEntry (s.port n).lastButtons (s.port n).queue e = some q) :
    (s.handOver n e).port n = { s.port n with queue := q } := by
  rw [State.handOver_of_taken on taken]
  exact Table.get_put_same ..

theorem State.handOver_calm (taken : s.link n ≠ .off → takeEntry (s.port n).lastButtons (s.port n).queue e ≠ none) :
    s.Calm (s.handOver n e) := by
  by_cases on : s.link n = .off
  · rw [State.handOver_of_off on]
    exact .refl s
  · obtain ⟨q, hq⟩ := Option.ne_none_iff_exists'.mp (taken on)
    rw [State.handOver_of_taken on hq]
    exact .refl s

end HandOver

/-! ### The release entry (03, R57) -/

/-- The queue that the release entry leaves of a port: the entry is handed to the pointer slot that was told of buttons. -/
def State.releaseQueued (s : State) (n : Slot) : Option (List Entry) :=
  if s.gu.pointerSlot = some n ∧ s.delivered n ≠ 0 then takeEntry (s.port n).lastButtons (s.port n).queue (.rel 0 0 0 0)
  else some (s.port n).queue

/-- The pointer slot's release entry, where it was told of buttons. -/
theorem State.releaseButtons_cases (s : State) :
    (s.releaseButtons s.gu.pointerSlot = s ∧ ∀ n, s.gu.pointerSlot = some n → s.delivered n = 0) ∨
    ∃ n, s.gu.pointerSlot = some n ∧ s.delivered n ≠ 0 ∧
      s.releaseButtons s.gu.pointerSlot = (s.setDelivered n 0).handOver n (.rel 0 0 0 0) := by
  unfold State.releaseButtons
  cases s.gu.pointerSlot with
  | none => exact .inl ⟨rfl, nofun⟩
  | some n =>
    by_cases h : s.delivered n = 0
    · refine .inl ⟨if_pos h, fun m hm => ?_⟩
      obtain rfl := Option.some.inj hm
      exact h
    · exact .inr ⟨n, rfl, h, if_neg h⟩

theorem State.releaseButtons_spec (s : State) :
    let t := s.releaseButtons s.gu.pointerSlot
    (∀ n, s.link n = .off ∨ s.gu.pointerSlot ≠ some n → t.port n = s.port n) ∧
    (∀ n q, s.link n ≠ .off → s.releaseQueued n = some q → t.port n = { s.port n with queue := q }) ∧
    ((∀ n, s.link n ≠ .off → s.releaseQueued n ≠ none) → s.Calm t) ∧ (∀ n, s.gu.pointerSlot = some n → t.delivered n = 0) ∧ s.Hands t := by
  intro t
  have cases := s.releaseButtons_cases
  rcases cases with ⟨ht, none⟩ | ⟨n, slot, told, ht⟩
  · rw [show t = s from ht]
    refine ⟨fun n _ => rfl, fun n q _ hq => ?_, fun _ => .refl s, none, .refl s⟩
    rw [State.releaseQueued, if_neg fun h => h.2 (none n h.1)] at hq
    rw [← Option.some.inj hq]
  · rw [show t = _ from ht]
    have released (m : Slot) : s.releaseQueued m = if m = n then takeEntry (s.port n).lastButtons (s.port n).queue (.rel 0 0 0 0)
        else some (s.port m).queue := by
      unfold State.releaseQueued
      by_cases hm : m = n
      · subst hm
        rw [if_pos ⟨slot, told⟩, if_pos rfl]
      · rw [if_neg fun h => hm (Option.some.inj (slot.symm.trans h.1)).symm, if_neg hm]
    refine ⟨fun m h => ?_, fun m q on hq => ?_, fun taken => ?_, fun m hm => ?_, ?_⟩
    · by_cases hm : m = n
      · subst hm
        rcases h with off | other
        · rw [State.handOver_of_off (s := s.setDelivered m 0) off]
          rfl
        · exact absurd slot other
      · exact (State.handOver_port_ne (s.setDelivered n 0) n _ hm).trans rfl
    · rw [released] at hq
      by_cases hm : m = n
      · subst hm
        rw [if_pos rfl] at hq
        exact State.handOver_port_taken (s := s.setDelivered m 0) on hq
      · rw [if_neg hm] at hq
        rw [← Option.some.inj hq]
        exact (State.handOver_port_ne (s.setDelivered n 0) n _ hm).trans rfl
    · exact State.Calm.trans (t := s.setDelivered n 0) ⟨rfl, rfl, rfl⟩ (State.handOver_calm (s := s.setDelivered n 0) fun on => by
        have := taken n on
        rwa [released, if_pos rfl] at this)
    · obtain rfl := Option.some.inj (slot.symm.trans hm)
      exact (State.Spares.handOver (s.setDelivered n 0) n _).delivered (Table.get_put_same ..)
    · have hands := (s.setDelivered n 0).handOver_hands n (.rel 0 0 0 0)
      exact ⟨hands.wakes, hands.suppressed⟩

/-! ### The place reached -/

/-- The pointer's record at the place that a relocation reaches, before the entry it hands over. -/
theorem State.relocated_spec (s : State) (o : Option Slot) (x y : Int) :
    ∃ g, (s.suppressButtons.moveTo x y).clearEntered o = s.setGu g ∧ g.px = x ∧ g.py = y ∧ g.rx = 0 ∧ g.ry = 0 ∧
      g.tile = s.cmp.active.tileAt x y ∧ g.display = s.cmp.active.displayAt x y ∧
      g.pointerSlot = (s.cmp.active.tileAt x y).bind s.tileSlot ∧ g.glideLock = s.gu.glideLock ∧
      g.suppressed = s.gu.suppressed ||| s.ciu.buttons ∧ g.delivered = s.gu.delivered ∧
      (∀ n, g.pointerSlot = some n → o ≠ some n → g.accX.get n = 0 ∧ g.accY.get n = 0) ∧
      (∀ n, g.pointerSlot ≠ some n ∨ o = some n → g.accX.get n = s.gu.accX.get n ∧ g.accY.get n = s.gu.accY.get n) := by
  obtain ⟨v, hv⟩ : ∃ v, v = s.suppressButtons.moveTo x y := ⟨_, rfl⟩
  have gu : v.gu = { s.gu with
      px := x, py := y, rx := 0, ry := 0, tile := s.cmp.active.tileAt x y, display := s.cmp.active.displayAt x y
      pointerSlot := (s.cmp.active.tileAt x y).bind s.tileSlot, suppressed := s.gu.suppressed ||| s.ciu.buttons } := by
    rw [hv]
    rfl
  have shape : v = s.setGu v.gu := by
    rw [hv]
    rfl
  rw [← hv]
  unfold State.clearEntered
  cases slot : v.gu.pointerSlot with
  | none =>
    refine ⟨v.gu, shape, ?_⟩
    rw [gu] at slot ⊢
    exact ⟨rfl, rfl, rfl, rfl, rfl, rfl, rfl, rfl, rfl, rfl, fun n hn => absurd (slot.symm.trans hn) (by simp), fun _ _ => ⟨rfl, rfl⟩⟩
  | some m =>
    dsimp only
    by_cases stays : o = some m
    · rw [if_pos stays]
      refine ⟨v.gu, shape, ?_⟩
      rw [gu] at slot ⊢
      exact ⟨rfl, rfl, rfl, rfl, rfl, rfl, rfl, rfl, rfl, rfl,
        fun n hn other => absurd (stays.trans (slot.symm.trans hn)) other, fun _ _ => ⟨rfl, rfl⟩⟩
    · rw [if_neg stays]
      refine ⟨{ v.gu with accX := v.gu.accX.put m 0, accY := v.gu.accY.put m 0 }, ?_, ?_⟩
      · rw [State.clearAccumulators]
        exact (congrArg (fun u => State.setGu u _) shape).trans rfl
      · rw [gu] at slot ⊢
        refine ⟨rfl, rfl, rfl, rfl, rfl, rfl, rfl, rfl, rfl, rfl, fun n hn _ => ?_, fun n hn => ?_⟩
        · obtain rfl := Option.some.inj (slot.symm.trans hn)
          exact ⟨Table.get_put_same .., Table.get_put_same ..⟩
        · have hnm : n ≠ m := by
            rintro rfl
            rcases hn with h | h
            · exact h slot
            · exact stays h
          exact ⟨Table.get_put_ne _ _ hnm, Table.get_put_ne _ _ hnm⟩

/-! ### The absolute entry (03, R57) -/

/-- A tile that takes an absolute entry for slot `n`. -/
def State.takesPlace (s : State) (j : TileIx) (n : Slot) : Prop :=
  s.gu.tile = some j ∧ s.gu.pointerSlot = some n ∧ (s.access n).inputAllowed = true ∧ s.tileMode j = .absolute

theorem State.handPlace_cases (s : State) (x y : Int) :
    (s.handPlace x y = s ∧ ∀ j n, s.takesPlace j n → s.link n = .off) ∨
    ∃ j n, s.takesPlace j n ∧ s.link n ≠ .off ∧
      s.handPlace x y = s.handOver n (.abs 0 (s.translate j x y).1 (s.translate j x y).2 0) := by
  unfold State.handPlace
  cases hd : s.delivers with
  | none =>
    refine .inl ⟨rfl, fun j n ⟨tile, slot, allowed, mode⟩ => ?_⟩
    by_contra on
    exact nomatch hd.symm.trans (State.delivers_eq_some.mpr ⟨tile, slot, (by rw [mode]; decide), allowed, on⟩)
  | some p =>
    obtain ⟨i, n⟩ := p
    obtain ⟨tile, slot, -, allowed, on⟩ := State.delivers_eq_some.mp hd
    dsimp only
    by_cases mode : s.tileMode i = .absolute
    · exact .inr ⟨i, n, ⟨tile, slot, allowed, mode⟩, on, if_pos mode⟩
    · refine .inl ⟨if_neg mode, fun j m ⟨tile', _, _, mode'⟩ => ?_⟩
      obtain rfl := Option.some.inj (tile.symm.trans tile')
      exact absurd mode' mode

theorem State.handPlace_spec (s : State) (x y : Int) :
    let t := s.handPlace x y
    (∀ n, s.link n = .off ∨ (∀ j, ¬ s.takesPlace j n) → t.port n = s.port n) ∧
    (∀ j n q, s.takesPlace j n → s.link n ≠ .off → takeEntry (s.port n).lastButtons (s.port n).queue
      (.abs 0 (s.translate j x y).1 (s.translate j x y).2 0) = some q → t.port n = { s.port n with queue := q }) ∧
    ((∀ j n, s.takesPlace j n → s.link n ≠ .off → takeEntry (s.port n).lastButtons (s.port n).queue
      (.abs 0 (s.translate j x y).1 (s.translate j x y).2 0) ≠ none) → s.Calm t) ∧ s.Hands t := by
  intro t
  rcases s.handPlace_cases x y with ⟨ht, none⟩ | ⟨j, n, takes, on, ht⟩
  · rw [show t = s from ht]
    exact ⟨fun _ _ => rfl, fun j n q takes on => absurd (none j n takes) on, fun _ => .refl s, .refl s⟩
  · rw [show t = _ from ht]
    refine ⟨fun m h => ?_, fun j' m q takes' on' hq => ?_, fun taken => State.handOver_calm fun on => taken j n takes on,
      s.handOver_hands n _⟩
    · refine s.handOver_port_ne n _ ?_
      rintro rfl
      rcases h with off | free
      · exact on off
      · exact free j takes
    · obtain rfl := Option.some.inj (takes.1.symm.trans takes'.1)
      obtain rfl := Option.some.inj (takes.2.1.symm.trans takes'.2.1)
      exact State.handOver_port_taken on hq

end Sys2Proof.Machine


/-! What a relocation of P hands over (03, R57). -/

namespace Sys2Proof.Machine

theorem State.translate_of_eq {s t : State} (hcmp : t.cmp = s.cmp) (htables : t.tables = s.tables) : t.translate = s.translate := by
  funext i x y
  unfold State.translate State.source
  rw [hcmp, htables]

theorem State.access_of_eq {s t : State} (h : t.tables = s.tables) (n : Slot) : t.access n = s.access n := by
  unfold State.access
  rw [h]

theorem State.tileMode_of_eq {s t : State} (h : t.cmp = s.cmp) (i : TileIx) : t.tileMode i = s.tileMode i := by
  unfold State.tileMode
  rw [h]

/-- The tile and the slot that a place of the desk takes an absolute entry for (03, R53, R57). -/
def State.takesAt (s : State) (x y : Int) (j : TileIx) (n : Slot) : Prop :=
  s.cmp.active.tileAt x y = some j ∧ (s.cmp.active.tileAt x y).bind s.tileSlot = some n ∧ (s.access n).inputAllowed = true ∧
    s.tileMode j = .absolute

/-- A state whose P has reached a place, with the release entry handed over and the entry at the place still to come (03, R57). -/
structure State.Reaches (s : State) (x y : Int) (m : State) : Prop where
  place : m.gu.px = x ∧ m.gu.py = y ∧ m.gu.rx = 0 ∧ m.gu.ry = 0 ∧ m.gu.tile = s.cmp.active.tileAt x y ∧
    m.gu.display = s.cmp.active.displayAt x y ∧ m.gu.pointerSlot = (s.cmp.active.tileAt x y).bind s.tileSlot ∧
    m.gu.glideLock = s.gu.glideLock
  suppressed : ∃ b, m.gu.suppressed = s.gu.suppressed ||| b ||| s.ciu.buttons
  delivered : ∀ n, s.gu.pointerSlot = some n → m.delivered n = 0
  entered : ∀ n, (s.cmp.active.tileAt x y).bind s.tileSlot = some n → s.gu.pointerSlot ≠ some n →
    m.gu.accX.get n = 0 ∧ m.gu.accY.get n = 0
  kept : ∀ n, (s.cmp.active.tileAt x y).bind s.tileSlot ≠ some n ∨ s.gu.pointerSlot = some n →
    m.gu.accX.get n = s.gu.accX.get n ∧ m.gu.accY.get n = s.gu.accY.get n
  link : ∀ n, m.link n = s.link n
  idle : ∀ n, s.link n = .off ∨ s.gu.pointerSlot ≠ some n → m.port n = s.port n
  queued : ∀ n q, s.link n ≠ .off → s.releaseQueued n = some q → m.port n = { s.port n with queue := q }
  calm : (∀ n, s.link n ≠ .off → s.releaseQueued n ≠ none) →
    m.fc = s.fc ∧ m.mgi = s.mgi ∧ m.gu.suppressed = s.gu.suppressed ||| s.ciu.buttons
  wakes : m.wakes = s.wakes
  cmp : m.cmp = s.cmp
  tables : m.tables = s.tables

theorem State.reaches (s : State) (x y : Int) :
    s.Reaches x y (((s.releaseButtons s.gu.pointerSlot).suppressButtons.moveTo x y).clearEntered s.gu.pointerSlot) := by
  obtain ⟨idle, taken, calm, delivered, wakes, b, suppressed⟩ := s.releaseButtons_spec
  have link (n : Slot) : (s.releaseButtons s.gu.pointerSlot).link n = s.link n := (State.Spares.releaseButtons s _).link
  have cmp := State.cmp_of_side (s.releaseButtons_deskSide s.gu.pointerSlot)
  have tables := State.tables_eq_of_outer_eq (s.releaseButtons_outer s.gu.pointerSlot)
  have buttons : (s.releaseButtons s.gu.pointerSlot).ciu.buttons = s.ciu.buttons :=
    congrArg (fun c => c.1.2.2.2.2) (s.releaseButtons_consoleSide s.gu.pointerSlot)
  have side := s.releaseButtons_placeSide s.gu.pointerSlot
  generalize s.releaseButtons s.gu.pointerSlot = r at *
  have tileSlot : r.tileSlot = s.tileSlot := funext fun i => State.tileSlot_of_eq cmp tables i
  obtain ⟨g, hm, px, py, rx, ry, tile, display, slot, glide, gSuppressed, gDelivered, zero, kept⟩ := r.relocated_spec s.gu.pointerSlot x y
  rw [cmp] at tile display
  rw [cmp, tileSlot] at slot
  simp only [State.placeSide, Prod.mk.injEq] at side
  obtain ⟨-, -, sameGlide, sameX, sameY⟩ := side
  rw [hm]
  exact {
    place := ⟨px, py, rx, ry, tile, display, slot, glide.trans sameGlide⟩
    suppressed := ⟨b, by rw [← suppressed, ← buttons]; exact gSuppressed⟩
    delivered := fun n hn => (congrArg (·.get n) gDelivered).trans (delivered n hn)
    entered := fun n hn other => zero n (slot.trans hn) other
    kept := fun n hn => by
      have := kept n (hn.imp_left fun h => by rwa [slot])
      rwa [sameX, sameY] at this
    link := link
    idle := idle
    queued := taken
    calm := fun h => by
      obtain ⟨fc, mgi, sup⟩ := calm h
      exact ⟨fc, mgi, by rw [← sup, ← buttons]; exact gSuppressed⟩
    wakes := wakes
    cmp := cmp
    tables := tables }

section Relocate
variable {s m : State} {x y : Int} (h : s.Reaches x y m)
include h

theorem State.Reaches.takesPlace_iff (j : TileIx) (n : Slot) : m.takesPlace j n ↔ s.takesAt x y j n := by
  obtain ⟨-, -, -, -, tile, -, slot, -⟩ := h.place
  rw [State.takesPlace, State.takesAt, tile, slot, State.access_of_eq h.tables, State.tileMode_of_eq h.cmp]

/-- The place's part of a relocation. -/
theorem State.Reaches.handPlace_place : (m.handPlace x y).gu.px = x ∧ (m.handPlace x y).gu.py = y ∧ (m.handPlace x y).gu.rx = 0 ∧
    (m.handPlace x y).gu.ry = 0 ∧ (m.handPlace x y).gu.tile = s.cmp.active.tileAt x y ∧
    (m.handPlace x y).gu.display = s.cmp.active.displayAt x y ∧
    (m.handPlace x y).gu.pointerSlot = (s.cmp.active.tileAt x y).bind s.tileSlot ∧
    (m.handPlace x y).gu.glideLock = s.gu.glideLock ∧ (m.handPlace x y).gu.accX = m.gu.accX ∧ (m.handPlace x y).gu.accY = m.gu.accY := by
  have side := State.handPlace_place m x y
  simp only [State.placeSide, Prod.mk.injEq] at side
  obtain ⟨⟨px, py, rx, ry⟩, ⟨tile, display, slot⟩, glide, accX, accY⟩ := side
  rw [px, py, rx, ry, tile, display, slot, glide]
  obtain ⟨px, py, rx, ry, tile, display, slot, glide⟩ := h.place
  exact ⟨px, py, rx, ry, tile, display, slot, glide, accX, accY⟩

theorem State.Reaches.handPlace_idle {n : Slot}
    (hn : s.link n = .off ∨ (s.gu.pointerSlot ≠ some n ∧ (s.cmp.active.tileAt x y).bind s.tileSlot ≠ some n)) :
    (m.handPlace x y).port n = s.port n := by
  obtain ⟨idle, -⟩ := m.handPlace_spec x y
  rw [idle n, h.idle n (hn.imp_right And.left)]
  refine hn.imp (fun off => (h.link n).trans off) fun free j takes => ?_
  obtain ⟨-, slot, -⟩ := (h.takesPlace_iff j n).mp takes
  exact free.2 slot

/-- The queue that the entry at the place reached is handed to. -/
theorem State.Reaches.handPlace_queued {n : Slot} {q : List Entry} (on : s.link n ≠ .off) (hq : s.releaseQueued n = some q) :
    ((∀ j, ¬ s.takesAt x y j n) → (m.handPlace x y).port n = { s.port n with queue := q }) ∧
    ∀ j q', s.takesAt x y j n →
      takeEntry (s.port n).lastButtons q (.abs 0 (s.translate j x y).1 (s.translate j x y).2 0) = some q' →
      (m.handPlace x y).port n = { s.port n with queue := q' } := by
  obtain ⟨idle, taken, -⟩ := m.handPlace_spec x y
  have port := h.queued n q on hq
  refine ⟨fun free => ?_, fun j q' takes hq' => ?_⟩
  · rw [idle n (.inr fun j takes => free j ((h.takesPlace_iff j n).mp takes)), port]
  · rw [taken j n q' ((h.takesPlace_iff j n).mpr takes) ((h.link n).trans_ne on), port]
    rw [port, State.translate_of_eq h.cmp h.tables]
    exact hq'

theorem State.Reaches.handPlace_calm (taken : ∀ n, s.link n ≠ .off → ∃ q, s.releaseQueued n = some q ∧ ∀ j, s.takesAt x y j n →
      takeEntry (s.port n).lastButtons q (.abs 0 (s.translate j x y).1 (s.translate j x y).2 0) ≠ none) :
    (m.handPlace x y).fc = s.fc ∧ (m.handPlace x y).mgi = s.mgi ∧
      (m.handPlace x y).gu.suppressed = s.gu.suppressed ||| s.ciu.buttons := by
  obtain ⟨-, -, calm, -⟩ := m.handPlace_spec x y
  obtain ⟨fc, mgi, suppressed⟩ := h.calm fun n on => by
    obtain ⟨q, hq, -⟩ := taken n on
    rw [hq]
    exact Option.some_ne_none q
  obtain ⟨fc', mgi', suppressed'⟩ := calm fun j n takes on => by
    have on' := (h.link n).symm.trans_ne on
    obtain ⟨q, hq, room⟩ := taken n on'
    rw [h.queued n q on' hq, State.translate_of_eq h.cmp h.tables]
    exact room j ((h.takesPlace_iff j n).mp takes)
  exact ⟨fc'.trans fc, mgi'.trans mgi, suppressed'.trans suppressed⟩

end Relocate

theorem and_not_or_self (a b c : Buttons) : a &&& ~~~(b ||| a ||| c) = 0 := by
  ext i
  simp only [BitVec.getElem_and, BitVec.getElem_not, BitVec.getElem_or, BitVec.ofNat_eq_ofNat, BitVec.getElem_zero]
  cases a[i] <;> simp

end Sys2Proof.Machine


/-! Changes of the focus that a management request asks for, and relocations (01, R18; 03, R57, R58). -/

namespace Sys2Proof.Machine

/-- A focus change from an ACTIVE slot with room in its queue to another ACTIVE slot: one empty image, and no trigger. -/
theorem State.focusChange_of_active {s : State} {a b : Slot} (focus : s.fc.focus = some a) (other : a ≠ b)
    (left : s.link a = .active) (taken : s.link b = .active) (room : (s.port a).queue.length < 16) :
    s.focusChange (some b) = ((s.suppressHeld a).appended a (.keyboard KeyImage.empty)).enterFocus (some b) := by
  have image : (s.suppressHeld a).queueImage a = (s.suppressHeld a).appended a (.keyboard KeyImage.empty) := by
    rw [State.queueImage_of_room (s := s.suppressHeld a) (fun off => nomatch left.symm.trans off) room, State.suppressHeld_sent,
      if_pos rfl]
  unfold State.focusChange
  rw [if_neg (by rw [focus]; exact fun h => other (Option.some.inj h).symm), focus]
  dsimp only [State.leaveFocus]
  rw [image]
  refine if_neg fun h => h.1 (Eq.trans ?_ taken)
  exact congrArg Port.link (Table.get_put_ne _ _ (Ne.symm other))

/-- The focus change of one ACTIVE slot with room in its queue to another, part by part (01, R18). -/
theorem State.focusMoved_spec (s : State) (a b : Slot) :
    let t := ((s.suppressHeld a).appended a (.keyboard KeyImage.empty)).enterFocus (some b)
    t.fc = { s.fc with
      held := s.fc.held.map fun e => (e.1, e.2.without a)
      sent := s.fc.sent.put a KeyImage.empty
      suppressed := s.fc.suppressed ||| s.ciu.mods
      passNext := false
      focus := some b } ∧
    t.ports = s.ports.put a { s.port a with queue := (s.port a).queue ++ [.keyboard KeyImage.empty] } ∧
    t.mgi = (s.raiseEvent .focusChanged).mgi ∧ t.gu = s.gu ∧ t.wakes = s.wakes ∧ t.atu = s.atu ∧ t.cmp = s.cmp ∧
    t.hkm = s.hkm ∧ t.outer = s.outer := by
  intro t
  have shape : t = ((((s.suppressHeld a).appended a (.keyboard KeyImage.empty)).setFc { s.fc with
      held := s.fc.held.map fun e => (e.1, e.2.without a)
      sent := s.fc.sent.put a KeyImage.empty
      suppressed := s.fc.suppressed ||| s.ciu.mods
      passNext := false
      focus := some b }).raiseEvent .focusChanged).updateLeds := rfl
  rw [shape]
  exact ⟨rfl, rfl, rfl, rfl, rfl, rfl, rfl, rfl, rfl⟩

/-- The request's answer to a slot that changes the focus. -/
theorem State.select_of_other {s : State} {b : Slot} (other : s.fc.focus ≠ some b) :
    s.select b = (s.focusChange (some b)).relocateHome b := by
  rw [State.select, if_neg other]

theorem exec_focus_none {s : State} {n : Slot} (hopen : OpenTo s n) (allowed : (s.access n).manageActions = true) :
    exec (.focus n (requestBytes 0 0 0 [0xFF])) s = .next ((s.focusChange none).respond n ⟨.done, 4, 0, 0, []⟩) := by
  rw [exec_focus_answer hopen 0 0 0 (by simp), State.focusRequest, State.byteAction_of_allowed rfl allowed, noneOr_none,
    State.checked_some]
  exact congrArg _ (State.accept_sent ..)

theorem State.relocateHome_of_home {s : State} {n : Slot} {r : Rect} (h : s.fc.follow = .follow) (home : s.homeTile n = some r) :
    s.relocateHome n = s.relocate r.centreX r.centreY := by
  rw [State.relocateHome, if_pos h, home]

theorem State.relocateHome_of_no_home {s : State} {n : Slot} (home : s.homeTile n = none) : s.relocateHome n = s := by
  rw [State.relocateHome, home]
  exact ite_self s

theorem relocateHandsOver (s : State) (x y : Int) :
    let t := s.relocate x y
    let entered := (s.cmp.active.tileAt x y).bind s.tileSlot
    (∀ n, s.link n = .off ∨ (s.gu.pointerSlot ≠ some n ∧ entered ≠ some n) → t.port n = s.port n) ∧
    t.wakes = s.wakes ∧ s.ciu.buttons &&& ~~~t.gu.suppressed = 0 ∧ (∀ n, s.gu.pointerSlot = some n → t.delivered n = 0) := by
  intro t entered
  have reaches := s.reaches x y
  rw [show t = _ from s.relocate_eq x y]
  generalize ((s.releaseButtons s.gu.pointerSlot).suppressButtons.moveTo x y).clearEntered s.gu.pointerSlot = m at *
  obtain ⟨-, -, -, wakes, b, suppressed⟩ := m.handPlace_spec x y
  obtain ⟨c, suppressed'⟩ := reaches.suppressed
  refine ⟨fun n hn => reaches.handPlace_idle hn, wakes.trans reaches.wakes, ?_, fun n hn =>
    (State.Spares.handPlace m x y).delivered (reaches.delivered n hn)⟩
  rw [suppressed, suppressed']
  exact and_not_or_self _ _ _

/-- Settles O20. -/
theorem focusRequestChangesTheFocus : Obligations.FocusRequestChangesTheFocus := by
  refine ⟨?_, ?_, ?_⟩
  · intro s n a b hopen allowed separate focus other left taken room
    refine ⟨_, exec_focus_slot hopen allowed b, ?_⟩
    rw [State.select_of_other (by rw [focus]; exact fun h => other (Option.some.inj h)),
      State.relocateHome_of_separate ((s.focusChange_follow _).trans separate), State.focusChange_of_active focus other left taken room]
    obtain ⟨fc, ports, mgi, gu, wakes, atu, cmp, hkm, outer⟩ := s.focusMoved_spec a b
    generalize ((s.suppressHeld a).appended a (.keyboard KeyImage.empty)).enterFocus (some b) = u at fc ports mgi gu wakes atu cmp hkm outer
    have fc' : (u.respond n ⟨.done, 4, 0, 0, []⟩).fc = _ := fc
    have sent (m : Slot) : (u.respond n ⟨.done, 4, 0, 0, []⟩).sent m = if m = a then KeyImage.empty else s.sent m :=
      (congrArg (fun f : Fc => f.sent.get m) fc).trans (Table.get_put ..)
    have port (m : Slot) : u.port m = if m = a then { s.port a with queue := (s.port a).queue ++ [.keyboard KeyImage.empty] }
        else s.port m := (congrArg (Table.get · m) ports).trans (Table.get_put ..)
    have answered (m : Slot) : (u.respond n ⟨.done, 4, 0, 0, []⟩).port m =
        if m = n then { u.port n with responses := (u.port n).responses ++ [⟨.done, 4, 0, 0, []⟩] } else u.port m := Table.get_put ..
    have queue (m : Slot) : ((u.respond n ⟨.done, 4, 0, 0, []⟩).port m).queue = (u.port m).queue := by
      rw [answered]
      split
      next h => rw [h]
      · rfl
    have responses (m : Slot) : (u.port m).responses = (s.port m).responses := by
      rw [port]
      split
      next h => rw [h]
      · rfl
    rw [fc']
    refine ⟨rfl, rfl, rfl, separate, ?_, fun m hm => ?_, ?_, fun k => ?_, fun m hm => ?_, fun m hm hmn => ?_, ?_, fun m => ?_,
      gu, wakes, atu, cmp, hkm, outer⟩
    · rw [sent, if_pos rfl]
    · rw [sent, if_neg hm]
    · rw [queue, port, if_pos rfl]
    · exact State.heldKey_lostFc s a k
    · rw [queue, port, if_neg hm]
    · rw [answered, if_neg hmn, port, if_neg hm]
    · rw [answered, if_pos rfl, responses]
    · exact (congrArg (·.events.get m) mgi).trans (s.raiseEvent_events .focusChanged m)
  · intro s n hopen allowed
    refine ⟨exec_focus_none hopen allowed, fun h => if_pos h.symm, fun b => ⟨fun other separate => ?_, fun other follow => ⟨?_, ?_⟩⟩⟩
    · rw [exec_focus_slot hopen allowed, State.select_of_other other,
        State.relocateHome_of_separate ((s.focusChange_follow _).trans separate)]
    · intro i r slot placed first
      rw [exec_focus_slot hopen allowed, State.select_of_other other, State.relocateHome_of_home ((s.focusChange_follow _).trans follow)
        ((congrFun (s.focusChange_homeTile _) b).trans (State.homeTile_of_first slot placed first))]
      rfl
    · intro none
      rw [exec_focus_slot hopen allowed, State.select_of_other other,
        State.relocateHome_of_no_home ((congrFun (s.focusChange_homeTile _) b).trans (State.homeTile_of_none none))]
  · intro s x y
    have ⟨idle, wakes, buttons, delivered⟩ := relocateHandsOver s x y
    have reaches := s.reaches x y
    intro t i entered handed
    have ht : t = _ := s.relocate_eq x y
    generalize ((s.releaseButtons s.gu.pointerSlot).suppressButtons.moveTo x y).clearEntered s.gu.pointerSlot = m at reaches ht
    obtain ⟨px, py, rx, ry, tile, display, slot, glide, accX, accY⟩ := reaches.handPlace_place
    rw [← ht] at px py rx ry tile display slot glide accX accY
    refine ⟨px, py, rx, ry, tile, display, slot, glide, buttons, delivered, fun n hn other => ?_, fun n hn => ?_, idle, fun n q on hq => ?_,
      fun taken => ?_, congrArg Prod.fst (s.relocate_focusSide x y), wakes, State.atu_of_side (s.relocate_deskSide x y),
      State.cmp_of_side (s.relocate_deskSide x y), s.relocate_consoleSide x y, s.relocate_outer x y⟩
    · rw [accX, accY]
      exact reaches.entered n hn other
    · rw [accX, accY]
      exact reaches.kept n hn
    · obtain ⟨r, hr, hq⟩ := Option.bind_eq_some_iff.mp hq
      obtain ⟨free, takes⟩ := reaches.handPlace_queued on hr
      rw [ht]
      cases hi : s.cmp.active.tileAt x y with
      | none =>
        rw [show i = none from hi] at hq
        obtain rfl := Option.some.inj hq
        exact free fun j takes => nomatch hi.symm.trans takes.1
      | some j =>
        rw [show i = some j from hi] at hq
        by_cases there : entered = some n ∧ (s.access n).inputAllowed = true ∧ s.tileMode j = .absolute
        · exact takes j q ⟨hi, there⟩ ((if_pos there).symm.trans hq)
        · obtain rfl := Option.some.inj ((if_neg there).symm.trans hq)
          refine free fun k takes => there ?_
          obtain rfl := Option.some.inj (hi.symm.trans takes.1)
          exact takes.2
    · rw [ht]
      refine reaches.handPlace_calm fun n on => ?_
      obtain ⟨q, hq⟩ := Option.ne_none_iff_exists'.mp (taken n)
      obtain ⟨r, hr, hq⟩ := Option.bind_eq_some_iff.mp hq
      refine ⟨r, hr, fun j takes => ?_⟩
      rw [show i = some j from takes.1] at hq
      rw [(if_pos takes.2).symm.trans hq]
      exact Option.some_ne_none q

end Sys2Proof.Machine


/-! A pointer arrival: its buttons, and where P goes (01, R4; 03, R47 to R51). -/

namespace Sys2Proof.Machine

/-! ### Places of the desk (03, R45) -/

theorem Rect.holds_iff (r : Rect) (x y : Int) :
    r.holds x y = true ↔ (r.x ≤ x ∧ x ≤ r.x + r.w - 1) ∧ (r.y ≤ y ∧ y ≤ r.y + r.h - 1) := by
  simp only [Rect.holds, Bool.and_eq_true, decide_eq_true_eq]
  omega

/-- A point that a rectangle holds is clamped to itself. -/
theorem Rect.clamp_of_holds {r : Rect} {x y : Int} (h : r.holds x y = true) : (r.clampX x, r.clampY y) = (x, y) := by
  obtain ⟨⟨hx, hx'⟩, hy, hy'⟩ := (r.holds_iff x y).mp h
  rw [Rect.clampX, Rect.clampY, clampInto_of_mem hx hx', clampInto_of_mem hy hy']

theorem ActiveLayout.tileAt_holds {l : ActiveLayout} {x y : Int} {i : TileIx} (h : l.tileAt x y = some i) :
    ∃ r, l.placed i = some r ∧ r.holds x y = true := by
  have there := List.find?_some (p := fun i => (l.placed i).any fun r : Rect => r.holds x y) h
  exact (Option.any_eq_true _ _).mp there

theorem ActiveLayout.displayAt_holds {l : ActiveLayout} {x y : Int} {d : DisplayIx} (h : l.displayAt x y = some d) :
    ∃ r, (l.displays.get d).rect = some r ∧ r.holds x y = true := by
  have there := List.find?_some (p := fun d => (l.displays.get d).rect.any fun r : Rect => r.holds x y) h
  exact (Option.any_eq_true _ _).mp there

theorem ActiveLayout.firstRect_of_displayAt {l : ActiveLayout} {x y : Int} (h : (l.displayAt x y).isSome = true) :
    ∃ r, l.firstRect = some r := by
  obtain ⟨d, hd⟩ := Option.isSome_iff_exists.mp h
  obtain ⟨r, hr, -⟩ := ActiveLayout.displayAt_holds hd
  refine Option.isSome_iff_exists.mp (List.findSome?_isSome_iff.mpr ⟨d, List.mem_of_find?_eq_some hd, ?_⟩)
  rw [hr]
  rfl

/-! ### Where P goes (03, R48 to R50) -/

theorem State.clampTo_of_holds (s : State) {r : Rect} {x y : Int} (h : r.holds x y = true) : s.clampTo (some r) x y = (x, y) :=
  Rect.clamp_of_holds h

/-- The drag rule does not hold P at its own place. -/
theorem State.drag_still {s : State} (tile : s.gu.tile = s.cmp.active.tileAt s.gu.px s.gu.py)
    (slot : s.gu.pointerSlot = s.slotOfTile s.gu.tile) (released : Buttons) : s.dragHolds released s.gu.px s.gu.py = false := by
  unfold State.dragHolds
  cases hn : s.gu.pointerSlot with
  | none => rfl
  | some n =>
    obtain ⟨i, hi, -⟩ := Option.bind_eq_some_iff.mp (slot.symm.trans hn)
    rw [← tile, hi]
    dsimp only
    rw [if_pos rfl, ite_self]

section Still
variable {s : State} (display : s.gu.display = s.cmp.active.displayAt s.gu.px s.gu.py) (onDesk : s.gu.display.isSome = true)
  (tile : s.gu.tile = s.cmp.active.tileAt s.gu.px s.gu.py)
include display onDesk tile

/-- Glide lock keeps P where it is. -/
theorem State.lock_still : s.clampTo s.lockRect s.gu.px s.gu.py = (s.gu.px, s.gu.py) := by
  unfold State.lockRect
  cases hi : s.gu.tile with
  | some i =>
    obtain ⟨r, placed, holds⟩ := ActiveLayout.tileAt_holds (tile.symm.trans hi)
    rw [Option.bind_some, placed]
    exact s.clampTo_of_holds holds
  | none =>
    obtain ⟨d, hd⟩ := Option.isSome_iff_exists.mp onDesk
    obtain ⟨r, rect, holds⟩ := ActiveLayout.displayAt_holds (display.symm.trans hd)
    rw [hd, Option.bind_none, Option.bind_some, rect]
    exact s.clampTo_of_holds holds

/-- P judged at its own place stays. -/
theorem State.judge_still (slot : s.gu.pointerSlot = s.slotOfTile s.gu.tile) (released : Buttons) : s.judge released s.gu.px s.gu.py = (s.gu.px, s.gu.py) := by
  unfold State.judge
  rw [State.lock_still display onDesk tile, State.drag_still tile slot released, ← display, if_pos onDesk]
  exact ite_self _

end Still

/-! ### An arrival at the GU -/

/-- The arrival of a report's buttons and deltas (01, R4). -/
def State.arrivalOf (s : State) (b : Buttons) (dx dy wheel : Int) : Arrival := ⟨b &&& ~~~s.ciu.buttons, s.ciu.buttons &&& ~~~b, dx, dy, wheel⟩

/-- The state with a report's buttons as the physical set, those it released off the suppressed set (01, R4; 03, R46). -/
def State.withButtons (s : State) (b : Buttons) : State := { s with
  ciu := { s.ciu with buttons := b }
  gu := { s.gu with suppressed := s.gu.suppressed &&& ~~~(s.ciu.buttons &&& ~~~b) } }

theorem State.withButtons_same (s : State) : s.withButtons s.ciu.buttons = s := by
  have none : s.gu.suppressed &&& ~~~(s.ciu.buttons &&& ~~~s.ciu.buttons) = s.gu.suppressed := by
    rw [BitVec.and_not_self]
    exact BitVec.and_allOnes
  unfold State.withButtons
  rw [none]

theorem State.buttonArrival_of_display {s : State} {r : Rect} (h : s.cmp.active.firstRect = some r) (b : Buttons) (dx dy wheel : Int) :
    s.buttonArrival b dx dy wheel = (s.withButtons b).moveArrival (s.arrivalOf b dx dy wheel) := by
  unfold State.buttonArrival State.pointerArrival
  dsimp only [State.setGu_cmp, State.setCiu_cmp]
  rw [h]
  rfl

theorem State.buttonArrival_of_empty {s : State} (h : s.cmp.active.firstRect = none) (b : Buttons) (dx dy wheel : Int) :
    s.buttonArrival b dx dy wheel = { s.withButtons b with
      gu := { (s.withButtons b).gu with
        rx := 0, ry := 0, tile := none, display := none, pointerSlot := none
        suppressed := (s.withButtons b).gu.suppressed ||| (b &&& ~~~s.ciu.buttons) } } := by
  unfold State.buttonArrival State.pointerArrival
  dsimp only [State.setGu_cmp, State.setCiu_cmp]
  rw [h]
  rfl

theorem exec_pointerReport_bytes {s : State} (taking : s.taking = true) (ready : s.ciu.pointerPort = .ready) (b dx dy : Byte)
    (rest : List Byte) : exec (.pointerReport (b :: dx :: dy :: rest)) s =
      .next (s.buttonArrival (b.setWidth 5) (delta dx) (delta dy) ((rest.head?.map delta).getD 0)) := by
  rw [exec_pointerReport taking, State.pointerReports, if_pos ready]
  rfl

theorem exec_pointerReport_of_not_ready {s : State} (taking : s.taking = true) (h : s.ciu.pointerPort ≠ .ready) (bytes : List Byte) :
    exec (.pointerReport bytes) s = .next s := by
  rw [exec_pointerReport taking, State.pointerReports, if_neg h]

theorem pointerOf_of_short {bytes : List Byte} (h : bytes.length < 3) : pointerOf bytes = none := by
  match bytes with
  | [] | [_] | [_, _] => rfl
  | _ :: _ :: _ :: _ =>
    simp only [List.length_cons] at h
    omega

theorem exec_pointerReport_of_short {s : State} (taking : s.taking = true) {bytes : List Byte} (h : bytes.length < 3) :
    exec (.pointerReport bytes) s = .next s := by
  rw [exec_pointerReport taking, State.pointerReports, pointerOf_of_short h]
  exact congrArg _ (ite_self s)

/-! ### A still arrival (03, R47) -/

theorem computedMove_zero (v : Int) {r : Int} (h : -15 ≤ r) (h' : r ≤ 15) : computedMove 0 v r = 0 := by
  unfold computedMove
  rw [Int.zero_mul, Int.zero_add]
  have := tdiv_tmod_sixteen r
  omega

theorem State.locate_same {s : State} (display : s.gu.display = s.cmp.active.displayAt s.gu.px s.gu.py)
    (tile : s.gu.tile = s.cmp.active.tileAt s.gu.px s.gu.py) (slot : s.gu.pointerSlot = s.slotOfTile s.gu.tile) :
    s.moveTo s.gu.px s.gu.py = s := by
  have same : s.moveTo s.gu.px s.gu.py = { s with gu := { s.gu with
      tile := s.cmp.active.tileAt s.gu.px s.gu.py
      display := s.cmp.active.displayAt s.gu.px s.gu.py
      pointerSlot := s.slotOfTile (s.cmp.active.tileAt s.gu.px s.gu.py) } } := rfl
  rw [same, ← tile, ← display, ← slot]

/-- A still arrival in a place that delivers no stored output changes nothing. -/
theorem State.finishArrival_still {s : State} {a : Arrival} (still : a.still = true) (pressed : a.pressed = 0)
    (empty : Config.stillArrivalPays = false ∨ ∀ i n, s.gu.tile = some i → s.gu.pointerSlot = some n → s.tileMode i = .relative →
      s.storesOutput n = false) (mx my : Int) (crossed : Bool) : s.finishArrival a mx my crossed = s := by
  cases hd : s.delivers with
  | some p =>
    obtain ⟨i, n⟩ := p
    obtain ⟨tile, slot, -⟩ := State.delivers_eq_some.mp hd
    refine State.finishArrival_passesOver hd ?_ mx my crossed
    rw [State.passesOver, still, Bool.true_and, Bool.not_eq_true', Bool.and_eq_false_iff, Bool.and_eq_false_iff]
    by_cases mode : s.tileMode i = .relative
    · exact empty.elim .inr fun h => .inl (.inr (h i n tile slot mode))
    · exact .inl (.inl (decide_eq_false mode))
  | none =>
    have same : s.setGu { s.gu with suppressed := s.gu.suppressed ||| 0 } = s := by
      rw [show s.gu.suppressed ||| 0 = s.gu.suppressed from BitVec.or_zero]
      rfl
    unfold State.finishArrival State.consumeArrival
    rw [hd, pressed]
    dsimp only
    rw [same]
    split
    · exact if_neg fun h => h.1 rfl
    · rfl

theorem State.moveArrival_still {s : State} {a : Arrival} (still : a.still = true)
    (display : s.gu.display = s.cmp.active.displayAt s.gu.px s.gu.py) (onDesk : s.gu.display.isSome = true)
    (tile : s.gu.tile = s.cmp.active.tileAt s.gu.px s.gu.py) (slot : s.gu.pointerSlot = s.slotOfTile s.gu.tile)
    (hx : -4096 ≤ s.gu.px ∧ s.gu.px ≤ 4095) (hy : -4096 ≤ s.gu.py ∧ s.gu.py ≤ 4095) (hrx : -15 ≤ s.gu.rx ∧ s.gu.rx ≤ 15)
    (hry : -15 ≤ s.gu.ry ∧ s.gu.ry ≤ 15)
    (empty : Config.stillArrivalPays = false ∨ ∀ i n, s.gu.tile = some i → s.gu.pointerSlot = some n → s.tileMode i = .relative →
      s.storesOutput n = false) : s.moveArrival a = s := by
  obtain ⟨dx, dy, -, pressed, -⟩ : a.dx = 0 ∧ a.dy = 0 ∧ a.wheel = 0 ∧ a.pressed = 0 ∧ a.released = 0 := of_decide_eq_true still
  have place : s.arrivalPlace a = (s.gu.px, s.gu.py) := by
    rw [State.arrivalPlace, dx, dy, computedMove_zero _ hrx.1 hrx.2, computedMove_zero _ hry.1 hry.2, Int.add_zero, Int.add_zero,
      clampInto_of_mem (lo := Config.planeMin) (hi := Config.planeMax) hx.1 hx.2,
      clampInto_of_mem (lo := Config.planeMin) (hi := Config.planeMax) hy.1 hy.2]
    exact State.judge_still display onDesk tile slot a.released
  have residue {r p : Int} (h : -15 ≤ r ∧ r ≤ 15) : residueAfter (p - p) 0 s.tables.deskSpeed r = r := by
    rw [residueAfter, newResidue, computedMove_zero _ h.1 h.2, if_pos (Int.sub_self p)]
    omega
  have residues : s.residuesOf a = s := by
    rw [State.residuesOf, place, dx, dy, residue hrx, residue hry]
    rfl
  have arrival : s.arrivalSlot a = s.gu.pointerSlot := by
    rw [State.arrivalSlot, place, slot, tile]
  have crosses : s.crossTo s.gu.pointerSlot a.pressed = s := if_neg (by simp)
  rw [State.moveArrival_eq, residues, arrival, crosses, place, State.locate_same display tile slot]
  exact State.finishArrival_still still pressed empty _ _ _

/-- Settles O23. -/
theorem pointerReportsWithoutEffectOnP : Obligations.PointerReportsWithoutEffectOnP := by
  intro s taking
  refine ⟨fun bytes h => exec_pointerReport_of_not_ready taking h bytes, fun bytes h => exec_pointerReport_of_short taking h,
    fun b dx dy => ?_, ?_, fun b dx dy rest ready empty => ?_⟩
  · by_cases ready : s.ciu.pointerPort = .ready
    · rw [exec_pointerReport_bytes taking ready, exec_pointerReport_bytes taking ready]
      rfl
    · rw [exec_pointerReport_of_not_ready taking ready, exec_pointerReport_of_not_ready taking ready]
  · intro b ready same onDesk display tile slot hx hx' hy hy' hrx hrx' hry hry' empty
    obtain ⟨r, first⟩ := ActiveLayout.firstRect_of_displayAt (display ▸ onDesk)
    have still : (s.arrivalOf s.ciu.buttons 0 0 0).still = true := by
      simp [Arrival.still, State.arrivalOf]
    have small := empty.imp_right fun h i n hi hn mode => by
      obtain ⟨smallX, smallY⟩ := h i n hi hn mode
      show s.storesOutput n = false
      rw [State.storesOutput, decide_eq_false (by omega), decide_eq_false (by omega)]
      rfl
    rw [exec_pointerReport_bytes taking ready, same, State.buttonArrival_of_display first, State.withButtons_same]
    exact congrArg _ (State.moveArrival_still still display onDesk tile slot ⟨hx, hx'⟩ ⟨hy, hy'⟩ ⟨hrx, hrx'⟩ ⟨hry, hry'⟩ small)
  · rw [exec_pointerReport_bytes taking ready, State.buttonArrival_of_empty empty]
    rfl

end Sys2Proof.Machine


/-! Where a pointer arrival takes P (03, R47 to R50; 04, R63). -/

namespace Sys2Proof.Machine

/-! ### The drag rule and glide lock (03, R48 to R50) -/

/-- The drag rule holds a candidate place: buttons of the pointer slot stay delivered, and the place is neither the current tile
nor a delivering tile of the slot. -/
def State.Dragged (s : State) (released : Buttons) (x y : Int) : Prop :=
  ∃ n, (s.gu.pointerSlot = some n ∧ s.delivered n &&& ~~~released ≠ 0) ∧ ∀ j, s.cmp.active.tileAt x y = some j →
    s.gu.tile ≠ some j ∧ (s.tileSlot j ≠ some n ∨ s.tileMode j = .none)

theorem State.dragHolds_iff (s : State) (released : Buttons) (x y : Int) :
    s.dragHolds released x y = true ↔ s.Dragged released x y := by
  unfold State.dragHolds State.Dragged
  cases s.gu.pointerSlot with
  | none => simp
  | some n =>
    dsimp only
    by_cases kept : s.delivered n &&& ~~~released = 0
    · simp [kept]
    · have remain : ¬ s.delivered n &&& ~~~released = 0#5 := kept
      rw [if_neg kept]
      cases s.cmp.active.tileAt x y with
      | none => simp [remain]
      | some i => by_cases here : s.gu.tile = some i <;> simp [remain, here]

section Judge
variable {s : State} {released : Buttons} {x y : Int}

theorem State.judge_of_free (glide : s.gu.glideLock = false) (free : ¬ s.Dragged released x y)
    (onDesk : (s.cmp.active.displayAt x y).isSome = true) : s.judge released x y = (x, y) := by
  rw [State.judge, if_neg (by simp [glide]), if_neg (by rwa [State.dragHolds_iff]), if_pos onDesk]

theorem State.judge_of_outside (glide : s.gu.glideLock = false) (free : ¬ s.Dragged released x y)
    (outside : s.cmp.active.displayAt x y = none) {d : DisplayIx} {r : Rect} (display : s.gu.display = some d)
    (rect : (s.cmp.active.displays.get d).rect = some r) : s.judge released x y = (r.clampX x, r.clampY y) := by
  rw [State.judge, if_neg (by simp [glide]), if_neg (by rwa [State.dragHolds_iff]), if_neg (by simp [outside]), display,
    Option.bind_some, rect]
  rfl

theorem State.judge_of_held (held : s.gu.glideLock = true ∨ s.Dragged released x y) {i : TileIx} {r : Rect}
    (tile : s.gu.tile = some i) (placed : s.cmp.active.placed i = some r) : s.judge released x y = (r.clampX x, r.clampY y) := by
  have current : s.gu.tile.bind s.cmp.active.placed = some r := by
    rw [tile, Option.bind_some, placed]
  unfold State.judge
  by_cases glide : s.gu.glideLock = true
  · rw [if_pos glide, State.lockRect, current]
    rfl
  · rw [if_neg glide, if_pos ((s.dragHolds_iff released x y).mpr (held.resolve_left glide)), current]
    rfl

theorem State.judge_of_locked (glide : s.gu.glideLock = true) (tile : s.gu.tile = none) {d : DisplayIx} {r : Rect}
    (display : s.gu.display = some d) (rect : (s.cmp.active.displays.get d).rect = some r) :
    s.judge released x y = (r.clampX x, r.clampY y) := by
  rw [State.judge, if_pos glide, State.lockRect, tile, display, Option.bind_none, Option.bind_some, rect]
  rfl

end Judge

/-! ### P through an arrival (03, R47) -/

/-- P, its residues, and what depends on P (03, R45). -/
def State.position (s : State) : (Int × Int × Int × Int) × Option TileIx × Option DisplayIx × Option Slot :=
  ((s.gu.px, s.gu.py, s.gu.rx, s.gu.ry), s.gu.tile, s.gu.display, s.gu.pointerSlot)

theorem State.position_of_side {s t : State} (h : t.placeSide = s.placeSide) : t.position = s.position := by
  simp only [State.placeSide, Prod.mk.injEq] at h
  obtain ⟨⟨px, py, rx, ry⟩, ⟨tile, display, slot⟩, -⟩ := h
  rw [State.position, px, py, rx, ry, tile, display, slot]
  rfl

theorem State.handPointer_placeSide (s : State) (n : Slot) (e : Entry) : (s.handPointer n e).placeSide = s.placeSide := by
  have told : ((s.setDelivered n s.deliverableButtons).handOver n e).placeSide = s.placeSide :=
    (State.handOver_placeSide _ n e).trans rfl
  unfold State.handPointer
  dsimp only
  split
  · exact told
  · rw [State.wakeOnInput_placeSide, told]

theorem State.deliverArrival_position (s : State) (i : TileIx) (n : Slot) (mx my wheel : Int) (entered : Bool) :
    (s.deliverArrival i n mx my wheel entered).position = s.position := by
  unfold State.deliverArrival
  dsimp only
  split
  · split
    · exact State.position_of_side (s.handPointer_placeSide n _)
    · rfl
  · split
    · exact (State.position_of_side (State.handPointer_placeSide _ n _)).trans rfl
    · rfl
  · rfl

theorem State.consumeArrival_position (s : State) (pressed : Buttons) : (s.consumeArrival pressed).position = s.position := by
  unfold State.consumeArrival
  dsimp only
  split
  · split
    · exact (State.position_of_side (State.wakeOnInput_placeSide _ _)).trans rfl
    · rfl
  · rfl

theorem State.finishArrival_position (s : State) (a : Arrival) (mx my : Int) (crossed : Bool) :
    (s.finishArrival a mx my crossed).position = s.position := by
  unfold State.finishArrival
  split
  · split
    · rfl
    · exact s.deliverArrival_position _ _ _ _ _ _
  · exact s.consumeArrival_position _

theorem State.crossing_position (s : State) (x y : Option Slot) (pressed : Buttons) :
    (s.crossing x y pressed).position = s.position := by
  have left := State.position_of_side (s.releaseButtons_placeSide x)
  unfold State.crossing
  dsimp only
  split
  · exact left
  · split
    · exact (State.position_of_side (State.focusChange_placeSide _ _)).trans left
    · exact left

theorem State.crossTo_position (s : State) (t : Option Slot) (pressed : Buttons) : (s.crossTo t pressed).position = s.position := by
  unfold State.crossTo
  split
  · exact s.crossing_position _ _ _
  · rfl

/-- P goes to the place judged, with the residues of what it moved. -/
theorem State.moveArrival_place (s : State) (a : Arrival) :
    (s.moveArrival a).gu.px = (s.arrivalPlace a).1 ∧ (s.moveArrival a).gu.py = (s.arrivalPlace a).2 ∧
    (s.moveArrival a).gu.rx = residueAfter ((s.arrivalPlace a).1 - s.gu.px) a.dx s.tables.deskSpeed s.gu.rx ∧
    (s.moveArrival a).gu.ry = residueAfter ((s.arrivalPlace a).2 - s.gu.py) a.dy s.tables.deskSpeed s.gu.ry := by
  have crossed := (s.residuesOf a).crossTo_position (s.arrivalSlot a) a.pressed
  have finished := State.finishArrival_position (((s.residuesOf a).crossTo (s.arrivalSlot a) a.pressed).moveTo (s.arrivalPlace a).1
    (s.arrivalPlace a).2) a ((s.arrivalPlace a).1 - s.gu.px) ((s.arrivalPlace a).2 - s.gu.py) (decide (s.arrivalSlot a ≠ s.gu.pointerSlot))
  rw [← State.moveArrival_eq] at finished
  generalize (s.residuesOf a).crossTo (s.arrivalSlot a) a.pressed = u at crossed finished
  simp only [State.position, Prod.mk.injEq] at crossed finished
  obtain ⟨⟨-, -, rx, ry⟩, -⟩ := crossed
  obtain ⟨⟨px, py, rx', ry'⟩, -⟩ := finished
  exact ⟨px, py, rx'.trans rx, ry'.trans ry⟩

/-- Settles O21. -/
theorem pointerMotionMovesP : Obligations.PointerMotionMovesP := by
  intro s b dx dy rest first taking ready hfirst cx cy x y released dragged clampedInto held
  obtain ⟨w, hw⟩ : ∃ w, w = (rest.head?.map delta).getD 0 := ⟨_, rfl⟩
  obtain ⟨px, py, rx, ry⟩ := (s.withButtons (b.setWidth 5)).moveArrival_place (s.arrivalOf (b.setWidth 5) (delta dx) (delta dy) w)
  have place : (s.withButtons (b.setWidth 5)).arrivalPlace (s.arrivalOf (b.setWidth 5) (delta dx) (delta dy) w) =
      s.judge released x y := rfl
  have side := (s.withButtons (b.setWidth 5)).moveArrival_consoleSide (s.arrivalOf (b.setWidth 5) (delta dx) (delta dy) w)
  have outer := (s.withButtons (b.setWidth 5)).moveArrival_outer (s.arrivalOf (b.setWidth 5) (delta dx) (delta dy) w)
  rw [place] at px py rx ry
  refine ⟨_, (exec_pointerReport_bytes taking ready b dx dy rest).trans
    (congrArg _ ((State.buttonArrival_of_display hfirst _ _ _ _).trans (by rw [← hw]))), ?_⟩
  generalize (s.withButtons (b.setWidth 5)).moveArrival (s.arrivalOf (b.setWidth 5) (delta dx) (delta dy) w) = t at *
  have clamped {r : Rect} (h : s.judge released x y = (r.clampX x, r.clampY y)) : clampedInto t r :=
    ⟨px.trans (congrArg Prod.fst h), py.trans (congrArg Prod.snd h)⟩
  refine ⟨congrArg (·.1.2.2.2.2) side, fun glide free onDesk => ?_, fun glide free outside d r display rect =>
      clamped (State.judge_of_outside glide free outside display rect), fun locked i r tile placed =>
      clamped (State.judge_of_held locked tile placed), fun glide tile d r display rect =>
      clamped (State.judge_of_locked glide tile display rect), ?_, ?_, congrArg (·.1.2.2.1) side, congrArg (·.1.2.2.2.1) side,
    congrArg (·.2.1) side, outer⟩
  · rw [px, py, State.judge_of_free glide free onDesk]
    exact ⟨rfl, rfl⟩
  · rw [rx, px]
    rfl
  · rw [ry, py]
    rfl

end Sys2Proof.Machine


/-! What a pointer arrival hands over within the tiles of one slot (03, R53 to R56; 04, R69, R70). -/

namespace Sys2Proof.Machine

/-- An entry handed to a queue with room is taken. -/
theorem takeEntry_of_room (last : Buttons) {q : List Entry} (room : q.length < 16) (e : Entry) :
    ∃ q', takeEntry last q e = some q' ∧ q'.length ≤ q.length + 1 := by
  cases h : mergeNewest q e with
  | none => exact ⟨q ++ [e], by rw [takeEntry_of_no_merge h, if_pos room], by simp⟩
  | some q' =>
    obtain ⟨l, x, m, rfl, -, rfl⟩ := mergeNewest_eq_some h
    refine ⟨l ++ [m], ?_, by simp⟩
    rw [takeEntry, h]

/-- The port of slot `n` after an entry is handed to it, where it is taken. -/
def State.handedPort (s : State) (n : Slot) (e : Entry) : Port :=
  { s.port n with queue := (takeEntry (s.port n).lastButtons (s.port n).queue e).getD (s.port n).queue }

/-- What delivery to slot `n` leaves beside the slot's port, T6, delivered buttons and accumulators, and P. -/
structure State.Beside (n : Slot) (s u : State) : Prop where
  suppressed : u.gu.suppressed = s.gu.suppressed
  ports : ∀ m, m ≠ n → u.port m = s.port m
  timers : ∀ j, j ≠ .t6 n → u.timer j = s.timer j
  fc : u.fc = s.fc
  wakes : u.wakes = s.wakes
  tables : u.tables = s.tables
  cmp : u.cmp = s.cmp
  atu : u.atu = s.atu
  mgi : u.mgi = s.mgi

theorem State.Beside.refl (n : Slot) (s : State) : s.Beside n s := ⟨rfl, fun _ _ => rfl, fun _ _ => rfl, rfl, rfl, rfl, rfl, rfl, rfl⟩

theorem State.Beside.trans {n : Slot} {s t u : State} (h : s.Beside n t) (h' : t.Beside n u) : s.Beside n u :=
  ⟨h'.suppressed.trans h.suppressed, fun m hm => (h'.ports m hm).trans (h.ports m hm), fun j hj => (h'.timers j hj).trans (h.timers j hj),
    h'.fc.trans h.fc, h'.wakes.trans h.wakes, h'.tables.trans h.tables, h'.cmp.trans h.cmp, h'.atu.trans h.atu, h'.mgi.trans h.mgi⟩

/-- An entry handed to a slot that is not OFF with room in its queue. -/
theorem State.handOver_of_room {s : State} {n : Slot} (on : s.link n ≠ .off) (room : (s.port n).queue.length < 16) (e : Entry) :
    s.Beside n (s.handOver n e) ∧ (s.handOver n e).port n = s.handedPort n e ∧ (s.handOver n e).gu = s.gu := by
  obtain ⟨q, hq, -⟩ := takeEntry_of_room (s.port n).lastButtons room e
  have eq : s.handOver n e = s.settlePort n (s.handedPort n e) := by
    rw [State.handedPort, hq]
    rw [State.handOver, if_neg on, hq]
    rfl
  rw [eq]
  exact ⟨⟨congrArg Gu.suppressed (s.settlePort_gu ..), fun m hm => s.settlePort_port_ne _ hm, fun j hj => s.settlePort_timer n _ j hj,
    s.settlePort_fc .., s.settlePort_wakes .., s.settlePort_tables .., s.settlePort_cmp .., s.settlePort_atu .., s.settlePort_mgi ..⟩,
    s.settlePort_port_same .., s.settlePort_gu ..⟩

/-- The state that hands a made entry to the slot, before the trigger it may give. -/
def State.toldPointer (s : State) (n : Slot) (e : Entry) : State := (s.setDelivered n s.deliverableButtons).handOver n e

/-- An entry that adds a button gives a slot that is not ACTIVE the trigger its record asks for (03, R55). -/
def State.AsksForWake (s : State) (n : Slot) : Prop :=
  s.link n ≠ .active ∧ s.deliverableButtons &&& ~~~s.delivered n ≠ 0 ∧ (s.slotRecord n).wakeOnInput = true

section Hand
variable {s : State} {n : Slot} (on : s.link n ≠ .off) (room : (s.port n).queue.length < 16) (e : Entry)
include on room

theorem State.toldPointer_spec : s.Beside n (s.toldPointer n e) ∧ (s.toldPointer n e).port n = s.handedPort n e ∧
    (s.toldPointer n e).delivered n = s.deliverableButtons ∧ (s.toldPointer n e).gu.accX = s.gu.accX ∧
    (s.toldPointer n e).gu.accY = s.gu.accY := by
  obtain ⟨beside, port, gu⟩ := State.handOver_of_room (s := s.setDelivered n s.deliverableButtons) on room e
  refine ⟨⟨beside.suppressed, beside.ports, beside.timers, beside.fc, beside.wakes, beside.tables, beside.cmp, beside.atu, beside.mgi⟩,
    port, ?_, (congrArg Gu.accX gu).trans rfl, (congrArg Gu.accY gu).trans rfl⟩
  exact (congrArg (fun g : Gu => g.delivered.get n) gu).trans (Table.get_put_same ..)

/-- A state handed a pointer entry with the trigger that it gives, where it gives one. -/
theorem State.handPointer_cases : (s.AsksForWake n ∧ s.handPointer n e = ((s.toldPointer n e).trigger n .input).1) ∨
    (¬ s.AsksForWake n ∧ s.handPointer n e = s.toldPointer n e) := by
  obtain ⟨beside, port, -⟩ := State.toldPointer_spec on room e
  have link : (s.toldPointer n e).link n = s.link n := (congrArg Port.link port).trans rfl
  have record : (s.toldPointer n e).slotRecord n = s.slotRecord n := congrArg (fun t : Tables => t.slots.get n) beside.tables
  have eq : s.handPointer n e = if s.deliverableButtons &&& ~~~s.delivered n = 0 then s.toldPointer n e
      else (s.toldPointer n e).wakeOnInput n := rfl
  rw [eq]
  by_cases added : s.deliverableButtons &&& ~~~s.delivered n = 0
  · exact .inr ⟨fun h => h.2.1 added, if_pos added⟩
  · rw [if_neg added, State.wakeOnInput, link, record]
    by_cases asks : s.link n ≠ .active ∧ (s.slotRecord n).wakeOnInput = true
    · exact .inl ⟨⟨asks.1, added, asks.2⟩, if_pos asks⟩
    · exact .inr ⟨fun h => asks ⟨h.1, h.2.2⟩, if_neg asks⟩

end Hand

/-! ### The arrival at a delivering tile -/

/-- What the delivery of an arrival hands to slot `n` through tile `i`, before the trigger it may give: `u` from `s`. -/
structure State.Delivers (s : State) (a : Arrival) (i : TileIx) (n : Slot) (mx my : Int) (crossed : Bool) (u : State) : Prop where
  beside : s.Beside n u
  delivered : u.delivered n = if s.passesOver a i n = true then s.delivered n else s.deliverableButtons
  absolute : s.tileMode i = .absolute → u.port n =
    if s.passesOver a i n = true ∨ (mx = 0 ∧ my = 0 ∧ s.deliverableButtons = s.delivered n ∧ a.wheel = 0 ∧ crossed = false) then s.port n
    else s.handedPort n (.abs s.deliverableButtons (s.translate i s.gu.px s.gu.py).1 (s.translate i s.gu.px s.gu.py).2 a.wheel)
  relative : s.tileMode i = .relative →
    let ox := relativeOutput (s.gu.accX.get n) mx (s.slotRecord n).gain
    let oy := relativeOutput (s.gu.accY.get n) my (s.slotRecord n).gain
    u.port n = (if s.passesOver a i n = true ∨ (ox = 0 ∧ oy = 0 ∧ s.deliverableButtons = s.delivered n ∧ a.wheel = 0) then s.port n
      else s.handedPort n (.rel s.deliverableButtons ox oy a.wheel)) ∧
    u.gu.accX.get n = (if s.passesOver a i n = true then s.gu.accX.get n
      else newAccumulator (s.gu.accX.get n) mx (s.slotRecord n).gain) ∧
    u.gu.accY.get n = (if s.passesOver a i n = true then s.gu.accY.get n
      else newAccumulator (s.gu.accY.get n) my (s.slotRecord n).gain)

/-- The delivery with the trigger it gives. -/
def State.DeliversTo (s : State) (a : Arrival) (i : TileIx) (n : Slot) (mx my : Int) (crossed : Bool) (t : State) : Prop :=
  ∃ u, s.Delivers a i n mx my crossed u ∧ (((¬ s.passesOver a i n = true ∧ s.AsksForWake n) ∧ t = (u.trigger n .input).1) ∨
    (¬ (¬ s.passesOver a i n = true ∧ s.AsksForWake n) ∧ t = u))

section Deliver
variable {s : State} {a : Arrival} {i : TileIx} {n : Slot} (mx my : Int) (crossed : Bool)

theorem State.deliversTo_of_passesOver (h : s.passesOver a i n = true) : s.DeliversTo a i n mx my crossed s :=
  ⟨s, ⟨.refl n s, (if_pos h).symm, fun _ => (if_pos (.inl h)).symm, fun _ => ⟨(if_pos (.inl h)).symm, (if_pos h).symm, (if_pos h).symm⟩⟩,
    .inr ⟨fun asks => asks.1 h, rfl⟩⟩

variable (on : s.link n ≠ .off) (room : (s.port n).queue.length < 16) (h : ¬ s.passesOver a i n = true)
include on room h

theorem State.deliversTo_absolute (mode : s.tileMode i = .absolute) :
    s.DeliversTo a i n mx my crossed (s.deliverArrival i n mx my a.wheel crossed) := by
  have eq : s.deliverArrival i n mx my a.wheel crossed =
      if mx ≠ 0 ∨ my ≠ 0 ∨ s.deliverableButtons ≠ s.delivered n ∨ a.wheel ≠ 0 ∨ crossed = true then
        s.handPointer n (.abs s.deliverableButtons (s.translate i s.gu.px s.gu.py).1 (s.translate i s.gu.px s.gu.py).2 a.wheel)
      else s := by
    unfold State.deliverArrival
    rw [mode]
  rw [eq]
  by_cases made : mx ≠ 0 ∨ my ≠ 0 ∨ s.deliverableButtons ≠ s.delivered n ∨ a.wheel ≠ 0 ∨ crossed = true
  · rw [if_pos made]
    obtain ⟨beside, port, delivered, -⟩ := State.toldPointer_spec on room
      (.abs s.deliverableButtons (s.translate i s.gu.px s.gu.py).1 (s.translate i s.gu.px s.gu.py).2 a.wheel)
    refine ⟨_, ⟨beside, delivered.trans (if_neg h).symm, fun _ => port.trans (if_neg ?_).symm, fun other => ?_⟩, ?_⟩
    · rintro (passes | ⟨rfl, rfl, same, wheel, rfl⟩)
      · exact h passes
      · simp [same, wheel] at made
    · exact nomatch mode.symm.trans other
    · exact (State.handPointer_cases on room _).imp (fun ⟨asks, eq⟩ => ⟨⟨h, asks⟩, eq⟩) fun ⟨asks, eq⟩ => ⟨fun asks' => asks asks'.2, eq⟩
  · rw [if_neg made]
    simp only [not_or, not_not, Bool.not_eq_true] at made
    obtain ⟨hx, hy, same, wheel, stays⟩ := made
    refine ⟨s, ⟨.refl n s, ?_, fun _ => (if_pos (.inr ⟨hx, hy, same, wheel, stays⟩)).symm, fun other => ?_⟩, .inr ⟨fun asks => ?_, rfl⟩⟩
    · rw [if_neg h, same]
    · exact nomatch mode.symm.trans other
    · exact asks.2.2.1 (by rw [same]; simp)

theorem State.deliversTo_relative (mode : s.tileMode i = .relative) :
    s.DeliversTo a i n mx my crossed (s.deliverArrival i n mx my a.wheel crossed) := by
  obtain ⟨ox, hox⟩ : ∃ ox, ox = relativeOutput (s.gu.accX.get n) mx (s.slotRecord n).gain := ⟨_, rfl⟩
  obtain ⟨oy, hoy⟩ : ∃ oy, oy = relativeOutput (s.gu.accY.get n) my (s.slotRecord n).gain := ⟨_, rfl⟩
  obtain ⟨fed, hfed⟩ : ∃ fed, fed = (s.feedRelative n mx my).1 := ⟨_, rfl⟩
  have eq : s.deliverArrival i n mx my a.wheel crossed =
      if ox ≠ 0 ∨ oy ≠ 0 ∨ s.deliverableButtons ≠ s.delivered n ∨ a.wheel ≠ 0 then
        fed.handPointer n (.rel s.deliverableButtons ox oy a.wheel) else fed := by
    unfold State.deliverArrival
    rw [mode, hox, hoy, hfed]
    rfl
  have accX : fed.gu.accX.get n = newAccumulator (s.gu.accX.get n) mx (s.slotRecord n).gain := by
    rw [hfed]
    exact Table.get_put_same ..
  have accY : fed.gu.accY.get n = newAccumulator (s.gu.accY.get n) my (s.slotRecord n).gain := by
    rw [hfed]
    exact Table.get_put_same ..
  have beside : s.Beside n fed := by
    rw [hfed]
    exact ⟨rfl, fun _ _ => rfl, fun _ _ => rfl, rfl, rfl, rfl, rfl, rfl, rfl⟩
  have port : fed.port n = s.port n := by
    rw [hfed]
    rfl
  have delivered : fed.delivered n = s.delivered n := by
    rw [hfed]
    rfl
  have buttons : fed.deliverableButtons = s.deliverableButtons := by
    rw [hfed]
    rfl
  have asksFed : fed.AsksForWake n ↔ s.AsksForWake n := by
    rw [hfed]
    exact Iff.rfl
  have link : fed.link n ≠ .off := by
    rw [State.link, port]
    exact on
  rw [eq]
  clear eq
  by_cases made : ox ≠ 0 ∨ oy ≠ 0 ∨ s.deliverableButtons ≠ s.delivered n ∨ a.wheel ≠ 0
  · rw [if_pos made]
    obtain ⟨beside', port', delivered', accX', accY'⟩ := State.toldPointer_spec (s := fed) link (by rwa [port])
      (.rel s.deliverableButtons ox oy a.wheel)
    refine ⟨_, ⟨beside.trans beside', ?_, (fun other => nomatch mode.symm.trans other), fun _ => ⟨?_, ?_, ?_⟩⟩, ?_⟩
    · rw [delivered', buttons, if_neg h]
    · rw [port', ← hox, ← hoy, if_neg, State.handedPort, State.handedPort, port]
      rintro (passes | ⟨hx, hy, same, wheel⟩)
      · exact h passes
      · simp [hx, hy, same, wheel] at made
    · rw [accX', accX, if_neg h]
    · rw [accY', accY, if_neg h]
    · rw [← asksFed]
      exact (State.handPointer_cases (s := fed) link (by rwa [port]) _).imp (fun ⟨asks, eq⟩ => ⟨⟨h, asks⟩, eq⟩)
        fun ⟨asks, eq⟩ => ⟨fun asks' => asks asks'.2, eq⟩
  · rw [if_neg made]
    simp only [not_or, not_not] at made
    refine ⟨fed, ⟨beside, ?_, (fun other => nomatch mode.symm.trans other), fun _ => ⟨?_, ?_, ?_⟩⟩, .inr ⟨fun asks => ?_, rfl⟩⟩
    · rw [delivered, if_neg h, made.2.2.1]
    · rw [port, ← hox, ← hoy, if_pos (.inr made)]
    · rw [accX, if_neg h]
    · rw [accY, if_neg h]
    · exact asks.2.2.1 (by rw [made.2.2.1]; simp)

end Deliver

/-- An arrival delivered through a delivering tile to a slot with room in its queue (03, R53 to R56). -/
theorem State.finishArrival_deliversTo {s : State} {a : Arrival} {i : TileIx} {n : Slot} (hd : s.delivers = some (i, n))
    (room : (s.port n).queue.length < 16) (mx my : Int) (crossed : Bool) :
    s.DeliversTo a i n mx my crossed (s.finishArrival a mx my crossed) := by
  obtain ⟨-, -, delivering, -, on⟩ := State.delivers_eq_some.mp hd
  have eq : s.finishArrival a mx my crossed =
      if s.passesOver a i n = true then s else s.deliverArrival i n mx my a.wheel crossed := by
    rw [State.finishArrival, hd]
  rw [eq]
  by_cases passes : s.passesOver a i n = true
  · rw [if_pos passes]
    exact State.deliversTo_of_passesOver mx my crossed passes
  · rw [if_neg passes]
    cases mode : s.tileMode i with
    | none => exact absurd mode delivering
    | absolute => exact State.deliversTo_absolute mx my crossed on room passes mode
    | relative => exact State.deliversTo_relative mx my crossed on room passes mode

end Sys2Proof.Machine


/-! Buttons stay suppressed through hand-overs, triggers and focus changes (03, R46, R60). -/

namespace Sys2Proof.Machine

/-- The suppressed buttons stay, but for more of them. -/
def State.Covers (s t : State) : Prop := ∃ b, t.gu.suppressed = s.gu.suppressed ||| b

namespace State.Covers
variable {s t u : State}

theorem of_same (h : t.gu.suppressed = s.gu.suppressed) : s.Covers t := ⟨0, h.trans BitVec.or_zero.symm⟩

theorem refl (s : State) : s.Covers s := of_same rfl

theorem trans (h : s.Covers t) (h' : t.Covers u) : s.Covers u := by
  obtain ⟨b, hb⟩ := h
  obtain ⟨c, hc⟩ := h'
  exact ⟨b ||| c, by rw [hc, hb, BitVec.or_assoc]⟩

theorem handOver (s : State) (n : Slot) (e : Entry) : s.Covers (s.handOver n e) := (s.handOver_hands n e).suppressed

theorem releaseFlush (s : State) (n : Slot) : s.Covers (s.releaseFlush n) :=
  ⟨s.gu.delivered.get n, congrArg Gu.suppressed (s.releaseFlush_gu n)⟩

theorem enterFailed (s : State) (n : Slot) : s.Covers (s.enterFailed n) := by
  have failing : s.Covers (s.failing n) := of_same rfl
  cases policy : (s.slotRecord n).policy with
  | keep => rwa [State.enterFailed_of_keep policy]
  | discard =>
    rw [State.enterFailed_of_discard policy]
    exact failing.trans (releaseFlush _ n)

theorem wakeExhausted (s : State) (n : Slot) : s.Covers (s.wakeExhausted n) := by
  unfold State.wakeExhausted
  split
  · exact of_same rfl
  · exact enterFailed s n

theorem enterSignal (s : State) (n : Slot) : s.Covers (s.enterSignal n) := by
  by_cases can : (s.port n).canSignal = true
  · rw [State.enterSignal_of_canSignal can]
    exact of_same (congrArg Gu.suppressed (State.settlePort_gu ..))
  · by_cases active : s.link n = .active
    · rw [State.enterSignal_of_active active]
      exact of_same rfl
    · rw [State.enterSignal_of_refused active (by simpa using can)]
      exact wakeExhausted s n

theorem startSequence (s : State) (n : Slot) : s.Covers (s.startSequence n).1 := by
  have lineOr : s.Covers (if (s.slotRecord n).wakeLineWired = true then (s.enterLinePulse n, WakeOutcome.started)
      else (s.enterFailed n, .failed)).1 := by
    split
    · exact of_same rfl
    · exact enterFailed s n
  unfold State.startSequence
  cases s.link n with
  | active => exact refl s
  | resuming => exact refl s
  | attached => exact of_same rfl
  | off => exact lineOr
  | suspended =>
    cases permitted : (s.port n).remoteWake with
    | true => exact enterSignal s n
    | false => exact lineOr

theorem trigger (s : State) (n : Slot) (c : Cause) : s.Covers (s.trigger n c).1 := by
  rcases s.trigger_cases n c with ⟨-, h⟩ | ⟨-, -, h⟩ | ⟨-, -, -, h⟩ <;> rw [h]
  · exact refl s
  · exact refl s
  · exact startSequence (s.setWake n _) n

theorem wakeOnInput (s : State) (n : Slot) : s.Covers (s.wakeOnInput n) := by
  unfold State.wakeOnInput
  split
  · exact trigger s n _
  · exact refl s

theorem wakeOnFocus (s : State) (n : Slot) : s.Covers (s.wakeOnFocus n) := by
  unfold State.wakeOnFocus
  split
  · exact trigger s n _
  · exact refl s

theorem leaveFocus (s : State) (f : Option Slot) : s.Covers (s.leaveFocus f) := by
  cases f with
  | none => exact refl s
  | some m => exact handOver (s.suppressHeld m) m _

theorem focusChange (s : State) (t : Option Slot) : s.Covers (s.focusChange t) := by
  have entered : s.Covers ((s.leaveFocus s.fc.focus).enterFocus t) := leaveFocus s s.fc.focus
  unfold State.focusChange
  split
  · exact refl s
  · cases t with
    | none => exact entered
    | some m => exact entered.trans (wakeOnFocus _ m)

theorem handPointer (s : State) (n : Slot) (e : Entry) : s.Covers (s.handPointer n e) := by
  have told : s.Covers ((s.setDelivered n s.deliverableButtons).handOver n e) := handOver (s.setDelivered n _) n e
  unfold State.handPointer
  dsimp only
  split
  · exact told
  · exact told.trans (wakeOnInput _ n)

theorem deliverArrival (s : State) (i : TileIx) (n : Slot) (mx my wheel : Int) (entered : Bool) :
    s.Covers (s.deliverArrival i n mx my wheel entered) := by
  unfold State.deliverArrival
  dsimp only
  split
  · split
    · exact handPointer s n _
    · exact refl s
  · split
    · exact handPointer (s.feedRelative n mx my).1 n _
    · exact of_same rfl
  · exact refl s

theorem consumeArrival (s : State) (pressed : Buttons) : s.Covers (s.consumeArrival pressed) := by
  have consumed : s.Covers (s.setGu { s.gu with suppressed := s.gu.suppressed ||| pressed }) := ⟨pressed, rfl⟩
  unfold State.consumeArrival
  dsimp only
  split
  · split
    · exact consumed.trans (wakeOnInput _ _)
    · exact consumed
  · exact consumed

theorem finishArrival (s : State) (a : Arrival) (mx my : Int) (crossed : Bool) : s.Covers (s.finishArrival a mx my crossed) := by
  unfold State.finishArrival
  split
  · split
    · exact refl s
    · exact deliverArrival s _ _ _ _ _ _
  · exact consumeArrival s _

end State.Covers

/-! ### The focus, and other slots, through a delivery -/

theorem State.handPointer_focusSide (s : State) (n : Slot) (e : Entry) : (s.handPointer n e).focusSide = s.focusSide := by
  have told : ((s.setDelivered n s.deliverableButtons).handOver n e).focusSide = s.focusSide := State.handOver_focusSide _ n e
  unfold State.handPointer
  dsimp only
  split
  · exact told
  · rw [State.wakeOnInput_focusSide, told]

theorem State.deliverArrival_focusSide (s : State) (i : TileIx) (n : Slot) (mx my wheel : Int) (entered : Bool) :
    (s.deliverArrival i n mx my wheel entered).focusSide = s.focusSide := by
  unfold State.deliverArrival
  dsimp only
  split
  · split
    · exact s.handPointer_focusSide n _
    · rfl
  · split
    · exact State.handPointer_focusSide (s.feedRelative n mx my).1 n _
    · rfl
  · rfl

theorem State.consumeArrival_focusSide (s : State) (pressed : Buttons) : (s.consumeArrival pressed).focusSide = s.focusSide := by
  unfold State.consumeArrival
  dsimp only
  split
  · split
    · exact State.wakeOnInput_focusSide _ _
    · rfl
  · rfl

theorem State.finishArrival_focusSide (s : State) (a : Arrival) (mx my : Int) (crossed : Bool) :
    (s.finishArrival a mx my crossed).focusSide = s.focusSide := by
  unfold State.finishArrival
  split
  · split
    · rfl
    · exact s.deliverArrival_focusSide _ _ _ _ _ _
  · exact s.consumeArrival_focusSide _

end Sys2Proof.Machine


/-! A crossing from one pointer slot to another (03, R52). -/

namespace Sys2Proof.Machine

/-! ### The slot left -/

namespace State.Spares
variable {n : Slot}

theorem wakeOnInput (s : State) {m : Slot} (hm : n ≠ m) : s.Spares n (s.wakeOnInput m) := by
  unfold State.wakeOnInput
  split
  · exact trigger s _ hm
  · exact refl s

theorem handPointer (s : State) {m : Slot} (hm : n ≠ m) (e : Entry) : s.Spares n (s.handPointer m e) := by
  have counted : s.Spares n (s.setDelivered m s.deliverableButtons) := of_gu s _ (fun a => (Table.get_put_ne _ _ hm).trans a) id
  have told := counted.trans (handOver _ m e)
  unfold State.handPointer
  dsimp only
  split
  · exact told
  · exact told.trans (wakeOnInput _ hm)

theorem deliverArrival (s : State) (i : TileIx) {m : Slot} (hm : n ≠ m) (mx my wheel : Int) (entered : Bool) :
    s.Spares n (s.deliverArrival i m mx my wheel entered) := by
  have fed : s.Spares n (s.feedRelative m mx my).1 :=
    of_gu s _ id fun ⟨hx, hy⟩ => ⟨(Table.get_put_ne _ _ hm).trans hx, (Table.get_put_ne _ _ hm).trans hy⟩
  unfold State.deliverArrival
  dsimp only
  split
  · split
    · exact handPointer s hm _
    · exact refl s
  · split
    · exact fed.trans (handPointer _ hm _)
    · exact fed
  · exact refl s

theorem consumeArrival (s : State) (other : s.gu.pointerSlot ≠ some n) (pressed : Buttons) : s.Spares n (s.consumeArrival pressed) := by
  have consumed : s.Spares n (s.setGu { s.gu with suppressed := s.gu.suppressed ||| pressed }) := of_gu s _ id id
  unfold State.consumeArrival
  dsimp only
  split
  next m _ slot =>
    split
    · refine consumed.trans (wakeOnInput _ fun h => other ?_)
      rw [h]
      exact slot
    · exact consumed
  · exact consumed

/-- An arrival finished at another slot's place. -/
theorem finishArrival (s : State) (other : s.gu.pointerSlot ≠ some n) (a : Arrival) (mx my : Int) (crossed : Bool) :
    s.Spares n (s.finishArrival a mx my crossed) := by
  unfold State.finishArrival
  split
  next i m hd =>
    split
    · exact refl s
    · obtain ⟨-, slot, -⟩ := State.delivers_eq_some.mp hd
      exact deliverArrival s i (by rintro rfl; exact other slot) _ _ _ _
  · exact consumeArrival s other _

end State.Spares

/-- Outside a RELATIVE tile the accumulators stay. -/
theorem State.finishArrival_accumulators {s : State} (other : ∀ i, s.gu.tile = some i → s.tileMode i ≠ .relative) (a : Arrival)
    (mx my : Int) (crossed : Bool) : (s.finishArrival a mx my crossed).gu.accX = s.gu.accX ∧
      (s.finishArrival a mx my crossed).gu.accY = s.gu.accY := by
  have same {t u : State} (h : t.placeSide = u.placeSide) : t.gu.accX = u.gu.accX ∧ t.gu.accY = u.gu.accY := by
    obtain ⟨-, -, -, -, hx, hy⟩ := State.place_of_side h
    exact ⟨hx, hy⟩
  unfold State.finishArrival
  split
  next i m hd =>
    obtain ⟨tile, -, -⟩ := State.delivers_eq_some.mp hd
    split
    · exact ⟨rfl, rfl⟩
    · unfold State.deliverArrival
      dsimp only
      split
      · split
        · exact same (s.handPointer_placeSide _ _)
        · exact ⟨rfl, rfl⟩
      next mode => exact absurd mode (other i tile)
      · exact ⟨rfl, rfl⟩
  · unfold State.consumeArrival
    dsimp only
    split
    · split
      · exact same ((State.wakeOnInput_placeSide _ _).trans rfl)
      · exact ⟨rfl, rfl⟩
    · exact ⟨rfl, rfl⟩

end Sys2Proof.Machine


/-! What a crossing leaves, whatever the queues hold (03, R52). -/

namespace Sys2Proof.Machine

theorem State.Covers.kept_off {s t : State} {x : Buttons} (h : s.Covers t) (off : x &&& ~~~s.gu.suppressed = 0) :
    x &&& ~~~t.gu.suppressed = 0 := by
  obtain ⟨b, hb⟩ := h
  rw [hb, BitVec.not_or, ← BitVec.and_assoc, off]
  exact BitVec.zero_and

/-- The slot left by a crossing: its release entry, and the buttons held on suppressed. -/
def State.leavesTo (s : State) (pressed : Buttons) : State :=
  (s.releaseButtons s.gu.pointerSlot).setGu { (s.releaseButtons s.gu.pointerSlot).gu with
    suppressed := (s.releaseButtons s.gu.pointerSlot).gu.suppressed |||
      ((s.releaseButtons s.gu.pointerSlot).ciu.buttons &&& ~~~pressed) }

theorem State.leavesTo_follow (s : State) (pressed : Buttons) : (s.leavesTo pressed).fc.follow = s.fc.follow :=
  congrArg Prod.snd (s.releaseButtons_focusSide s.gu.pointerSlot)

theorem State.leavesTo_focus (s : State) (pressed : Buttons) : (s.leavesTo pressed).fc.focus = s.fc.focus :=
  congrArg Prod.fst (s.releaseButtons_focusSide s.gu.pointerSlot)

theorem State.leavesTo_delivered (s : State) (pressed : Buttons) {n : Slot} (h : s.gu.pointerSlot = some n) :
    (s.leavesTo pressed).delivered n = 0 := by
  obtain ⟨-, -, -, delivered, -⟩ := s.releaseButtons_spec
  exact delivered n h

/-- The buttons held on are suppressed. -/
theorem State.leavesTo_suppressed (s : State) (pressed : Buttons) :
    s.ciu.buttons &&& ~~~pressed &&& ~~~(s.leavesTo pressed).gu.suppressed = 0 := by
  have buttons : (s.releaseButtons s.gu.pointerSlot).ciu.buttons = s.ciu.buttons :=
    congrArg (fun c => c.1.2.2.2.2) (s.releaseButtons_consoleSide s.gu.pointerSlot)
  have same : (s.leavesTo pressed).gu.suppressed =
      (s.releaseButtons s.gu.pointerSlot).gu.suppressed ||| (s.ciu.buttons &&& ~~~pressed) ||| 0 := by
    rw [show ∀ x : Buttons, x ||| 0 = x from fun x => BitVec.or_zero, ← buttons]
    rfl
  rw [same]
  exact and_not_or_self _ _ _

theorem State.crossing_of_follow {s : State} (follow : s.fc.follow = .follow) (pressed : Buttons) (n : Slot) :
    s.crossing s.gu.pointerSlot (some n) pressed = ((s.leavesTo pressed).clearAccumulators n).focusChange (some n) :=
  if_pos ((s.leavesTo_follow pressed).trans follow)

theorem State.crossing_of_separate {s : State} (separate : s.fc.follow = .separate) (pressed : Buttons) (n : Slot) :
    s.crossing s.gu.pointerSlot (some n) pressed = (s.leavesTo pressed).clearAccumulators n := by
  have stays : ¬ (s.leavesTo pressed).fc.follow = .follow := by
    rw [s.leavesTo_follow pressed, separate]
    decide
  exact if_neg stays

theorem FollowMode.cases_eq (m : FollowMode) : m = .follow ∨ m = .separate := by
  cases m with
  | follow => exact .inl rfl
  | separate => exact .inr rfl

section Crossing
variable (s : State) (o : Option Slot) (pressed : Buttons)

theorem State.crossing_covers : (s.leavesTo pressed).Covers (s.crossing s.gu.pointerSlot o pressed) := by
  cases o with
  | none => exact .refl _
  | some n =>
    rcases s.fc.follow.cases_eq with follow | separate
    · rw [State.crossing_of_follow follow]
      exact .focusChange ((s.leavesTo pressed).clearAccumulators n) (some n)
    · rw [State.crossing_of_separate separate]
      exact .of_same rfl

theorem State.crossing_delivered {n : Slot} (h : s.gu.pointerSlot = some n) (other : o ≠ some n) :
    (s.crossing s.gu.pointerSlot o pressed).delivered n = 0 := by
  have left := s.leavesTo_delivered pressed h
  cases o with
  | none => exact left
  | some m =>
    rcases s.fc.follow.cases_eq with follow | separate
    · rw [State.crossing_of_follow follow]
      exact (State.Spares.focusChange ((s.leavesTo pressed).clearAccumulators m) other).delivered left
    · rw [State.crossing_of_separate separate]
      exact left

theorem State.crossing_accumulators (n : Slot) : (s.crossing s.gu.pointerSlot (some n) pressed).gu.accX.get n = 0 ∧
    (s.crossing s.gu.pointerSlot (some n) pressed).gu.accY.get n = 0 := by
  have cleared : ((s.leavesTo pressed).clearAccumulators n).gu.accX.get n = 0 ∧
      ((s.leavesTo pressed).clearAccumulators n).gu.accY.get n = 0 := ⟨Table.get_put_same .., Table.get_put_same ..⟩
  rcases s.fc.follow.cases_eq with follow | separate
  · rw [State.crossing_of_follow follow]
    obtain ⟨-, -, -, -, hx, hy⟩ := State.place_of_side (State.focusChange_placeSide ((s.leavesTo pressed).clearAccumulators n) (some n))
    rwa [hx, hy]
  · rwa [State.crossing_of_separate separate]

theorem State.crossing_focus_kept (h : s.fc.follow = .separate ∨ o = none) :
    (s.crossing s.gu.pointerSlot o pressed).fc.focus = s.fc.focus := by
  have left := s.leavesTo_focus pressed
  cases o with
  | none => exact left
  | some n =>
    rw [State.crossing_of_separate (h.resolve_right (by simp))]
    exact left

theorem State.crossing_focus (n : Slot) (follow : s.fc.follow = .follow) :
    (s.crossing s.gu.pointerSlot (some n) pressed).fc.focus = some n := by
  rw [State.crossing_of_follow follow]
  exact congrArg Prod.fst (State.focusChange_focusSide ..)

theorem State.crossing_cmp : (s.crossing s.gu.pointerSlot o pressed).cmp = s.cmp := by
  have left : (s.leavesTo pressed).cmp = s.cmp := State.cmp_of_side (s.releaseButtons_deskSide s.gu.pointerSlot)
  cases o with
  | none => exact left
  | some n =>
    rcases s.fc.follow.cases_eq with follow | separate
    · rw [State.crossing_of_follow follow]
      exact (State.cmp_of_side (State.focusChange_deskSide ..)).trans left
    · rw [State.crossing_of_separate separate]
      exact left

end Crossing

end Sys2Proof.Machine


/-! A crossing while every queue has room (03, R52; 01, R18). -/

namespace Sys2Proof.Machine

theorem State.handedPort_length (s : State) {n : Slot} (room : (s.port n).queue.length < 16) (e : Entry) :
    (s.handedPort n e).queue.length ≤ (s.port n).queue.length + 1 := by
  obtain ⟨q, hq, length⟩ := takeEntry_of_room (s.port n).lastButtons room e
  rw [State.handedPort, hq]
  exact length

/-! ### The slot left -/

/-- The port of slot `m` after the release entry of the pointer slot's delivered buttons. -/
def State.leftPort (s : State) (m : Slot) : Port :=
  if s.gu.pointerSlot = some m ∧ s.delivered m ≠ 0 then s.handedPort m (.rel 0 0 0 0) else s.port m

theorem State.leftPort_link (s : State) (m : Slot) : (s.leftPort m).link = s.link m := by
  unfold State.leftPort
  split <;> rfl

theorem State.leftPort_length (s : State) {m : Slot} {k : Nat} (room : (s.port m).queue.length < k) (small : k ≤ 15) :
    (s.leftPort m).queue.length < k + 1 := by
  have := s.handedPort_length (n := m) (by omega) (.rel 0 0 0 0)
  unfold State.leftPort
  split <;> omega

/-- The release entry, with room in every queue: the slot's queue takes it, and its delivered buttons become empty. -/
theorem State.releaseButtons_of_room {s : State} (room : ∀ m, (s.port m).queue.length < 16) :
    let r := s.releaseButtons s.gu.pointerSlot
    (∀ m, r.port m = if s.link m = .off then s.port m else s.leftPort m) ∧ r.gu.suppressed = s.gu.suppressed ∧
    (∀ m, s.gu.pointerSlot ≠ some m → r.delivered m = s.delivered m) ∧ r.fc = s.fc ∧ r.wakes = s.wakes := by
  intro r
  rcases s.releaseButtons_cases with ⟨hr, none⟩ | ⟨n, slot, told, hr⟩
  · rw [show r = s from hr]
    refine ⟨fun m => ?_, rfl, fun _ _ => rfl, rfl, rfl⟩
    have same : s.leftPort m = s.port m := if_neg fun h => h.2 (none m h.1)
    rw [same, ite_self]
  · rw [show r = _ from hr]
    have left (m : Slot) : s.leftPort m = if m = n then s.handedPort m (.rel 0 0 0 0) else s.port m := by
      unfold State.leftPort
      by_cases hm : m = n
      · rw [if_pos hm, if_pos (by rw [hm]; exact ⟨slot, told⟩)]
      · rw [if_neg hm, if_neg fun h => hm (Option.some.inj (slot.symm.trans h.1)).symm]
    have others (m : Slot) (hm : s.gu.pointerSlot ≠ some m) : (s.setDelivered n 0).delivered m = s.delivered m :=
      Table.get_put_ne _ _ fun h => hm (h ▸ slot)
    by_cases on : s.link n = .off
    · rw [State.handOver_of_off (s := s.setDelivered n 0) on]
      refine ⟨fun m => ?_, rfl, others, rfl, rfl⟩
      rw [left]
      by_cases hm : m = n
      · rw [hm, if_pos on]
        rfl
      · rw [if_neg hm, ite_self]
        rfl
    · obtain ⟨beside, port, gu⟩ := State.handOver_of_room (s := s.setDelivered n 0) on (room n) (.rel 0 0 0 0)
      refine ⟨fun m => ?_, beside.suppressed, fun m hm => ?_, beside.fc, beside.wakes⟩
      · rw [left]
        by_cases hm : m = n
        · rw [hm, if_neg on, if_pos rfl]
          exact port
        · rw [if_neg hm, ite_self]
          exact beside.ports m hm
      · rw [State.delivered, gu]
        exact others m hm

/-! ### The slot that takes the focus -/

/-- The slot that the focus leaves is queued one empty image. -/
theorem State.leaveFocus_of_room {s : State} (room : ∀ m, (s.port m).queue.length < 16) (f : Option Slot) :
    (∀ m, (s.leaveFocus f).port m = if s.link m ≠ .off ∧ f = some m then
      { s.port m with queue := (s.port m).queue ++ [.keyboard KeyImage.empty] } else s.port m) ∧
    (s.leaveFocus f).gu = s.gu ∧ (s.leaveFocus f).wakes = s.wakes := by
  cases f with
  | none => exact ⟨fun m => (if_neg fun h => nomatch h.2).symm, rfl, rfl⟩
  | some n =>
    by_cases on : s.link n = .off
    · have same : s.leaveFocus (some n) = s.suppressHeld n := State.queueImage_of_off (s := s.suppressHeld n) on
      rw [same]
      refine ⟨fun m => (if_neg fun h => h.1 ?_).symm, rfl, rfl⟩
      rwa [← Option.some.inj h.2]
    · have taken : s.leaveFocus (some n) = (s.suppressHeld n).appended n (.keyboard KeyImage.empty) := by
        have image := State.queueImage_of_room (s := s.suppressHeld n) on (room n)
        rw [State.suppressHeld_sent, if_pos rfl] at image
        exact image
      rw [taken]
      refine ⟨fun m => ?_, rfl, rfl⟩
      by_cases hm : m = n
      · rw [hm, if_pos ⟨on, rfl⟩]
        exact Table.get_put_same ..
      · rw [if_neg fun h => hm (Option.some.inj h.2).symm]
        exact Table.get_put_ne _ _ hm

/-- A focus change to slot `n`, with room in every queue and no trigger: the slot left is queued one empty image. -/
theorem State.focusChange_of_room {s : State} {n : Slot} (room : ∀ m, (s.port m).queue.length < 16)
    (quiet : s.link n = .active ∨ s.fc.focus = some n ∨ (s.slotRecord n).wakeOnFocus = false) :
    let t := s.focusChange (some n)
    (∀ m, m ≠ n → t.port m = if s.link m ≠ .off ∧ s.fc.focus = some m then
      { s.port m with queue := (s.port m).queue ++ [.keyboard KeyImage.empty] } else s.port m) ∧
    t.port n = s.port n ∧ t.gu = s.gu ∧ t.wakes = s.wakes := by
  intro t
  by_cases same : s.fc.focus = some n
  · rw [show t = s from if_pos same.symm]
    refine ⟨fun m hm => ?_, rfl, rfl, rfl⟩
    rw [if_neg fun h => hm (Option.some.inj (h.2.symm.trans same))]
  · obtain ⟨ports, gu, wakes⟩ := State.leaveFocus_of_room room s.fc.focus
    have kept : (s.leaveFocus s.fc.focus).slotRecord n = s.slotRecord n :=
      congrArg (fun t : Tables => t.slots.get n) (State.tables_eq_of_outer_eq (s.leaveFocus_outer s.fc.focus))
    have portN : (s.leaveFocus s.fc.focus).port n = s.port n := (ports n).trans (if_neg fun h => same h.2)
    have entered : t = (s.leaveFocus s.fc.focus).enterFocus (some n) := by
      have changed : t = ((s.leaveFocus s.fc.focus).enterFocus (some n)).wakeOnFocus n := if_neg (Ne.symm same)
      rw [changed]
      refine if_neg fun ⟨resting, asks⟩ => ?_
      rcases quiet with active | focus | record
      · exact resting ((congrArg Port.link portN).trans active)
      · exact same focus
      · rw [← kept] at record
        exact Bool.false_ne_true (record.symm.trans asks)
    rw [entered]
    exact ⟨fun m _ => ports m, portN, gu, wakes⟩

/-! ### The crossing -/

/-- The port of slot `m` after a crossing to another slot: its release entry, and in FOLLOW mode the empty image of a focus left. -/
def State.crossedPort (s : State) (m : Slot) : Port :=
  if s.link m = .off then s.port m
  else if s.fc.follow = .follow ∧ s.fc.focus = some m then
    { s.leftPort m with queue := (s.leftPort m).queue ++ [.keyboard KeyImage.empty] }
  else s.leftPort m

/-- A crossing to slot `n`, with room in every queue and no trigger. -/
theorem State.crossing_of_room {s : State} {n : Slot} (other : s.gu.pointerSlot ≠ some n) (room : ∀ m, (s.port m).queue.length < 15)
    (quiet : s.link n = .active ∨ s.fc.follow = .separate ∨ s.fc.focus = some n ∨ (s.slotRecord n).wakeOnFocus = false)
    (pressed : Buttons) :
    let t := s.crossing s.gu.pointerSlot (some n) pressed
    t.port n = s.port n ∧ t.gu.suppressed = s.gu.suppressed ||| (s.ciu.buttons &&& ~~~pressed) ∧ t.delivered n = s.delivered n ∧
    t.wakes = s.wakes ∧ ∀ m, m ≠ n → t.port m = s.crossedPort m := by
  intro t
  obtain ⟨ports, suppressed, delivered, -, wakes⟩ := State.releaseButtons_of_room (s := s) fun m => Nat.lt_succ_of_lt (room m)
  have buttons : (s.releaseButtons s.gu.pointerSlot).ciu.buttons = s.ciu.buttons :=
    congrArg (fun c => c.1.2.2.2.2) (s.releaseButtons_consoleSide s.gu.pointerSlot)
  obtain ⟨c, hc⟩ : ∃ c, c = (s.leavesTo pressed).clearAccumulators n := ⟨_, rfl⟩
  have cPort (m : Slot) : c.port m = if s.link m = .off then s.port m else s.leftPort m := by
    rw [hc]
    exact ports m
  have cSuppressed : c.gu.suppressed = s.gu.suppressed ||| (s.ciu.buttons &&& ~~~pressed) := by
    rw [hc, ← suppressed, ← buttons]
    rfl
  have cDelivered : c.delivered n = s.delivered n := by
    rw [hc]
    exact delivered n other
  have cWakes : c.wakes = s.wakes := by
    rw [hc]
    exact wakes
  have cFocus : c.fc.focus = s.fc.focus := by
    rw [hc]
    exact s.leavesTo_focus pressed
  have cLink (m : Slot) : c.link m = s.link m := by
    rw [State.link, cPort]
    split
    · rfl
    · exact s.leftPort_link m
  have cRecord : c.slotRecord n = s.slotRecord n := by
    rw [hc]
    exact congrArg (fun t : Tables => t.slots.get n) (State.tables_eq_of_outer_eq (s.releaseButtons_outer s.gu.pointerSlot))
  have cRoom (m : Slot) : (c.port m).queue.length < 16 := by
    rw [cPort]
    split
    · exact Nat.lt_succ_of_lt (room m)
    · exact s.leftPort_length (room m) (le_refl 15)
  have portN : c.port n = s.port n := by
    have left : s.leftPort n = s.port n := if_neg fun h => other h.1
    rw [cPort, left, ite_self]
  rcases s.fc.follow.cases_eq with follow | separate
  · have eq : t = c.focusChange (some n) := (State.crossing_of_follow follow pressed n).trans (by rw [hc])
    obtain ⟨fPorts, fPort, fGu, fWakes⟩ := State.focusChange_of_room (s := c) (n := n) cRoom (by
      rw [cLink, cFocus, cRecord]
      rcases quiet with h | h | h | h
      · exact .inl h
      · exact nomatch follow.symm.trans h
      · exact .inr (.inl h)
      · exact .inr (.inr h))
    rw [eq]
    refine ⟨fPort.trans portN, (congrArg Gu.suppressed fGu).trans cSuppressed, ?_, fWakes.trans cWakes, fun m hm => ?_⟩
    · rw [State.delivered, fGu]
      exact cDelivered
    · rw [fPorts m hm, cLink, cFocus, cPort, State.crossedPort]
      by_cases off : s.link m = .off
      · rw [if_neg fun h => h.1 off, if_pos off, if_pos off]
      · rw [if_neg off, if_neg off]
        by_cases focus : s.fc.focus = some m
        · rw [if_pos ⟨off, focus⟩, if_pos ⟨follow, focus⟩]
        · rw [if_neg fun h => focus h.2, if_neg fun h => focus h.2]
  · have eq : t = c := (State.crossing_of_separate separate pressed n).trans hc.symm
    rw [eq]
    refine ⟨portN, cSuppressed, cDelivered, cWakes, fun m _ => ?_⟩
    have stays : ¬ (s.fc.follow = .follow ∧ s.fc.focus = some m) := fun h => nomatch separate.symm.trans h.1
    rw [cPort, State.crossedPort, if_neg stays]

end Sys2Proof.Machine


/-! What a pointer arrival delivers (03, R47, R52 to R56; 04, R69, R70). -/

namespace Sys2Proof.Machine

/-! ### Still arrivals (03, R47) -/

theorem delta_eq_zero {b : Byte} : delta b = 0 ↔ b = 0 := by
  have zero : b.toInt = 0 ↔ b = 0 := BitVec.toInt_inj (y := (0 : Byte))
  rw [← zero, delta]
  split <;> omega

theorem State.arrivalOf_still_iff (s : State) (x : Buttons) (dx dy w : Byte) :
    (s.arrivalOf x (delta dx) (delta dy) (delta w)).still = true ↔
      dx = 0 ∧ dy = 0 ∧ delta w = 0 ∧ x &&& ~~~s.ciu.buttons = 0 ∧ s.ciu.buttons &&& ~~~x = 0 := by
  rw [Arrival.still, decide_eq_true_iff]
  exact and_congr delta_eq_zero (and_congr delta_eq_zero Iff.rfl)

theorem State.passesOver_iff (s : State) (a : Arrival) (i : TileIx) (n : Slot) : s.passesOver a i n = true ↔
    a.still = true ∧ ¬ (s.tileMode i = .relative ∧ (16 ≤ (s.gu.accX.get n).natAbs ∨ 16 ≤ (s.gu.accY.get n).natAbs) ∧
      Config.stillArrivalPays = true) := by
  rw [State.passesOver, State.storesOutput, Bool.and_eq_true, Bool.not_eq_true', ← Bool.not_eq_true, Bool.and_eq_true,
    Bool.and_eq_true, Bool.or_eq_true, decide_eq_true_iff, decide_eq_true_iff, decide_eq_true_iff, and_assoc]

/-! ### The place of an arrival -/

theorem State.translate_of_placed {s : State} {i : TileIx} {r : Rect} (h : s.cmp.active.placed i = some r) (x y : Int) :
    s.translate i x y = (translateAxis (x - r.x) r.w (s.source (s.cmp.active.tiles.get i).source).ax0
      (s.source (s.cmp.active.tiles.get i).source).ax1, translateAxis (y - r.y) r.h (s.source (s.cmp.active.tiles.get i).source).ay0
      (s.source (s.cmp.active.tiles.get i).source).ay1) := by
  unfold State.translate
  rw [h]

section Place
variable {s : State} {a : Arrival} {x y : Int} (place : s.arrivalPlace a = (x, y))
include place

theorem State.moveArrival_at : ∃ rx ry, s.moveArrival a =
    (((s.setResidues rx ry).crossTo ((s.cmp.active.tileAt x y).bind s.tileSlot) a.pressed).moveTo x y).finishArrival a
      (x - s.gu.px) (y - s.gu.py) (decide ((s.cmp.active.tileAt x y).bind s.tileSlot ≠ s.gu.pointerSlot)) := by
  rw [State.moveArrival_eq, State.arrivalSlot, State.residuesOf, place]
  exact ⟨_, _, rfl⟩

theorem State.moveArrival_within (same : (s.cmp.active.tileAt x y).bind s.tileSlot = s.gu.pointerSlot) :
    ∃ rx ry, s.moveArrival a = ((s.setResidues rx ry).moveTo x y).finishArrival a (x - s.gu.px) (y - s.gu.py) false := by
  obtain ⟨rx, ry, eq⟩ := State.moveArrival_at place
  have stays : (s.setResidues rx ry).crossTo s.gu.pointerSlot a.pressed = s.setResidues rx ry :=
    if_neg (by simp [State.setResidues])
  rw [same, stays, decide_eq_false (by simp)] at eq
  exact ⟨rx, ry, eq⟩

theorem State.moveArrival_crossing (other : (s.cmp.active.tileAt x y).bind s.tileSlot ≠ s.gu.pointerSlot) : ∃ rx ry,
    s.moveArrival a = (((s.setResidues rx ry).crossing s.gu.pointerSlot ((s.cmp.active.tileAt x y).bind s.tileSlot) a.pressed).moveTo
      x y).finishArrival a (x - s.gu.px) (y - s.gu.py) true := by
  obtain ⟨rx, ry, eq⟩ := State.moveArrival_at place
  have crosses : (s.setResidues rx ry).crossTo ((s.cmp.active.tileAt x y).bind s.tileSlot) a.pressed =
      (s.setResidues rx ry).crossing s.gu.pointerSlot ((s.cmp.active.tileAt x y).bind s.tileSlot) a.pressed :=
    if_pos (decide_eq_true other)
  rw [crosses, decide_eq_true other] at eq
  exact ⟨rx, ry, eq⟩

end Place

/-! ### A place that does not deliver (03, R55) -/

theorem State.finishArrival_of_consumed {s : State} (h : s.delivers = none) (a : Arrival) (mx my : Int) (crossed : Bool) :
    s.finishArrival a mx my crossed = s.consumeArrival a.pressed := by
  rw [State.finishArrival, h]

/-- A press in a delivering tile of an OFF slot gives the trigger that its record asks for. -/
theorem State.consumeArrival_of_press {s : State} {i : TileIx} {n : Slot} {pressed : Buttons} (tile : s.gu.tile = some i)
    (slot : s.gu.pointerSlot = some n) (some : pressed ≠ 0) (mode : s.tileMode i ≠ .none)
    (allowed : (s.access n).inputAllowed = true) (off : s.link n = .off) (asks : (s.slotRecord n).wakeOnInput = true) :
    s.consumeArrival pressed = ((s.setGu { s.gu with suppressed := s.gu.suppressed ||| pressed }).trigger n .input).1 := by
  unfold State.consumeArrival
  dsimp only [State.setGu_gu]
  rw [tile, slot]
  refine (if_pos ⟨some, mode, allowed, off⟩).trans (if_pos ⟨fun active => ?_, asks⟩)
  exact nomatch off.symm.trans active

theorem State.consumeArrival_quiet {s : State} {pressed : Buttons}
    (h : pressed = 0 ∨ ∀ i n, s.gu.tile = some i → s.gu.pointerSlot = some n → s.tileMode i = .none ∨
      (s.access n).inputAllowed = false ∨ (s.slotRecord n).wakeOnInput = false) :
    s.consumeArrival pressed = s.setGu { s.gu with suppressed := s.gu.suppressed ||| pressed } := by
  unfold State.consumeArrival
  dsimp only [State.setGu_gu]
  split
  next i n tile slot =>
    split
    next press =>
      obtain ⟨some, mode, allowed, -⟩ := press
      refine if_neg fun asks => ?_
      rcases h with none | quiet
      · exact some none
      · rcases quiet i n tile slot with h | h | h
        · exact mode h
        · exact Bool.false_ne_true (h.symm.trans allowed)
        · exact Bool.false_ne_true (h.symm.trans asks.2)
    · rfl
  · rfl

end Sys2Proof.Machine


/-! What a pointer arrival delivers, at last (03, R47, R52 to R56; 04, R69, R70). -/

namespace Sys2Proof.Machine

/-- The state whose P has reached (x, y) in a place of its pointer slot, with a report's buttons and new residues. -/
def State.movedTo (s : State) (b : Buttons) (rx ry x y : Int) : State := ((s.withButtons b).setResidues rx ry).moveTo x y

theorem State.movedTo_translate {s : State} {i : TileIx} {r : Rect} (h : s.cmp.active.placed i = some r) (b : Buttons)
    (rx ry x y : Int) : (s.movedTo b rx ry x y).translate i (s.movedTo b rx ry x y).gu.px (s.movedTo b rx ry x y).gu.py =
      (translateAxis (x - r.x) r.w (s.source (s.cmp.active.tiles.get i).source).ax0
        (s.source (s.cmp.active.tiles.get i).source).ax1, translateAxis (y - r.y) r.h (s.source (s.cmp.active.tiles.get i).source).ay0
        (s.source (s.cmp.active.tiles.get i).source).ay1) :=
  State.translate_of_placed (s := s.movedTo b rx ry x y) h x y

/-- The state whose P has crossed to (x, y) in a place of another pointer slot, with a report's buttons and new residues. -/
def State.crossedTo (s : State) (b : Buttons) (rx ry x y : Int) (pressed : Buttons) : State :=
  (((s.withButtons b).setResidues rx ry).crossing s.gu.pointerSlot ((s.cmp.active.tileAt x y).bind s.tileSlot) pressed).moveTo x y

section CrossedTo
variable (s : State) (b : Buttons) (rx ry x y : Int) (pressed : Buttons)

theorem State.crossedTo_cmp : (s.crossedTo b rx ry x y pressed).cmp = s.cmp :=
  State.crossing_cmp ((s.withButtons b).setResidues rx ry) _ pressed

theorem State.crossedTo_tables : (s.crossedTo b rx ry x y pressed).tables = s.tables :=
  State.tables_eq_of_outer_eq (State.crossing_outer ((s.withButtons b).setResidues rx ry) s.gu.pointerSlot _ pressed)

theorem State.crossedTo_tile : (s.crossedTo b rx ry x y pressed).gu.tile = s.cmp.active.tileAt x y :=
  congrArg (fun c : Cmp => c.active.tileAt x y) (s.crossedTo_cmp b rx ry x y pressed)

theorem State.crossedTo_slot : (s.crossedTo b rx ry x y pressed).gu.pointerSlot = (s.cmp.active.tileAt x y).bind s.tileSlot := by
  have slots : (s.crossedTo b rx ry x y pressed).tileSlot = s.tileSlot :=
    funext fun i => State.tileSlot_of_eq (s.crossedTo_cmp b rx ry x y pressed) (s.crossedTo_tables b rx ry x y pressed) i
  rw [← s.crossedTo_tile b rx ry x y pressed, ← slots]
  rfl

/-- What the report pressed before stays off the deliverable buttons. -/
theorem State.crossedTo_suppressed : b &&& ~~~pressed &&& ~~~(s.crossedTo b rx ry x y pressed).gu.suppressed = 0 :=
  (State.crossing_covers ((s.withButtons b).setResidues rx ry) _ pressed).kept_off
    (State.leavesTo_suppressed ((s.withButtons b).setResidues rx ry) pressed)

theorem State.crossedTo_delivered {m : Slot} (h : s.gu.pointerSlot = some m)
    (other : (s.cmp.active.tileAt x y).bind s.tileSlot ≠ some m) : (s.crossedTo b rx ry x y pressed).delivered m = 0 :=
  State.crossing_delivered ((s.withButtons b).setResidues rx ry) _ pressed h other

theorem State.crossedTo_focus_kept (h : s.fc.follow = .separate ∨ (s.cmp.active.tileAt x y).bind s.tileSlot = none) :
    (s.crossedTo b rx ry x y pressed).fc.focus = s.fc.focus :=
  State.crossing_focus_kept ((s.withButtons b).setResidues rx ry) _ pressed h

variable {n : Slot} (slot : (s.cmp.active.tileAt x y).bind s.tileSlot = some n)
include slot

theorem State.crossedTo_focus (follow : s.fc.follow = .follow) : (s.crossedTo b rx ry x y pressed).fc.focus = some n := by
  unfold State.crossedTo
  rw [slot]
  exact State.crossing_focus ((s.withButtons b).setResidues rx ry) pressed n follow

theorem State.crossedTo_accumulators : (s.crossedTo b rx ry x y pressed).gu.accX.get n = 0 ∧
    (s.crossedTo b rx ry x y pressed).gu.accY.get n = 0 := by
  unfold State.crossedTo
  rw [slot]
  exact State.crossing_accumulators ((s.withButtons b).setResidues rx ry) pressed n

theorem State.crossedTo_of_room (other : s.gu.pointerSlot ≠ some n) (room : ∀ m, (s.port m).queue.length < 15)
    (quiet : s.link n = .active ∨ s.fc.follow = .separate ∨ s.fc.focus = some n ∨ (s.slotRecord n).wakeOnFocus = false) :
    let v := s.crossedTo b rx ry x y pressed
    v.port n = s.port n ∧ v.gu.suppressed = (s.withButtons b).gu.suppressed ||| (b &&& ~~~pressed) ∧ v.delivered n = s.delivered n ∧
    v.ciu.buttons = b ∧ v.wakes = s.wakes ∧ ∀ m, m ≠ n → v.port m = s.crossedPort m := by
  intro v
  have buttons : v.ciu.buttons = b := congrArg (·.1.2.2.2.2)
    (State.crossing_consoleSide ((s.withButtons b).setResidues rx ry) s.gu.pointerSlot ((s.cmp.active.tileAt x y).bind s.tileSlot) pressed)
  obtain ⟨port, suppressed, delivered, wakes, ports⟩ :=
    State.crossing_of_room (s := (s.withButtons b).setResidues rx ry) other room quiet pressed
  have eq : v = (((s.withButtons b).setResidues rx ry).crossing s.gu.pointerSlot (some n) pressed).moveTo x y := by
    rw [← slot]
    rfl
  refine ⟨?_, ?_, ?_, buttons, ?_, fun m hm => ?_⟩ <;> rw [eq]
  · exact port
  · exact suppressed
  · exact delivered
  · exact wakes
  · exact ports m hm

end CrossedTo

/-- Of the buttons that a report holds, those it pressed are deliverable after a crossing. -/
theorem newly_pressed (b old kept : Buttons) :
    b &&& ~~~(kept ||| (b &&& ~~~(b &&& ~~~old))) = b &&& ~~~old &&& ~~~kept := by
  ext i
  simp only [BitVec.getElem_and, BitVec.getElem_not, BitVec.getElem_or]
  cases b[i] <;> cases old[i] <;> simp

/-- Settles O22. -/
theorem pointerMotionIsDelivered : Obligations.PointerMotionIsDelivered := by
  intro s t b dx dy w taking ready hfirst hexec
  obtain ⟨r0, first⟩ := Option.isSome_iff_exists.mp hfirst
  obtain ⟨a, ha⟩ : ∃ a, a = s.arrivalOf (b.setWidth 5) (delta dx) (delta dy) (delta w) := ⟨_, rfl⟩
  have ht : t = (s.withButtons (b.setWidth 5)).moveArrival a := by
    rw [exec_pointerReport_bytes taking ready, State.buttonArrival_of_display first] at hexec
    rw [ha]
    exact (Host.Outcome.next.inj hexec).symm
  have hstill := s.arrivalOf_still_iff (b.setWidth 5) dx dy w
  rw [← ha] at hstill
  have wheel : a.wheel = delta w := congrArg Arrival.wheel ha
  have hpressed : a.pressed = b.setWidth 5 &&& ~~~s.ciu.buttons := congrArg Arrival.pressed ha
  obtain ⟨px, py, -, -⟩ := (s.withButtons (b.setWidth 5)).moveArrival_place a
  rw [← ht] at px py
  have place : (s.withButtons (b.setWidth 5)).arrivalPlace a = (t.gu.px, t.gu.py) := Prod.ext px.symm py.symm
  obtain ⟨x, hx⟩ : ∃ x, x = t.gu.px := ⟨_, rfl⟩
  obtain ⟨y, hy⟩ : ∃ y, y = t.gu.py := ⟨_, rfl⟩
  rw [← hx, ← hy] at place
  rw [← hx, ← hy]
  intro released pressed kept now mx my still gain handed placed
  refine ⟨?_, ?_, ?_⟩
  · intro i n r hnow hr slot pointer on allowed mode room buttons ox oy paid idle
    obtain ⟨rx, ry, eq⟩ := State.moveArrival_within place ((congrArg (·.bind s.tileSlot) hnow).trans (slot.trans pointer.symm))
    replace eq : t = (s.movedTo (b.setWidth 5) rx ry x y).finishArrival a mx my false := ht.trans eq
    have delivers : (s.movedTo (b.setWidth 5) rx ry x y).delivers = some (i, n) :=
      State.delivers_eq_some.mpr ⟨hnow, (congrArg (·.bind s.tileSlot) hnow).trans slot, mode, allowed, on⟩
    obtain ⟨u, ⟨beside, delivered, absolute, relative⟩, outcome⟩ := State.finishArrival_deliversTo (a := a) delivers room mx my false
    have idleIff : State.passesOver _ a i n = true ↔ idle := (State.passesOver_iff _ a i n).trans (and_congr hstill Iff.rfl)
    rw [← eq] at outcome
    refine ⟨u, ?_, fun mode' => ?_, fun mode' => ?_, ?_, beside.suppressed, beside.ports, beside.timers, beside.fc, beside.wakes,
      beside.tables, beside.cmp, beside.atu, beside.mgi⟩
    · rcases outcome with ⟨⟨made, asks⟩, eq⟩ | ⟨quiet, eq⟩
      · exact eq.trans (if_pos ⟨fun h => made (idleIff.mpr h), asks⟩).symm
      · exact eq.trans (if_neg fun h => quiet ⟨fun h' => h.1 (idleIff.mp h'), h.2⟩).symm
    · have entry := absolute mode'
      rw [State.movedTo_translate hr, wheel] at entry
      refine entry.trans (if_congr (or_congr idleIff ?_) rfl rfl)
      simp only [and_true]
      rfl
    · obtain ⟨port, accX, accY⟩ := relative mode'
      rw [wheel] at port
      exact ⟨port.trans (if_congr (or_congr idleIff Iff.rfl) rfl rfl), accX.trans (if_congr idleIff rfl rfl),
        accY.trans (if_congr idleIff rfl rfl)⟩
    · exact delivered.trans (if_congr idleIff rfl rfl)
  · intro same idle
    obtain ⟨rx, ry, eq⟩ := State.moveArrival_within place same
    have slotOf {i : TileIx} {n : Slot} (hi : now = some i) (hn : now.bind s.tileSlot = some n) : s.tileSlot i = some n := by
      rwa [hi] at hn
    have none : (s.movedTo (b.setWidth 5) rx ry x y).delivers = none := by
      refine Option.eq_none_iff_forall_ne_some.mpr fun ⟨i, n⟩ some => ?_
      obtain ⟨tile, slot, mode, allowed, on⟩ := State.delivers_eq_some.mp some
      rcases idle i n tile (slotOf tile slot) with h | h | h
      · exact mode h
      · exact Bool.false_ne_true (h.symm.trans allowed)
      · exact on h
    replace eq : t = (s.movedTo (b.setWidth 5) rx ry x y).consumeArrival pressed :=
      ht.trans (eq.trans ((State.finishArrival_of_consumed none a _ _ _).trans (by rw [hpressed])))
    refine ⟨(s.movedTo (b.setWidth 5) rx ry x y).setGu { (s.movedTo (b.setWidth 5) rx ry x y).gu with
        suppressed := (s.movedTo (b.setWidth 5) rx ry x y).gu.suppressed ||| pressed },
      rfl, rfl, rfl, rfl, rfl, rfl, rfl, rfl, fun i n tile slot press mode allowed off asks => ?_, fun quiet => ?_⟩
    · exact eq.trans (State.consumeArrival_of_press (s := s.movedTo (b.setWidth 5) rx ry x y) tile
        ((congrArg (·.bind s.tileSlot) tile).trans slot) press mode allowed off asks)
    · exact eq.trans (State.consumeArrival_quiet (quiet.imp_right fun h i n tile slot => h i n tile (slotOf tile slot)))
  · intro cross
    obtain ⟨rx, ry, eq⟩ := State.moveArrival_crossing place cross
    rw [hpressed] at eq
    obtain ⟨v, hv⟩ : ∃ v, v = s.crossedTo (b.setWidth 5) rx ry x y pressed := ⟨_, rfl⟩
    have vCmp := s.crossedTo_cmp (b.setWidth 5) rx ry x y pressed
    have vTables := s.crossedTo_tables (b.setWidth 5) rx ry x y pressed
    have vTile := s.crossedTo_tile (b.setWidth 5) rx ry x y pressed
    have vSlot := s.crossedTo_slot (b.setWidth 5) rx ry x y pressed
    have vSuppressed := s.crossedTo_suppressed (b.setWidth 5) rx ry x y pressed
    have vPlace : v.gu.px = x ∧ v.gu.py = y := by
      rw [hv]
      exact ⟨rfl, rfl⟩
    replace eq : t = v.finishArrival a mx my true := by
      rw [hv]
      exact ht.trans eq
    rw [← hv] at vCmp vTables vTile vSlot vSuppressed
    have tPosition := v.finishArrival_position a mx my true
    have tFocus := v.finishArrival_focusSide a mx my true
    rw [← eq] at tPosition tFocus
    refine ⟨(congrArg (·.2.2.2) tPosition).trans vSlot, ?_, fun m hm => ?_, fun h => ?_, fun n hn follow => ?_, fun n hn still => ?_, ?_⟩
    · rw [eq]
      exact (State.Covers.finishArrival v a mx my true).kept_off vSuppressed
    · have other : now.bind s.tileSlot ≠ some m := fun h => cross (h.trans hm.symm)
      rw [eq]
      refine (State.Spares.finishArrival v (fun h => other (vSlot.symm.trans h)) a mx my true).delivered ?_
      rw [hv]
      exact s.crossedTo_delivered _ rx ry x y pressed hm other
    · refine (congrArg Prod.fst tFocus).trans ?_
      rw [hv]
      exact s.crossedTo_focus_kept _ rx ry x y pressed h
    · refine (congrArg Prod.fst tFocus).trans ?_
      rw [hv]
      exact s.crossedTo_focus _ rx ry x y pressed hn follow
    · obtain ⟨accX, accY⟩ := State.finishArrival_accumulators (s := v) (fun i hi => by
        rw [State.tileMode_of_eq vCmp]
        exact still i (vTile.symm.trans hi)) a mx my true
      rw [eq, accX, accY, hv]
      exact s.crossedTo_accumulators _ rx ry x y pressed hn
    · intro i n r hnow hr slot on quiet allowed mode room buttons ox oy
      have hn : now.bind s.tileSlot = some n := (congrArg (·.bind s.tileSlot) hnow).trans slot
      obtain ⟨vPort, vKept, vDelivered, vPhysical, vWakes, vPorts⟩ := s.crossedTo_of_room (b.setWidth 5) rx ry x y pressed hn
        (fun h => cross (hn.trans h.symm)) room quiet
      obtain ⟨accX, accY⟩ := s.crossedTo_accumulators (b.setWidth 5) rx ry x y pressed hn
      rw [← hv] at vPort vKept vDelivered vPhysical vWakes vPorts accX accY
      have vButtons : v.deliverableButtons = buttons := by
        rw [State.deliverableButtons, vPhysical, vKept]
        exact newly_pressed (b.setWidth 5) s.ciu.buttons kept
      have vLink : v.link n = s.link n := congrArg Port.link vPort
      have vRecord : v.slotRecord n = s.slotRecord n := congrArg (fun t : Tables => t.slots.get n) vTables
      have vMode := State.tileMode_of_eq vCmp i
      have vHanded (e : Entry) : v.handedPort n e = handed n e := by
        rw [State.handedPort, vPort]
      have vTranslate : v.translate i v.gu.px v.gu.py = placed i r := by
        rw [State.translate_of_eq vCmp vTables, vPlace.1, vPlace.2]
        exact State.translate_of_placed hr x y
      have delivers : v.delivers = some (i, n) := State.delivers_eq_some.mpr ⟨vTile.trans hnow, vSlot.trans hn, by rwa [vMode],
        by rwa [State.access_of_eq vTables], by rwa [vLink]⟩
      have stillIff : v.passesOver a i n = true ↔ still := by
        rw [State.passesOver_iff, accX, accY, hstill]
        exact and_iff_left (by simp)
      obtain ⟨u, ⟨beside, delivered, absolute, relative⟩, outcome⟩ := State.finishArrival_deliversTo (a := a) delivers
        (by rw [vPort]; exact Nat.lt_succ_of_lt (room n)) mx my true
      have asksIff : v.AsksForWake n ↔
          s.link n ≠ .active ∧ buttons &&& ~~~s.delivered n ≠ 0 ∧ (s.slotRecord n).wakeOnInput = true := by
        rw [State.AsksForWake, vLink, vButtons, vDelivered, vRecord]
      rw [← eq, asksIff, stillIff] at outcome
      rw [vDelivered, vButtons] at delivered
      rw [vMode, vButtons, vDelivered, vTranslate, wheel, vHanded, vPort] at absolute
      rw [vMode] at relative
      refine ⟨u, ?_, fun mode' => ?_, fun mode' => ?_, ?_, beside.wakes.trans vWakes, beside.tables.trans vTables, fun m hm => ?_⟩
      · rcases outcome with ⟨asks, eq⟩ | ⟨quiet, eq⟩
        · exact eq.trans (if_pos asks).symm
        · exact eq.trans (if_neg quiet).symm
      · refine (absolute mode').trans (if_congr ((or_iff_left ?_).trans stillIff) rfl rfl)
        exact fun h => nomatch h.2.2.2.2
      · obtain ⟨port, accX', accY'⟩ := relative mode'
        rw [accX, accY, vRecord, vButtons, vDelivered, wheel, vHanded, vPort] at port
        rw [accX, vRecord] at accX'
        rw [accY, vRecord] at accY'
        exact ⟨port.trans (if_congr (or_congr stillIff Iff.rfl) rfl rfl), accX'.trans (if_congr stillIff rfl rfl),
          accY'.trans (if_congr stillIff rfl rfl)⟩
      · exact delivered.trans (if_congr stillIff rfl rfl)
      · rw [beside.ports m hm, vPorts m hm, State.crossedPort]
        rfl

end Sys2Proof.Machine
